-- ==== Sys2Proof/Word.lean ====
section
/-! DEFINITION. The machine words: the 18-bit register word, bytes, and the plainest arithmetic on them. -/

namespace Sys2Proof

/-- A register word (00_scope, Units: registers are 18 bits wide). -/
abbrev Word := BitVec 18

/-- A byte of flash, tally store, streams and frames. -/
abbrev Byte := BitVec 8

/-- The low `n` bits of `v` above bit `lo`. -/
def bitsOf (v hi lo : Nat) : Nat := (v >>> lo) % 2 ^ (hi + 1 - lo)

/-- `v` with bits `hi:lo` replaced by `x`. -/
def putBits (v hi lo x : Nat) : Nat :=
  v - (bitsOf v hi lo) * 2 ^ lo + (x % 2 ^ (hi + 1 - lo)) * 2 ^ lo

/-- The two's-complement integer that the low `w` bits of `v` spell. -/
def toSigned (w v : Nat) : Int :=
  let u := v % 2 ^ w
  if u < 2 ^ (w - 1) then (u : Int) else (u : Int) - (2 ^ w : Nat)

/-- The low `w` bits of an integer, two's complement. -/
def ofSigned (w : Nat) (i : Int) : Nat := (i % ((2 ^ w : Nat) : Int)).toNat

/-- `i` held between `lo` and `hi`. -/
def clampInt (lo hi i : Int) : Int := if i < lo then lo else if hi < i then hi else i

/-- Quotient of `a` by the positive `b`, rounded to nearest, a tie away from zero. -/
def roundDivAway (a : Int) (b : Nat) : Int :=
  if a < 0 then -(((-a).toNat * 2 + b) / (2 * b) : Nat) else ((a.toNat * 2 + b) / (2 * b) : Nat)

/-- Quotient of `a` by the positive `b`, rounded to nearest, a tie to the even quotient. -/
def roundDivEven (a : Int) (b : Nat) : Int :=
  let q := a / (b : Int)
  let r := a - q * (b : Int)
  if 2 * r < b then q
  else if (b : Int) < 2 * r then q + 1
  else if q % 2 = 0 then q else q + 1

/-- Does `x` stand in the list? (Structural, so that the kernel evaluates it.) -/
def memNat (x : Nat) : List Nat → Bool
  | [] => false
  | y :: ys => Nat.beq x y || memNat x ys

end Sys2Proof
end

