-- ==== Sys2Proof/Machine/RegTable.lean ====
section
/-! DEFINITION. The register tables of the spec as data: for every register its offset in its block, its fields,
their access codes (R12), reset values (R11) and the values the tables allow (R10, R52). -/

namespace Sys2Proof.Machine

/-- Access of a field: Table 0-3, with the RWL codes split by the condition that opens them (R54, R55, R117). -/
inductive Acc where
  | ro | rw | wo | w1c | rc
  /-- RWL opened by BLK_UNLOCK (R54), and to the loader in LOADING (R117). -/
  | rwl
  /-- RWL that the tables mark "LOADING only". -/
  | load
  /-- RWL of a loop slot, open in the slot states OPEN and MANUAL. -/
  | tune
  /-- The SYS tick fields (R32, R55): SERVICE and SYS unlocked, or LOADING. -/
  | tick
  /-- Schedule fields: LOADING, or the schedule disabled and SCHED unlocked. -/
  | sch
  /-- Trace unit fields: the unit IDLE or DONE and TRC unlocked, or LOADING. -/
  | trc
  /-- SVC_MON: SERVICE only. -/
  | svc
  /-- Head set registers: a plain write, refused for the set in force. -/
  | set
  /-- PSP select configuration: read only while a head owns the select. -/
  | psp
  deriving DecidableEq, Repr

/-- The values a field takes (R10, R52 step 3). -/
inductive Rng where
  | any
  | span (lo hi : Nat)
  | among (l : List Nat)
  deriving DecidableEq, Repr

/-- One field of a register table. -/
structure FSpec where
  hi : Nat
  lo : Nat
  acc : Acc
  reset : Nat
  rng : Rng
  deriving DecidableEq, Repr

/-- One register of a table, or an array of them: offset, two array dimensions (count, stride), fields. -/
structure Row where
  off : Nat
  n1 : Nat
  s1 : Nat
  n2 : Nat
  s2 : Nat
  fields : List FSpec
  deriving DecidableEq, Repr

/-- A named field: the register's key and the field's bit range. -/
structure Fld where
  key : Nat
  hi : Nat
  lo : Nat
  deriving DecidableEq, Repr

/-- Does the row hold the register at offset `o`? -/
def Row.has (r : Row) (o : Nat) : Bool :=
  Nat.ble r.off o &&
    (let d := o - r.off
     let i := if r.s1 = 0 then 0 else d / r.s1
     let e := if r.s1 = 0 then d else d % r.s1
     let i := if r.n1 ≤ i then r.n1 - 1 else i
     let e := if r.s1 = 0 then e else d - i * r.s1
     let j := if r.s2 = 0 then 0 else e / r.s2
     let e := if r.s2 = 0 then e else e % r.s2
     Nat.blt i r.n1 && Nat.blt j r.n2 && e == 0)

/-- Registers of SYS (Table 1-4; Table 1-5; Table 1-6; Table 1-7; Table 1-8; Table 1-9; Table 3-8; Table 2-14; Table 2-15). -/
def rowsSYS : List Row :=
  [
    ⟨0x0, 1, 0, 1, 0, [⟨17, 0, .ro, 0, .any⟩]⟩ /- SYS_ID0 -/,
    ⟨0x1, 1, 0, 1, 0, [⟨17, 9, .ro, 0, .any⟩, ⟨8, 0, .ro, 0, .any⟩]⟩ /- SYS_ID1 -/,
    ⟨0x2, 1, 0, 1, 0, [⟨6, 6, .ro, 0, .any⟩, ⟨5, 5, .ro, 0, .any⟩, ⟨4, 4, .ro, 0, .any⟩, ⟨3, 2, .ro, 0, .any⟩, ⟨1, 0, .ro, 0, .any⟩]⟩ /- SYS_STRAP -/,
    ⟨0x20, 1, 0, 1, 0, [⟨17, 0, .tick, 128500, .any⟩]⟩ /- SYS_STINC0 -/,
    ⟨0x21, 1, 0, 1, 0, [⟨12, 0, .tick, 1288, .any⟩]⟩ /- SYS_STINC1 -/,
    ⟨0x22, 1, 0, 1, 0, [⟨12, 0, .tick, 128, .any⟩]⟩ /- SYS_FTDIV -/,
    ⟨0x23, 1, 0, 1, 0, [⟨17, 0, .ro, 0, .any⟩]⟩ /- SYS_FRAME0 -/,
    ⟨0x24, 1, 0, 1, 0, [⟨17, 0, .ro, 0, .any⟩]⟩ /- SYS_FRAME1 -/,
    ⟨0x25, 1, 0, 1, 0, [⟨16, 12, .ro, 0, .any⟩, ⟨11, 11, .ro, 0, .any⟩, ⟨10, 10, .ro, 0, .any⟩]⟩ /- SYS_TICKSTAT -/]

/-- Registers of PWR (Table 4-7; Table 4-8; Table 4-9; Table 4-10; Table 4-11; Table 4-12). -/
def rowsPWR : List Row :=
  [
    ⟨0x0, 1, 0, 1, 0, [⟨4, 0, .rw, 0, .span 0 29⟩]⟩ /- PWR_DSEL -/,
    ⟨0x1, 1, 0, 1, 0, [⟨1, 0, .rwl, 0, .any⟩]⟩ /- PWR_DCTL -/,
    ⟨0x2, 1, 0, 1, 0, [⟨13, 9, .ro, 0, .any⟩, ⟨8, 4, .ro, 7, .any⟩, ⟨3, 3, .ro, 0, .any⟩, ⟨2, 2, .ro, 0, .any⟩, ⟨1, 0, .ro, 0, .any⟩]⟩ /- PWR_DSTAT -/,
    ⟨0x3, 1, 0, 1, 0, [⟨17, 0, .ro, 0, .any⟩]⟩ /- PWR_ONMAP0 -/,
    ⟨0x4, 1, 0, 1, 0, [⟨11, 0, .ro, 0, .any⟩]⟩ /- PWR_ONMAP1 -/,
    ⟨0x5, 1, 0, 1, 0, [⟨6, 6, .w1c, 0, .any⟩, ⟨5, 5, .w1c, 0, .any⟩, ⟨4, 4, .w1c, 0, .any⟩, ⟨3, 3, .w1c, 0, .any⟩, ⟨2, 2, .w1c, 0, .any⟩, ⟨1, 1, .w1c, 0, .any⟩]⟩ /- PWR_MON -/]

/-- Registers of CLK (Table 4-13; Table 4-14; Table 4-15; Table 4-16; Table 4-17). -/
def rowsCLK : List Row :=
  [
    ⟨0x0, 1, 0, 1, 0, [⟨6, 6, .ro, 0, .any⟩, ⟨5, 5, .ro, 0, .any⟩, ⟨4, 4, .ro, 0, .any⟩, ⟨3, 3, .ro, 0, .any⟩, ⟨2, 2, .ro, 0, .any⟩, ⟨1, 1, .ro, 0, .any⟩, ⟨0, 0, .ro, 0, .any⟩]⟩ /- CLK_STAT -/,
    ⟨0x1, 1, 0, 1, 0, [⟨9, 5, .ro, 20, .any⟩, ⟨4, 0, .ro, 20, .any⟩]⟩ /- CLK_FB -/,
    ⟨0x2, 1, 0, 1, 0, [⟨9, 0, .rwl, 60, .span 0 600⟩]⟩ /- CLK_HOLD -/,
    ⟨0x3, 1, 0, 1, 0, [⟨15, 8, .ro, 0, .any⟩, ⟨7, 0, .ro, 0, .any⟩]⟩ /- CLK_IOSC -/,
    ⟨0x4, 1, 0, 1, 0, [⟨17, 9, .ro, 0, .any⟩, ⟨8, 0, .ro, 0, .any⟩]⟩ /- CLK_LOSS -/]

/-- Registers of THM (Table 5-7; Table 5-8; Table 5-9; Table 5-10; Table 5-11; Table 5-12; Table 5-13; Table 5-14; Table 5-15; Table 5-16). -/
def rowsTHM : List Row :=
  [
    ⟨0x0, 16, 1, 1, 0, [⟨17, 17, .ro, 0, .any⟩, ⟨12, 0, .ro, 0, .any⟩]⟩ /- THM_TS -/,
    ⟨0x10, 1, 0, 1, 0, [⟨8, 8, .ro, 0, .any⟩, ⟨7, 7, .ro, 0, .any⟩, ⟨6, 6, .ro, 0, .any⟩, ⟨5, 4, .ro, 1, .any⟩, ⟨1, 0, .ro, 0, .any⟩]⟩ /- THM_STAT -/,
    ⟨0x11, 1, 0, 1, 0, [⟨17, 17, .ro, 0, .any⟩, ⟨16, 13, .ro, 0, .any⟩, ⟨12, 0, .ro, 0, .any⟩]⟩ /- THM_TJ -/,
    ⟨0x12, 1, 0, 1, 0, [⟨5, 4, .wo, 0, .among [0, 1]⟩, ⟨3, 0, .rw, 0, .any⟩]⟩ /- THM_CTL -/,
    ⟨0x13, 1, 0, 1, 0, [⟨3, 2, .ro, 0, .any⟩, ⟨0, 0, .rwl, 0, .any⟩]⟩ /- THM_AUTORESTART -/,
    ⟨0x14, 1, 0, 1, 0, [⟨15, 8, .ro, 0, .any⟩, ⟨7, 4, .ro, 0, .any⟩, ⟨3, 0, .ro, 0, .any⟩]⟩ /- THM_TRIP -/,
    ⟨0x15, 1, 0, 1, 0, [⟨17, 0, .rc, 0, .any⟩]⟩ /- THM_L3DROP -/,
    ⟨0x16, 1, 0, 1, 0, [⟨17, 17, .load, 0, .any⟩, ⟨11, 0, .load, 0, .any⟩]⟩ /- THM_PTTJ -/,
    ⟨0x17, 1, 0, 1, 0, [⟨17, 17, .load, 0, .any⟩, ⟨11, 0, .load, 0, .any⟩]⟩ /- THM_PTLVL -/,
    ⟨0x18, 1, 0, 1, 0, [⟨17, 17, .load, 0, .any⟩, ⟨11, 0, .load, 0, .any⟩]⟩ /- THM_PTTS -/]

/-- Registers of BOOT (Table 6-9; Table 6-10; Table 6-11; Table 6-12; Table 6-13; Table 6-14; Table 6-15; Table 6-16; Table 6-17; Table 6-18; Table 6-19). -/
def rowsBOOT : List Row :=
  [
    ⟨0x0, 1, 0, 1, 0, [⟨13, 10, .ro, 0, .any⟩, ⟨9, 8, .ro, 3, .any⟩, ⟨4, 0, .ro, 7, .any⟩]⟩ /- BOOT_STAT -/,
    ⟨0x1, 1, 0, 1, 0, [⟨14, 13, .ro, 0, .any⟩, ⟨12, 6, .ro, 127, .any⟩, ⟨5, 0, .ro, 0, .any⟩]⟩ /- BOOT_REASON -/,
    ⟨0x2, 1, 0, 1, 0, [⟨17, 0, .ro, 0, .any⟩]⟩ /- BOOT_SEQ -/,
    ⟨0x3, 1, 0, 1, 0, [⟨3, 3, .ro, 0, .any⟩, ⟨2, 2, .ro, 0, .any⟩, ⟨1, 1, .ro, 0, .any⟩, ⟨0, 0, .ro, 0, .any⟩]⟩ /- BOOT_UPD -/,
    ⟨0x4, 1, 0, 1, 0, [⟨17, 0, .ro, 0, .any⟩]⟩ /- BOOT_NEXTSEQ -/,
    ⟨0x5, 1, 0, 1, 0, [⟨17, 16, .rw, 0, .span 0 2⟩, ⟨15, 8, .rw, 0, .any⟩, ⟨7, 0, .rw, 0, .any⟩]⟩ /- BOOT_RLSEL -/,
    ⟨0x6, 1, 0, 1, 0, [⟨13, 9, .ro, 7, .any⟩, ⟨8, 6, .ro, 0, .any⟩, ⟨1, 0, .wo, 0, .among [0, 1]⟩]⟩ /- BOOT_RLCTL -/,
    ⟨0x7, 1, 0, 1, 0, [⟨17, 16, .wo, 0, .among [0, 1, 2]⟩, ⟨11, 0, .ro, 2048, .any⟩]⟩ /- BOOT_HCTL -/,
    ⟨0x8, 1, 0, 1, 0, [⟨17, 0, .ro, 0, .any⟩]⟩ /- BOOT_HCNT -/,
    ⟨0x9, 1, 0, 1, 0, [⟨2, 2, .w1c, 0, .any⟩, ⟨1, 1, .w1c, 0, .any⟩, ⟨0, 0, .ro, 0, .any⟩]⟩ /- BOOT_ALERT -/,
    ⟨0x200, 256, 1, 1, 0, [⟨15, 8, .wo, 0, .any⟩, ⟨7, 0, .wo, 0, .any⟩]⟩ /- BOOT_HDATA -/]

/-- Registers of TALLY (Table 16-28; Table 16-29; Table 16-30; Table 16-31; Table 16-32; Table 16-33; Table 16-34; Table 16-35). -/
def rowsTALLY : List Row :=
  [
    ⟨0x0, 1, 0, 1, 0, [⟨17, 13, .ro, 7, .any⟩, ⟨12, 12, .ro, 0, .any⟩, ⟨11, 11, .ro, 0, .any⟩, ⟨10, 10, .w1c, 0, .any⟩, ⟨9, 3, .ro, 0, .any⟩]⟩ /- TALLY_STAT -/,
    ⟨0x1, 1, 0, 1, 0, [⟨10, 0, .load, 2047, .span 1024 2047⟩]⟩ /- TALLY_PROTLO -/,
    ⟨0x2, 1, 0, 1, 0, [⟨10, 0, .load, 1024, .span 1024 2047⟩]⟩ /- TALLY_PROTHI -/,
    ⟨0x4, 1, 0, 1, 0, [⟨5, 0, .rw, 0, .any⟩]⟩ /- TALLY_RSEL -/,
    ⟨0x5, 1, 0, 1, 0, [⟨17, 16, .wo, 0, .any⟩, ⟨15, 11, .ro, 7, .any⟩, ⟨10, 10, .ro, 0, .any⟩]⟩ /- TALLY_RCMD -/,
    ⟨0x6, 1, 0, 1, 0, [⟨11, 0, .rw, 0, .any⟩]⟩ /- TALLY_RLEN -/,
    ⟨0x7, 1, 0, 1, 0, [⟨17, 0, .ro, 0, .any⟩]⟩ /- TALLY_RSEQ -/,
    ⟨0x8, 1, 0, 1, 0, [⟨10, 0, .ro, 0, .any⟩]⟩ /- TALLY_RBASE -/,
    ⟨0x10, 1, 0, 1, 0, [⟨5, 0, .rw, 0, .any⟩]⟩ /- TALLY_CSEL -/,
    ⟨0x11, 1, 0, 1, 0, [⟨17, 0, .ro, 0, .any⟩]⟩ /- TALLY_CVAL0 -/,
    ⟨0x12, 1, 0, 1, 0, [⟨17, 0, .ro, 0, .any⟩]⟩ /- TALLY_CVAL1 -/,
    ⟨0x13, 1, 0, 1, 0, [⟨17, 16, .wo, 0, .among [0, 1]⟩, ⟨15, 11, .ro, 7, .any⟩]⟩ /- TALLY_CCMD -/,
    ⟨0x18, 1, 0, 1, 0, [⟨17, 0, .rc, 0, .any⟩]⟩ /- TALLY_TORN -/,
    ⟨0x19, 1, 0, 1, 0, [⟨17, 0, .rc, 0, .any⟩]⟩ /- TALLY_EVOVF -/,
    ⟨0x1A, 1, 0, 1, 0, [⟨17, 0, .rc, 0, .any⟩]⟩ /- TALLY_LOCKCNT -/,
    ⟨0x100, 64, 2, 1, 0, [⟨14, 11, .load, 0, .any⟩, ⟨10, 0, .load, 0, .any⟩]⟩ /- TALLY_RDEF0 -/,
    ⟨0x101, 64, 2, 1, 0, [⟨10, 0, .load, 0, .any⟩]⟩ /- TALLY_RDEF1 -/]

/-- Registers of FLW (Table 16-12; Table 16-13; Table 16-14; Table 16-15; Table 16-16; Table 16-17; Table 16-18). -/
def rowsFLW : List Row :=
  [
    ⟨0x0, 2, 1, 1, 0, [⟨17, 13, .ro, 7, .any⟩, ⟨12, 10, .ro, 0, .any⟩, ⟨9, 9, .ro, 0, .any⟩, ⟨8, 5, .ro, 0, .any⟩, ⟨4, 2, .ro, 0, .any⟩]⟩ /- FLW_CHIP -/,
    ⟨0x2, 1, 0, 1, 0, [⟨11, 0, .rwl, 480, .span 361 1920⟩]⟩ /- FLW_CLK -/,
    ⟨0x3, 1, 0, 1, 0, [⟨17, 17, .rw, 0, .any⟩, ⟨16, 16, .rwl, 0, .any⟩, ⟨15, 15, .rwl, 0, .any⟩, ⟨3, 0, .rw, 0, .any⟩]⟩ /- FLW_WIN -/,
    ⟨0x4, 1, 0, 1, 0, [⟨17, 13, .ro, 7, .any⟩, ⟨12, 11, .ro, 2, .any⟩, ⟨10, 10, .ro, 0, .any⟩]⟩ /- FLW_WSTAT -/,
    ⟨0x5, 1, 0, 1, 0, [⟨17, 16, .wo, 0, .among [0, 1, 2]⟩, ⟨15, 14, .rw, 0, .span 0 2⟩, ⟨13, 13, .rw, 0, .any⟩]⟩ /- FLW_ECMD -/,
    ⟨0x6, 1, 0, 1, 0, [⟨17, 0, .rw, 0, .any⟩]⟩ /- FLW_EADDR0 -/,
    ⟨0x7, 1, 0, 1, 0, [⟨9, 0, .rw, 0, .any⟩]⟩ /- FLW_EADDR1 -/,
    ⟨0x8, 1, 0, 1, 0, [⟨17, 13, .ro, 14, .any⟩]⟩ /- FLW_ESTAT -/,
    ⟨0x10, 1, 0, 1, 0, [⟨17, 0, .rc, 0, .any⟩]⟩ /- FLW_WDISC -/,
    ⟨0x11, 1, 0, 1, 0, [⟨17, 0, .rc, 0, .any⟩]⟩ /- FLW_VFAIL -/]

/-- Registers of PSP (Table 16-19; Table 16-20; Table 16-21; Table 16-22). -/
def rowsPSP : List Row :=
  [
    ⟨0x0, 6, 1, 1, 0, [⟨17, 16, .psp, 0, .any⟩, ⟨15, 4, .psp, 300, .span 60 3000⟩, ⟨3, 3, .ro, 0, .any⟩]⟩ /- PSP_SCFG -/,
    ⟨0x10, 1, 0, 1, 0, [⟨9, 7, .rw, 0, .span 0 5⟩, ⟨6, 0, .rw, 1, .span 1 64⟩]⟩ /- PSP_HSEL -/,
    ⟨0x11, 1, 0, 1, 0, [⟨17, 16, .wo, 0, .among [0, 1]⟩, ⟨15, 11, .ro, 7, .any⟩]⟩ /- PSP_HCMD -/,
    ⟨0x20, 32, 1, 1, 0, [⟨15, 8, .rw, 0, .any⟩, ⟨7, 0, .rw, 0, .any⟩]⟩ /- PSP_TXD -/,
    ⟨0x40, 32, 1, 1, 0, [⟨15, 8, .ro, 0, .any⟩, ⟨7, 0, .ro, 0, .any⟩]⟩ /- PSP_RXD -/]

/-- Registers of HSP (Table 16-23; Table 16-24; Table 16-25; Table 16-26; Table 16-27). -/
def rowsHSP : List Row :=
  [
    ⟨0x0, 1, 0, 1, 0, [⟨17, 0, .rw, 0, .any⟩]⟩ /- HSP_PGPS -/,
    ⟨0x1, 1, 0, 1, 0, [⟨17, 0, .rw, 0, .any⟩]⟩ /- HSP_PGWR -/,
    ⟨0x2, 1, 0, 1, 0, [⟨17, 0, .rw, 0, .any⟩]⟩ /- HSP_PGFL -/,
    ⟨0x3, 1, 0, 1, 0, [⟨17, 0, .rw, 0, .any⟩]⟩ /- HSP_PGTA -/,
    ⟨0x4, 1, 0, 1, 0, [⟨17, 14, .ro, 0, .any⟩, ⟨13, 9, .ro, 7, .any⟩]⟩ /- HSP_WSTAT -/,
    ⟨0x5, 1, 0, 1, 0, [⟨12, 0, .rw, 0, .any⟩]⟩ /- HSP_IRQEN -/,
    ⟨0x6, 1, 0, 1, 0, [⟨12, 0, .w1c, 0, .any⟩]⟩ /- HSP_IRQ -/,
    ⟨0x7, 1, 0, 1, 0, [⟨17, 13, .ro, 7, .any⟩]⟩ /- HSP_LASTW -/,
    ⟨0x10, 1, 0, 1, 0, [⟨17, 0, .rc, 0, .any⟩]⟩ /- HSP_PERR -/,
    ⟨0x11, 1, 0, 1, 0, [⟨17, 0, .rc, 0, .any⟩]⟩ /- HSP_PARTIAL -/,
    ⟨0x12, 1, 0, 1, 0, [⟨17, 0, .rc, 0, .any⟩]⟩ /- HSP_ABORT -/,
    ⟨0x13, 1, 0, 1, 0, [⟨17, 0, .rc, 0, .any⟩]⟩ /- HSP_BADCMD -/]

/-- Registers of SVC (Table 18-24; Table 18-25; Table 18-26; Table 18-27; Table 18-28). -/
def rowsSVC : List Row :=
  [
    ⟨0x0, 1, 0, 1, 0, [⟨17, 16, .wo, 0, .among [0, 1, 2]⟩, ⟨15, 11, .ro, 7, .any⟩]⟩ /- SVC_CMD -/,
    ⟨0x1, 1, 0, 1, 0, [⟨17, 17, .ro, 0, .any⟩, ⟨16, 16, .ro, 0, .any⟩, ⟨15, 15, .ro, 0, .any⟩, ⟨14, 10, .ro, 7, .any⟩]⟩ /- SVC_STAT -/,
    ⟨0x2, 1, 0, 1, 0, [⟨3, 0, .svc, 0, .span 0 9⟩]⟩ /- SVC_MON -/,
    ⟨0x3, 1, 0, 1, 0, [⟨7, 0, .ro, 0, .any⟩]⟩ /- SVC_FORCED -/,
    ⟨0x10, 1, 0, 1, 0, [⟨17, 0, .rc, 0, .any⟩]⟩ /- SVC_LINES -/,
    ⟨0x11, 1, 0, 1, 0, [⟨17, 0, .rc, 0, .any⟩]⟩ /- SVC_FRAMING -/,
    ⟨0x12, 1, 0, 1, 0, [⟨17, 0, .rc, 0, .any⟩]⟩ /- SVC_LONG -/]

/-- Registers of FUSE (Table 18-29; Table 18-30; Table 18-31). -/
def rowsFUSE : List Row :=
  [
    ⟨0x0, 1, 0, 1, 0, [⟨7, 0, .rw, 0, .span 0 227⟩]⟩ /- FUSE_SEL -/,
    ⟨0x1, 1, 0, 1, 0, [⟨17, 0, .ro, 0, .any⟩]⟩ /- FUSE_DATA -/,
    ⟨0x2, 1, 0, 1, 0, [⟨17, 17, .ro, 0, .any⟩, ⟨16, 16, .ro, 0, .any⟩, ⟨15, 15, .ro, 0, .any⟩, ⟨14, 14, .ro, 0, .any⟩, ⟨13, 13, .ro, 0, .any⟩, ⟨12, 8, .ro, 7, .any⟩]⟩ /- FUSE_STAT -/,
    ⟨0x4, 4, 1, 1, 0, [⟨17, 0, .ro, 0, .any⟩]⟩ /- FUSE_SER -/]

/-- Registers of HEAD (Table 7-6; Table 7-7; Table 7-8; Table 7-9; Table 7-10; Table 7-11; Table 7-12; Table 7-13; Table 7-14; Table 7-15; Table 7-16; Table 7-17; Table 7-18; Table 7-19; Table 7-20; Table 7-21; Table 7-22; Table 7-23; Table 7-24; Table 7-25; Table 7-26; Table 7-27; Table 7-28; Table 7-29). -/
def rowsHEAD : List Row :=
  [
    ⟨0x0, 1, 0, 1, 0, [⟨17, 17, .load, 0, .any⟩, ⟨16, 15, .load, 0, .any⟩, ⟨14, 13, .load, 0, .span 0 2⟩, ⟨12, 10, .load, 2, .among [1, 2, 4]⟩, ⟨8, 0, .load, 250, .span 8 250⟩]⟩ /- HEAD_LINKCFG -/,
    ⟨0x1, 1, 0, 1, 0, [⟨11, 0, .load, 0, .span 1 2048⟩]⟩ /- HEAD_WIDTH -/,
    ⟨0x2, 1, 0, 1, 0, [⟨10, 0, .load, 0, .span 1 1536⟩]⟩ /- HEAD_HEIGHT -/,
    ⟨0x3, 1, 0, 1, 0, [⟨17, 0, .load, 0, .span 1 262143⟩]⟩ /- HEAD_TFE -/,
    ⟨0x4, 1, 0, 1, 0, [⟨17, 17, .rwl, 1, .any⟩, ⟨16, 10, .rwl, 10, .span 1 127⟩, ⟨9, 7, .rwl, 0, .span 0 5⟩, ⟨6, 4, .rwl, 1, .span 1 7⟩, ⟨3, 0, .rwl, 10, .span 1 15⟩]⟩ /- HEAD_CTRL -/,
    ⟨0x5, 1, 0, 1, 0, [⟨17, 17, .rwl, 0, .any⟩, ⟨16, 15, .rwl, 0, .any⟩, ⟨3, 0, .rwl, 4, .span 1 15⟩]⟩ /- HEAD_SETCFG -/,
    ⟨0x6, 1, 0, 1, 0, [⟨15, 0, .rwl, 0, .any⟩]⟩ /- HEAD_AINT -/,
    ⟨0x7, 1, 0, 1, 0, [⟨15, 0, .rwl, 0, .any⟩]⟩ /- HEAD_ABIAS -/,
    ⟨0x8, 1, 0, 1, 0, [⟨15, 0, .rwl, 0, .any⟩]⟩ /- HEAD_AGAIN -/,
    ⟨0x9, 1, 0, 1, 0, [⟨15, 0, .rwl, 0, .any⟩]⟩ /- HEAD_ALINK -/,
    ⟨0xA, 1, 0, 1, 0, [⟨17, 17, .rwl, 0, .any⟩, ⟨16, 13, .rwl, 0, .span 0 8⟩, ⟨12, 11, .rwl, 1, .span 0 2⟩, ⟨10, 10, .rwl, 0, .any⟩, ⟨7, 0, .rwl, 0, .any⟩]⟩ /- HEAD_TLMFPA -/,
    ⟨0xB, 1, 0, 1, 0, [⟨17, 17, .rwl, 0, .any⟩, ⟨16, 13, .rwl, 0, .span 0 8⟩, ⟨12, 11, .rwl, 1, .span 0 2⟩, ⟨10, 10, .rwl, 0, .any⟩, ⟨7, 0, .rwl, 0, .any⟩]⟩ /- HEAD_TLMSHT -/,
    ⟨0xC, 1, 0, 1, 0, [⟨17, 17, .rwl, 0, .any⟩, ⟨16, 13, .rwl, 0, .span 0 8⟩, ⟨12, 11, .rwl, 0, .span 0 0⟩, ⟨10, 10, .rwl, 0, .any⟩, ⟨7, 0, .rwl, 0, .any⟩]⟩ /- HEAD_TLMSET -/,
    ⟨0xD, 1, 0, 1, 0, [⟨17, 0, .rwl, 65536, .any⟩]⟩ /- HEAD_FPAGAIN -/,
    ⟨0xE, 1, 0, 1, 0, [⟨17, 0, .rwl, 0, .any⟩]⟩ /- HEAD_FPAOFS -/,
    ⟨0xF, 1, 0, 1, 0, [⟨17, 0, .rwl, 65536, .any⟩]⟩ /- HEAD_SHTGAIN -/,
    ⟨0x10, 1, 0, 1, 0, [⟨17, 0, .rwl, 0, .any⟩]⟩ /- HEAD_SHTOFS -/,
    ⟨0x20, 4, 4, 1, 0, [⟨15, 0, .set, 0, .any⟩]⟩ /- HEAD_SETINT -/,
    ⟨0x21, 4, 4, 1, 0, [⟨15, 0, .set, 0, .any⟩]⟩ /- HEAD_SETBIAS -/,
    ⟨0x22, 4, 4, 1, 0, [⟨17, 17, .ro, 0, .any⟩, ⟨7, 0, .set, 0, .any⟩]⟩ /- HEAD_SETGAIN -/] ++
  [
    ⟨0x30, 1, 0, 1, 0, [⟨17, 17, .rw, 0, .any⟩, ⟨16, 16, .rw, 1, .any⟩, ⟨9, 2, .rw, 0, .any⟩, ⟨1, 0, .rw, 0, .any⟩]⟩ /- HEAD_NEXTSET -/,
    ⟨0x31, 2, 1, 1, 0, [⟨15, 0, .rw, 0, .any⟩]⟩ /- HEAD_NEXTINT -/,
    ⟨0x33, 2, 1, 1, 0, [⟨17, 0, .rw, 0, .any⟩]⟩ /- HEAD_NEXTTGT -/,
    ⟨0x35, 1, 0, 1, 0, [⟨17, 16, .wo, 0, .among [0, 1, 2]⟩, ⟨15, 11, .ro, 7, .any⟩, ⟨10, 8, .ro, 0, .any⟩]⟩ /- HEAD_NEXTCTL -/,
    ⟨0x36, 2, 1, 1, 0, [⟨17, 0, .ro, 0, .any⟩]⟩ /- HEAD_APPLIED -/,
    ⟨0x40, 1, 0, 1, 0, [⟨17, 16, .ro, 0, .any⟩, ⟨15, 13, .ro, 0, .any⟩, ⟨12, 11, .ro, 0, .any⟩, ⟨8, 0, .ro, 0, .any⟩]⟩ /- HEAD_LINK -/,
    ⟨0x41, 1, 0, 1, 0, [⟨17, 13, .ro, 7, .any⟩, ⟨12, 10, .ro, 0, .any⟩, ⟨9, 8, .ro, 0, .any⟩]⟩ /- HEAD_NEG -/,
    ⟨0x42, 1, 0, 1, 0, [⟨2, 2, .ro, 0, .any⟩, ⟨1, 0, .ro, 0, .any⟩]⟩ /- HEAD_CUR -/,
    ⟨0x43, 1, 0, 1, 0, [⟨17, 0, .ro, 0, .any⟩]⟩ /- HEAD_GEN -/,
    ⟨0x44, 1, 0, 1, 0, [⟨17, 13, .ro, 7, .any⟩, ⟨11, 11, .ro, 0, .any⟩, ⟨10, 10, .ro, 0, .any⟩, ⟨9, 9, .ro, 0, .any⟩, ⟨8, 8, .ro, 0, .any⟩, ⟨7, 7, .ro, 0, .any⟩, ⟨6, 6, .ro, 0, .any⟩, ⟨5, 5, .ro, 0, .any⟩, ⟨4, 4, .ro, 0, .any⟩, ⟨3, 3, .ro, 0, .any⟩, ⟨2, 2, .ro, 0, .any⟩, ⟨1, 1, .ro, 0, .any⟩, ⟨0, 0, .ro, 0, .any⟩]⟩ /- HEAD_FSTAT -/,
    ⟨0x45, 1, 0, 1, 0, [⟨17, 0, .ro, 0, .any⟩]⟩ /- HEAD_FPA -/,
    ⟨0x46, 1, 0, 1, 0, [⟨17, 0, .ro, 0, .any⟩]⟩ /- HEAD_SHT -/,
    ⟨0x50, 1, 0, 1, 0, [⟨17, 0, .rc, 0, .any⟩]⟩ /- HEAD_SHORT -/,
    ⟨0x51, 1, 0, 1, 0, [⟨17, 0, .rc, 0, .any⟩]⟩ /- HEAD_LONG -/,
    ⟨0x52, 1, 0, 1, 0, [⟨17, 0, .rc, 0, .any⟩]⟩ /- HEAD_DROP -/,
    ⟨0x53, 1, 0, 1, 0, [⟨17, 0, .rc, 0, .any⟩]⟩ /- HEAD_NOFS -/,
    ⟨0x54, 1, 0, 1, 0, [⟨17, 0, .rc, 0, .any⟩]⟩ /- HEAD_EXTRA -/,
    ⟨0x55, 1, 0, 1, 0, [⟨17, 0, .rc, 0, .any⟩]⟩ /- HEAD_ECC1 -/,
    ⟨0x56, 1, 0, 1, 0, [⟨17, 0, .rc, 0, .any⟩]⟩ /- HEAD_ECC2 -/,
    ⟨0x57, 1, 0, 1, 0, [⟨17, 0, .rc, 0, .any⟩]⟩ /- HEAD_CRC -/] ++
  [
    ⟨0x58, 1, 0, 1, 0, [⟨17, 0, .rc, 0, .any⟩]⟩ /- HEAD_DISC -/,
    ⟨0x59, 1, 0, 1, 0, [⟨17, 0, .rc, 0, .any⟩]⟩ /- HEAD_TLMMISS -/]

/-- Registers of PE (Table 8-9; Table 8-10; Table 8-11; Table 8-12; Table 8-13; Table 8-14; Table 8-15; Table 8-16; Table 8-17; Table 8-18; Table 8-19; Table 8-20; Table 8-21; Table 8-22). -/
def rowsPE : List Row :=
  [
    ⟨0x0, 1, 0, 1, 0, [⟨17, 17, .rwl, 0, .any⟩, ⟨16, 16, .rwl, 0, .any⟩]⟩ /- PE_CTL -/,
    ⟨0x1, 1, 0, 1, 0, [⟨17, 0, .rwl, 3600, .span 1 262143⟩]⟩ /- PE_RPER -/,
    ⟨0x2, 1, 0, 1, 0, [⟨17, 9, .rwl, 40, .span 1 511⟩, ⟨8, 0, .rwl, 4, .span 0 510⟩]⟩ /- PE_RGATE -/,
    ⟨0x3, 1, 0, 1, 0, [⟨17, 0, .rwl, 200, .any⟩]⟩ /- PE_RFLAT -/,
    ⟨0x4, 1, 0, 1, 0, [⟨17, 0, .rwl, 128, .any⟩]⟩ /- PE_TFMLO -/,
    ⟨0x5, 1, 0, 1, 0, [⟨17, 0, .rwl, 1024, .any⟩]⟩ /- PE_TFMHI -/,
    ⟨0x6, 1, 0, 1, 0, [⟨8, 0, .rwl, 256, .span 1 256⟩]⟩ /- PE_TFALPHA -/,
    ⟨0x7, 1, 0, 1, 0, [⟨17, 16, .wo, 0, .among [0, 1]⟩]⟩ /- PE_CMD -/,
    ⟨0x10, 4, 1, 1, 0, [⟨17, 0, .ro, 0, .any⟩]⟩ /- PE_SREF -/,
    ⟨0x14, 4, 1, 1, 0, [⟨17, 0, .ro, 0, .any⟩]⟩ /- PE_TCAL -/,
    ⟨0x80, 256, 1, 1, 0, [⟨17, 0, .ro, 65536, .any⟩]⟩ /- PE_GT -/,
    ⟨0x180, 256, 1, 1, 0, [⟨17, 0, .ro, 0, .any⟩]⟩ /- PE_A1 -/,
    ⟨0x280, 256, 1, 1, 0, [⟨17, 0, .ro, 0, .any⟩]⟩ /- PE_A2 -/,
    ⟨0x20, 1, 0, 1, 0, [⟨17, 13, .ro, 7, .any⟩, ⟨12, 12, .ro, 0, .any⟩, ⟨11, 11, .ro, 0, .any⟩, ⟨10, 10, .ro, 0, .any⟩, ⟨9, 9, .ro, 0, .any⟩, ⟨8, 8, .ro, 0, .any⟩, ⟨7, 7, .ro, 0, .any⟩, ⟨6, 6, .ro, 0, .any⟩, ⟨5, 5, .ro, 0, .any⟩, ⟨1, 0, .ro, 0, .any⟩]⟩ /- PE_BSTAT -/,
    ⟨0x21, 2, 1, 1, 0, [⟨17, 0, .ro, 0, .any⟩]⟩ /- PE_BFRAME -/,
    ⟨0x23, 1, 0, 1, 0, [⟨17, 0, .ro, 0, .any⟩]⟩ /- PE_BTIME -/,
    ⟨0x24, 1, 0, 1, 0, [⟨17, 0, .rc, 0, .any⟩]⟩ /- PE_BMAX -/,
    ⟨0x25, 1, 0, 1, 0, [⟨17, 0, .ro, 0, .any⟩]⟩ /- PE_RACT -/,
    ⟨0x26, 1, 0, 1, 0, [⟨17, 0, .ro, 0, .any⟩]⟩ /- PE_SAT -/,
    ⟨0x30, 1, 0, 1, 0, [⟨17, 0, .rc, 0, .any⟩]⟩ /- PE_LATE -/] ++
  [
    ⟨0x31, 1, 0, 1, 0, [⟨17, 0, .rc, 0, .any⟩]⟩ /- PE_RING -/,
    ⟨0x32, 1, 0, 1, 0, [⟨17, 0, .rc, 0, .any⟩]⟩ /- PE_CECC -/,
    ⟨0x33, 1, 0, 1, 0, [⟨17, 0, .rc, 0, .any⟩]⟩ /- PE_UECC -/]

/-- Registers of SHUT (Table 9-8; Table 9-9; Table 9-10; Table 9-11; Table 9-12; Table 9-13; Table 9-14; Table 9-15; Table 9-16; Table 9-17; Table 9-18; Table 9-19; Table 9-20; Table 9-21; Table 9-22; Table 9-23). -/
def rowsSHUT : List Row :=
  [
    ⟨0x0, 1, 0, 1, 0, [⟨17, 17, .rwl, 0, .any⟩, ⟨16, 16, .rwl, 0, .any⟩, ⟨10, 0, .rwl, 120, .span 0 1439⟩]⟩ /- SHUT_CRCFG -/,
    ⟨0x1, 1, 0, 1, 0, [⟨17, 13, .ro, 7, .any⟩, ⟨9, 8, .ro, 0, .any⟩, ⟨7, 7, .ro, 0, .any⟩]⟩ /- SHUT_CRSTAT -/,
    ⟨0x40, 4, 32, 1, 0, [⟨17, 17, .rwl, 0, .any⟩, ⟨16, 14, .rwl, 0, .any⟩, ⟨13, 7, .rwl, 40, .span 1 127⟩, ⟨6, 0, .rwl, 40, .span 1 127⟩]⟩ /- SHUT_CFG -/,
    ⟨0x41, 4, 32, 1, 0, [⟨17, 14, .rwl, 2, .span 1 15⟩, ⟨13, 12, .rwl, 2, .span 0 2⟩, ⟨11, 11, .rwl, 0, .any⟩, ⟨3, 0, .rwl, 15, .any⟩]⟩ /- SHUT_SEQ -/,
    ⟨0x42, 4, 32, 1, 0, [⟨15, 0, .rwl, 60, .span 1 65535⟩]⟩ /- SHUT_TMIN -/,
    ⟨0x43, 4, 32, 1, 0, [⟨15, 0, .rwl, 3600, .span 1 65535⟩]⟩ /- SHUT_TMAX -/,
    ⟨0x44, 4, 32, 1, 0, [⟨17, 10, .rwl, 40, .span 1 255⟩, ⟨9, 0, .rwl, 0, .any⟩]⟩ /- SHUT_BLIND -/,
    ⟨0x45, 4, 32, 1, 0, [⟨17, 0, .rwl, 256, .any⟩]⟩ /- SHUT_RATHR -/,
    ⟨0x46, 4, 32, 1, 0, [⟨13, 0, .rwl, 1024, .span 1 16383⟩]⟩ /- SHUT_FPATHR -/,
    ⟨0x47, 4, 32, 1, 0, [⟨17, 0, .rwl, 2000, .any⟩]⟩ /- SHUT_UNIF -/,
    ⟨0x48, 4, 32, 1, 0, [⟨17, 16, .wo, 0, .among [0, 1, 2]⟩, ⟨15, 11, .ro, 7, .any⟩]⟩ /- SHUT_CMD -/,
    ⟨0x49, 4, 32, 1, 0, [⟨17, 15, .ro, 0, .any⟩, ⟨14, 10, .ro, 7, .any⟩, ⟨9, 4, .ro, 0, .any⟩, ⟨3, 3, .ro, 0, .any⟩, ⟨2, 2, .ro, 0, .any⟩]⟩ /- SHUT_STAT -/,
    ⟨0x4A, 4, 32, 1, 0, [⟨17, 0, .ro, 0, .any⟩]⟩ /- SHUT_ELAPSED -/,
    ⟨0x4B, 4, 32, 1, 0, [⟨17, 0, .ro, 0, .any⟩]⟩ /- SHUT_BLRES -/,
    ⟨0x4C, 4, 32, 1, 0, [⟨17, 0, .ro, 0, .any⟩]⟩ /- SHUT_LASTF0 -/,
    ⟨0x4D, 4, 32, 1, 0, [⟨17, 0, .ro, 0, .any⟩]⟩ /- SHUT_LASTF1 -/,
    ⟨0x4E, 4, 32, 1, 0, [⟨17, 0, .ro, 0, .any⟩]⟩ /- SHUT_TSHUT -/,
    ⟨0x4F, 4, 32, 1, 0, [⟨17, 0, .ro, 0, .any⟩]⟩ /- SHUT_CLIP -/,
    ⟨0x50, 4, 32, 1, 0, [⟨17, 0, .rwl, 131072, .span 13108 131072⟩]⟩ /- SHUT_EPS -/,
    ⟨0x51, 4, 32, 1, 0, [⟨17, 0, .rwl, 150093, .any⟩]⟩ /- SHUT_TREFL -/] ++
  [
    ⟨0x52, 4, 32, 1, 0, [⟨17, 17, .rwl, 0, .any⟩, ⟨11, 0, .rwl, 0, .any⟩]⟩ /- SHUT_ARCH0 -/,
    ⟨0x53, 4, 32, 1, 0, [⟨17, 15, .rwl, 0, .among [0, 2, 3, 4, 5, 6, 7]⟩, ⟨14, 10, .ro, 7, .any⟩, ⟨7, 0, .rwl, 16, .span 1 255⟩]⟩ /- SHUT_ARCH1 -/,
    ⟨0x54, 4, 32, 1, 0, [⟨9, 0, .rwl, 50, .span 1 1000⟩]⟩ /- SHUT_NETDT -/,
    ⟨0x55, 4, 32, 1, 0, [⟨17, 0, .ro, 0, .any⟩]⟩ /- SHUT_NETD -/,
    ⟨0x56, 4, 32, 1, 0, [⟨17, 0, .ro, 0, .any⟩]⟩ /- SHUT_NEWSNAG -/,
    ⟨0x57, 4, 32, 1, 0, [⟨17, 0, .ro, 0, .any⟩]⟩ /- SHUT_RESP -/,
    ⟨0x200, 4, 64, 4, 16, [⟨17, 0, .ro, 0, .any⟩]⟩ /- SHUT_CVB -/,
    ⟨0x201, 4, 64, 4, 16, [⟨17, 0, .ro, 0, .any⟩]⟩ /- SHUT_CVR0 -/,
    ⟨0x202, 4, 64, 4, 16, [⟨17, 0, .ro, 0, .any⟩]⟩ /- SHUT_CVR1 -/,
    ⟨0x203, 4, 64, 4, 16, [⟨17, 0, .ro, 0, .any⟩]⟩ /- SHUT_CVF -/,
    ⟨0x204, 4, 64, 4, 16, [⟨17, 0, .ro, 0, .any⟩]⟩ /- SHUT_CVO -/,
    ⟨0x205, 4, 64, 4, 16, [⟨17, 0, .ro, 0, .any⟩]⟩ /- SHUT_TLO -/,
    ⟨0x206, 4, 64, 4, 16, [⟨17, 0, .ro, 0, .any⟩]⟩ /- SHUT_THI -/,
    ⟨0x207, 4, 64, 4, 16, [⟨17, 0, .ro, 0, .any⟩]⟩ /- SHUT_WLO -/,
    ⟨0x208, 4, 64, 4, 16, [⟨17, 0, .ro, 0, .any⟩]⟩ /- SHUT_WSCL -/,
    ⟨0x209, 4, 64, 4, 16, [⟨17, 13, .ro, 7, .any⟩]⟩ /- SHUT_TABST -/]

/-- Registers of STAND (Table 10-7; Table 10-11; Table 10-12; Table 10-13; Table 10-14; Table 10-15). -/
def rowsSTAND : List Row :=
  [
    ⟨0x0, 1, 0, 1, 0, [⟨9, 0, .rw, 1, .span 1 1023⟩]⟩ /- STAND_SSEL -/,
    ⟨0x8, 1, 0, 1, 0, [⟨14, 10, .ro, 7, .any⟩, ⟨9, 0, .rw, 0, .any⟩]⟩ /- STAND_RSEL -/,
    ⟨0x10, 28, 1, 1, 0, [⟨17, 0, .ro, 0, .any⟩]⟩ /- STAND_REC -/,
    ⟨0x30, 1, 0, 1, 0, [⟨17, 0, .rc, 0, .any⟩]⟩ /- STAND_FOREIGN -/,
    ⟨0x31, 1, 0, 1, 0, [⟨17, 0, .rc, 0, .any⟩]⟩ /- STAND_UECC -/,
    ⟨0x40, 1, 0, 1, 0, [⟨3, 0, .rwl, 0, .any⟩]⟩ /- STAND_TZCFG -/,
    ⟨0x280, 320, 1, 1, 0, [⟨17, 0, .ro, 0, .any⟩]⟩ /- STAND_TZ -/]

/-- Registers of STANDWIN (Table 10-8; Table 10-9; Table 10-10). -/
def rowsSTANDWIN : List Row :=
  [
    ⟨0x0, 1, 0, 1, 0, [⟨17, 17, .load, 0, .any⟩, ⟨16, 16, .rwl, 0, .any⟩, ⟨15, 14, .load, 0, .any⟩, ⟨6, 0, .load, 0, .any⟩]⟩ /- STAND_SCFG0 -/,
    ⟨0x1, 1, 0, 1, 0, [⟨17, 0, .rwl, 131072, .span 13108 131072⟩]⟩ /- STAND_SCFG_EPS -/,
    ⟨0x2, 1, 0, 1, 0, [⟨17, 0, .rwl, 150093, .any⟩]⟩ /- STAND_SCFG_TREFL -/,
    ⟨0x3, 1, 0, 1, 0, [⟨17, 0, .rwl, 143360, .any⟩]⟩ /- STAND_SCFG_HLO -/,
    ⟨0x4, 1, 0, 1, 0, [⟨17, 0, .rwl, 163840, .any⟩]⟩ /- STAND_SCFG_HHI -/,
    ⟨0x5, 1, 0, 1, 0, [⟨11, 0, .load, 0, .any⟩]⟩ /- STAND_SCFG5 -/]

/-- Registers of OCC (Table 10-16; Table 10-17; Table 10-18; Table 10-19; Table 10-20; Table 10-21; Table 10-22; Table 10-23; Table 10-24; Table 10-25; Table 10-26; Table 10-27; Table 10-28). -/
def rowsOCC : List Row :=
  [
    ⟨0x0, 4, 32, 1, 0, [⟨17, 17, .rwl, 0, .any⟩, ⟨16, 13, .rwl, 10, .any⟩, ⟨12, 5, .rwl, 8, .span 1 255⟩]⟩ /- OCC_CFG -/,
    ⟨0x1, 4, 32, 1, 0, [⟨17, 0, .rwl, 768, .span 1 262143⟩]⟩ /- OCC_FGTHR -/,
    ⟨0x2, 4, 32, 1, 0, [⟨17, 0, .rwl, 154112, .any⟩]⟩ /- OCC_SKINLO -/,
    ⟨0x3, 4, 32, 1, 0, [⟨17, 0, .rwl, 159232, .any⟩]⟩ /- OCC_SKINHI -/,
    ⟨0x4, 4, 32, 1, 0, [⟨17, 9, .rwl, 0, .any⟩, ⟨8, 0, .rwl, 8, .span 1 511⟩]⟩ /- OCC_AREA -/,
    ⟨0x5, 4, 32, 1, 0, [⟨17, 9, .rwl, 24, .span 1 511⟩, ⟨8, 0, .rwl, 30, .span 1 511⟩]⟩ /- OCC_TRK -/,
    ⟨0x6, 4, 32, 1, 0, [⟨15, 0, .rwl, 300, .any⟩]⟩ /- OCC_VACHOLD -/,
    ⟨0x7, 4, 32, 1, 0, [⟨17, 16, .wo, 0, .among [0, 1, 2]⟩]⟩ /- OCC_CMD -/,
    ⟨0x8, 4, 32, 1, 0, [⟨17, 13, .ro, 7, .any⟩, ⟨12, 12, .ro, 0, .any⟩, ⟨11, 11, .ro, 0, .any⟩, ⟨10, 10, .ro, 0, .any⟩, ⟨9, 9, .ro, 0, .any⟩, ⟨8, 0, .ro, 0, .any⟩]⟩ /- OCC_FSTAT -/,
    ⟨0x9, 4, 32, 1, 0, [⟨7, 0, .ro, 0, .any⟩]⟩ /- OCC_TRACKS -/,
    ⟨0xA, 4, 32, 1, 0, [⟨17, 0, .ro, 0, .any⟩]⟩ /- OCC_FRAME0 -/,
    ⟨0xB, 4, 32, 1, 0, [⟨17, 0, .ro, 0, .any⟩]⟩ /- OCC_FRAME1 -/,
    ⟨0xC, 4, 32, 1, 0, [⟨17, 0, .rc, 0, .any⟩]⟩ /- OCC_BOVF -/,
    ⟨0xD, 4, 32, 1, 0, [⟨17, 0, .rc, 0, .any⟩]⟩ /- OCC_TOVF -/,
    ⟨0xE, 4, 32, 1, 0, [⟨17, 0, .rc, 0, .any⟩]⟩ /- OCC_LOVF -/,
    ⟨0x100, 1, 0, 1, 0, [⟨9, 8, .rw, 0, .any⟩, ⟨7, 0, .rw, 0, .any⟩]⟩ /- OCC_BSEL -/,
    ⟨0x101, 1, 0, 1, 0, [⟨17, 13, .ro, 7, .any⟩, ⟨7, 0, .ro, 0, .any⟩]⟩ /- OCC_BCAP -/,
    ⟨0x110, 11, 1, 1, 0, [⟨17, 0, .ro, 0, .any⟩]⟩ /- OCC_BREC -/]

/-- Registers of CTX (Table 10-29; Table 10-30; Table 10-31; Table 10-32; Table 10-33; Table 10-34). -/
def rowsCTX : List Row :=
  [
    ⟨0x0, 1, 0, 1, 0, [⟨17, 16, .rwl, 2, .span 0 2⟩, ⟨15, 15, .rwl, 0, .any⟩, ⟨8, 0, .rwl, 250, .span 8 250⟩]⟩ /- CTX_LINK -/,
    ⟨0x1, 4, 1, 1, 0, [⟨17, 17, .rwl, 0, .any⟩, ⟨16, 16, .rwl, 0, .any⟩, ⟨15, 15, .rwl, 0, .any⟩, ⟨14, 14, .rwl, 0, .any⟩, ⟨13, 12, .rwl, 0, .any⟩]⟩ /- CTX_HCFG -/,
    ⟨0x8, 1, 0, 1, 0, [⟨17, 17, .ro, 0, .any⟩, ⟨16, 15, .ro, 0, .any⟩]⟩ /- CTX_STAT -/,
    ⟨0x9, 1, 0, 1, 0, [⟨17, 0, .rc, 0, .any⟩]⟩ /- CTX_FRAMES -/,
    ⟨0xA, 1, 0, 1, 0, [⟨17, 0, .rc, 0, .any⟩]⟩ /- CTX_TRUNC -/,
    ⟨0xB, 1, 0, 1, 0, [⟨17, 0, .rc, 0, .any⟩]⟩ /- CTX_NOIMG -/,
    ⟨0xC, 1, 0, 1, 0, [⟨17, 17, .ro, 0, .any⟩, ⟨16, 16, .ro, 0, .any⟩, ⟨15, 15, .ro, 0, .any⟩, ⟨2, 0, .ro, 0, .any⟩]⟩ /- CTX_PRIV -/,
    ⟨0xD, 1, 0, 1, 0, [⟨17, 0, .rc, 0, .any⟩]⟩ /- CTX_LOCKCNT -/]

/-- Registers of CMP (Table 17-7; Table 17-8; Table 17-9; Table 17-10; Table 17-11; Table 17-12; Table 17-13; Table 17-14; Table 17-15; Table 17-16; Table 17-17; Table 17-18; Table 17-19). -/
def rowsCMP : List Row :=
  [
    ⟨0x0, 1, 0, 1, 0, [⟨17, 16, .rw, 0, .any⟩, ⟨15, 14, .rw, 0, .any⟩, ⟨13, 12, .rw, 0, .any⟩, ⟨11, 8, .rw, 0, .span 0 7⟩, ⟨7, 6, .rw, 0, .any⟩, ⟨5, 5, .rw, 0, .any⟩, ⟨4, 4, .rw, 0, .any⟩, ⟨2, 0, .rw, 2, .span 0 4⟩]⟩ /- CMP_JOP -/,
    ⟨0x1, 1, 0, 1, 0, [⟨17, 13, .rw, 18, .span 1 18⟩, ⟨12, 12, .rw, 0, .any⟩, ⟨7, 0, .rw, 16, .span 1 255⟩]⟩ /- CMP_JFMT -/,
    ⟨0x2, 1, 0, 1, 0, [⟨15, 0, .rw, 1, .span 1 65535⟩]⟩ /- CMP_JWIDTH -/,
    ⟨0x3, 1, 0, 1, 0, [⟨15, 0, .rw, 1, .span 1 65535⟩]⟩ /- CMP_JHEIGHT -/,
    ⟨0x4, 1, 0, 1, 0, [⟨17, 0, .rw, 0, .any⟩]⟩ /- CMP_JSRC0 -/,
    ⟨0x6, 1, 0, 1, 0, [⟨17, 0, .rw, 0, .any⟩]⟩ /- CMP_JSLEN0 -/,
    ⟨0x8, 1, 0, 1, 0, [⟨17, 0, .rw, 0, .any⟩]⟩ /- CMP_JDST0 -/,
    ⟨0xA, 1, 0, 1, 0, [⟨17, 0, .rw, 0, .any⟩]⟩ /- CMP_JDCAP0 -/,
    ⟨0x5, 1, 0, 1, 0, [⟨9, 0, .rw, 0, .any⟩]⟩ /- CMP_JSRC1 -/,
    ⟨0x7, 1, 0, 1, 0, [⟨9, 0, .rw, 0, .any⟩]⟩ /- CMP_JSLEN1 -/,
    ⟨0x9, 1, 0, 1, 0, [⟨9, 0, .rw, 0, .any⟩]⟩ /- CMP_JDST1 -/,
    ⟨0xB, 1, 0, 1, 0, [⟨9, 0, .rw, 0, .any⟩]⟩ /- CMP_JDCAP1 -/,
    ⟨0xC, 1, 0, 1, 0, [⟨17, 16, .wo, 0, .among [0, 1, 2]⟩, ⟨7, 0, .rw, 0, .any⟩]⟩ /- CMP_JCMD -/,
    ⟨0xD, 1, 0, 1, 0, [⟨17, 13, .ro, 7, .any⟩, ⟨7, 0, .ro, 0, .any⟩]⟩ /- CMP_JRES -/,
    ⟨0x10, 1, 0, 1, 0, [⟨17, 17, .ro, 0, .any⟩, ⟨16, 16, .ro, 0, .any⟩, ⟨12, 8, .ro, 0, .any⟩, ⟨7, 0, .ro, 0, .any⟩]⟩ /- CMP_QSTAT -/,
    ⟨0x11, 1, 0, 1, 0, [⟨17, 0, .ro, 0, .any⟩]⟩ /- CMP_LGEN -/,
    ⟨0x12, 1, 0, 1, 0, [⟨17, 0, .ro, 0, .any⟩]⟩ /- CMP_LBASE -/,
    ⟨0x13, 1, 0, 1, 0, [⟨17, 0, .ro, 0, .any⟩]⟩ /- CMP_PROG0 -/,
    ⟨0x14, 1, 0, 1, 0, [⟨9, 0, .ro, 0, .any⟩]⟩ /- CMP_PROG1 -/,
    ⟨0x18, 1, 0, 1, 0, [⟨17, 0, .rw, 0, .any⟩]⟩ /- CMP_OPTRW0 -/] ++
  [
    ⟨0x1A, 1, 0, 1, 0, [⟨17, 0, .rw, 0, .any⟩]⟩ /- CMP_OPTRL0 -/,
    ⟨0x1C, 1, 0, 1, 0, [⟨17, 0, .rw, 0, .any⟩]⟩ /- CMP_OPTRF0 -/,
    ⟨0x19, 1, 0, 1, 0, [⟨9, 0, .rw, 0, .any⟩]⟩ /- CMP_OPTRW1 -/,
    ⟨0x1B, 1, 0, 1, 0, [⟨9, 0, .rw, 0, .any⟩]⟩ /- CMP_OPTRL1 -/,
    ⟨0x1D, 1, 0, 1, 0, [⟨9, 0, .rw, 0, .any⟩]⟩ /- CMP_OPTRF1 -/,
    ⟨0x20, 1, 0, 1, 0, [⟨7, 0, .rw, 0, .any⟩]⟩ /- CMP_RSEL -/,
    ⟨0x21, 1, 0, 1, 0, [⟨17, 13, .ro, 7, .any⟩, ⟨12, 12, .ro, 0, .any⟩, ⟨11, 11, .ro, 0, .any⟩, ⟨10, 8, .ro, 0, .any⟩, ⟨7, 0, .ro, 0, .any⟩]⟩ /- CMP_RSTAT -/,
    ⟨0x22, 1, 0, 1, 0, [⟨17, 0, .ro, 0, .any⟩]⟩ /- CMP_ROUT0 -/,
    ⟨0x23, 1, 0, 1, 0, [⟨17, 0, .ro, 0, .any⟩]⟩ /- CMP_ROUT1 -/,
    ⟨0x24, 1, 0, 1, 0, [⟨17, 0, .ro, 0, .any⟩]⟩ /- CMP_RIN0 -/,
    ⟨0x25, 1, 0, 1, 0, [⟨17, 0, .ro, 0, .any⟩]⟩ /- CMP_RIN1 -/,
    ⟨0x26, 1, 0, 1, 0, [⟨17, 0, .ro, 0, .any⟩]⟩ /- CMP_RLGEN -/,
    ⟨0x30, 1, 0, 1, 0, [⟨17, 0, .rc, 0, .any⟩]⟩ /- CMP_REFCNT -/,
    ⟨0x31, 1, 0, 1, 0, [⟨17, 0, .rc, 0, .any⟩]⟩ /- CMP_RESTART -/]

/-- Registers of CTL (Table 11-7; Table 11-8; Table 11-9; Table 11-10; Table 11-11; Table 12-11). -/
def rowsCTL : List Row :=
  [
    ⟨0x0, 256, 1, 1, 0, [⟨17, 15, .ro, 0, .any⟩, ⟨14, 14, .ro, 0, .any⟩, ⟨13, 13, .ro, 0, .any⟩, ⟨12, 12, .ro, 0, .any⟩, ⟨11, 10, .ro, 0, .any⟩, ⟨9, 9, .ro, 0, .any⟩, ⟨7, 0, .ro, 0, .any⟩]⟩ /- CTL_SSTAT -/,
    ⟨0x100, 256, 1, 1, 0, [⟨17, 0, .rc, 0, .any⟩]⟩ /- CTL_MISSCNT -/,
    ⟨0x200, 1, 0, 1, 0, [⟨7, 0, .rw, 0, .any⟩]⟩ /- CTL_SSEL -/,
    ⟨0x201, 1, 0, 1, 0, [⟨17, 15, .wo, 0, .span 0 5⟩, ⟨14, 10, .ro, 7, .any⟩, ⟨7, 0, .ro, 0, .any⟩]⟩ /- CTL_SCMD -/,
    ⟨0x202, 1, 0, 1, 0, [⟨8, 0, .ro, 0, .any⟩]⟩ /- CTL_LOAD -/,
    ⟨0x203, 1, 0, 1, 0, [⟨9, 0, .ro, 0, .any⟩]⟩ /- CTL_UTIL -/,
    ⟨0x204, 1, 0, 1, 0, [⟨17, 0, .rc, 0, .any⟩]⟩ /- CTL_TMISS -/,
    ⟨0x205, 1, 0, 1, 0, [⟨17, 0, .rc, 0, .any⟩]⟩ /- CTL_NTRIP -/]

/-- Registers of SLOTWIN (Table 12-7; Table 12-8; Table 12-9; Table 11-12; Table 11-13; Table 11-14; Table 11-15; Table 11-16; Table 11-17; Table 11-18; Table 11-19; Table 11-20; Table 11-21; Table 11-22; Table 12-10). -/
def rowsSLOTWIN : List Row :=
  [
    ⟨0x0, 1, 0, 1, 0, [⟨17, 17, .load, 0, .any⟩, ⟨16, 16, .load, 0, .any⟩, ⟨15, 15, .ro, 0, .any⟩, ⟨14, 10, .load, 0, .span 0 20⟩, ⟨9, 7, .load, 0, .span 0 3⟩, ⟨1, 0, .load, 0, .any⟩]⟩ /- CTL_MODE -/,
    ⟨0x1, 1, 0, 1, 0, [⟨17, 0, .load, 0, .any⟩]⟩ /- CTL_PHASE -/,
    ⟨0x2, 1, 0, 1, 0, [⟨17, 17, .load, 0, .any⟩, ⟨11, 0, .load, 0, .any⟩]⟩ /- CTL_OUTPT -/,
    ⟨0x3, 1, 0, 1, 0, [⟨17, 0, .tune, 0, .any⟩]⟩ /- CTL_OLO -/,
    ⟨0x4, 1, 0, 1, 0, [⟨17, 0, .tune, 131071, .any⟩]⟩ /- CTL_OHI -/,
    ⟨0x5, 1, 0, 1, 0, [⟨11, 6, .tune, 0, .any⟩, ⟨5, 0, .tune, 0, .any⟩]⟩ /- CTL_EXP -/,
    ⟨0x6, 1, 0, 1, 0, [⟨17, 0, .tune, 0, .any⟩]⟩ /- CTL_B0 -/,
    ⟨0x7, 1, 0, 1, 0, [⟨17, 0, .tune, 0, .any⟩]⟩ /- CTL_B1 -/,
    ⟨0x8, 1, 0, 1, 0, [⟨17, 0, .tune, 0, .any⟩]⟩ /- CTL_B2 -/,
    ⟨0x9, 1, 0, 1, 0, [⟨17, 0, .tune, 0, .any⟩]⟩ /- CTL_A1 -/,
    ⟨0xA, 1, 0, 1, 0, [⟨17, 0, .tune, 0, .any⟩]⟩ /- CTL_A2 -/,
    ⟨0xB, 1, 0, 1, 0, [⟨17, 0, .tune, 0, .any⟩]⟩ /- CTL_C0 -/,
    ⟨0xC, 1, 0, 1, 0, [⟨17, 0, .tune, 0, .any⟩]⟩ /- CTL_C1 -/,
    ⟨0xD, 1, 0, 1, 0, [⟨17, 0, .tune, 0, .any⟩]⟩ /- CTL_D1 -/,
    ⟨0x10, 1, 0, 1, 0, [⟨17, 17, .load, 0, .any⟩, ⟨16, 16, .load, 0, .any⟩, ⟨11, 0, .load, 0, .any⟩]⟩ /- CTL_IN0CFG -/,
    ⟨0x11, 1, 0, 1, 0, [⟨17, 0, .tune, 0, .any⟩]⟩ /- CTL_IN0OFS -/,
    ⟨0x12, 1, 0, 1, 0, [⟨17, 0, .tune, 1, .any⟩]⟩ /- CTL_IN0SCL -/,
    ⟨0x13, 1, 0, 1, 0, [⟨4, 0, .tune, 0, .any⟩]⟩ /- CTL_IN0SH -/,
    ⟨0x14, 1, 0, 1, 0, [⟨15, 0, .tune, 1000, .span 1 60000⟩]⟩ /- CTL_IN0ALW -/,
    ⟨0x15, 1, 0, 1, 0, [⟨17, 17, .load, 0, .any⟩, ⟨16, 16, .load, 0, .any⟩, ⟨11, 0, .load, 0, .any⟩]⟩ /- CTL_IN1CFG -/] ++
  [
    ⟨0x16, 1, 0, 1, 0, [⟨17, 0, .tune, 0, .any⟩]⟩ /- CTL_IN1OFS -/,
    ⟨0x17, 1, 0, 1, 0, [⟨17, 0, .tune, 1, .any⟩]⟩ /- CTL_IN1SCL -/,
    ⟨0x18, 1, 0, 1, 0, [⟨4, 0, .tune, 0, .any⟩]⟩ /- CTL_IN1SH -/,
    ⟨0x19, 1, 0, 1, 0, [⟨15, 0, .tune, 1000, .span 1 60000⟩]⟩ /- CTL_IN1ALW -/,
    ⟨0x1A, 1, 0, 1, 0, [⟨17, 17, .load, 0, .any⟩, ⟨16, 16, .load, 0, .any⟩, ⟨11, 0, .load, 0, .any⟩]⟩ /- CTL_IN2CFG -/,
    ⟨0x1B, 1, 0, 1, 0, [⟨17, 0, .tune, 0, .any⟩]⟩ /- CTL_IN2OFS -/,
    ⟨0x1C, 1, 0, 1, 0, [⟨17, 0, .tune, 1, .any⟩]⟩ /- CTL_IN2SCL -/,
    ⟨0x1D, 1, 0, 1, 0, [⟨4, 0, .tune, 0, .any⟩]⟩ /- CTL_IN2SH -/,
    ⟨0x1E, 1, 0, 1, 0, [⟨15, 0, .tune, 1000, .span 1 60000⟩]⟩ /- CTL_IN2ALW -/,
    ⟨0x20, 1, 0, 1, 0, [⟨17, 0, .rw, 0, .any⟩]⟩ /- CTL_MOUT -/,
    ⟨0x21, 1, 0, 1, 0, [⟨17, 0, .ro, 0, .any⟩]⟩ /- CTL_OUT -/,
    ⟨0x22, 1, 0, 1, 0, [⟨17, 0, .ro, 0, .any⟩]⟩ /- CTL_SPLAST -/,
    ⟨0x23, 1, 0, 1, 0, [⟨17, 0, .ro, 0, .any⟩]⟩ /- CTL_I0 -/,
    ⟨0x24, 1, 0, 1, 0, [⟨17, 0, .ro, 0, .any⟩]⟩ /- CTL_I1 -/,
    ⟨0x25, 1, 0, 1, 0, [⟨11, 0, .ro, 0, .any⟩]⟩ /- CTL_I2 -/,
    ⟨0x30, 1, 0, 1, 0, [⟨17, 16, .tune, 0, .any⟩, ⟨15, 12, .load, 0, .any⟩, ⟨11, 11, .load, 0, .any⟩, ⟨7, 0, .tune, 0, .any⟩]⟩ /- CTL_SUPCFG -/,
    ⟨0x31, 1, 0, 1, 0, [⟨17, 0, .tune, 0, .span 0 131071⟩]⟩ /- CTL_FELIM -/,
    ⟨0x32, 1, 0, 1, 0, [⟨15, 0, .tune, 1000, .span 1 65535⟩]⟩ /- CTL_FETIME -/,
    ⟨0x33, 1, 0, 1, 0, [⟨17, 0, .tune, 0, .any⟩]⟩ /- CTL_SAFEVAL -/,
    ⟨0x34, 1, 0, 1, 0, [⟨17, 16, .ro, 0, .any⟩, ⟨15, 0, .ro, 0, .any⟩]⟩ /- CTL_SUPSTAT -/]

/-- Registers of PRF (Table 12-12; Table 12-13; Table 12-14; Table 12-15; Table 12-16; Table 12-17; Table 12-18; Table 12-19). -/
def rowsPRF : List Row :=
  [
    ⟨0x0, 64, 8, 1, 0, [⟨17, 17, .load, 0, .any⟩, ⟨16, 12, .load, 0, .span 0 20⟩, ⟨1, 0, .load, 0, .any⟩]⟩ /- PRF_CFG -/,
    ⟨0x1, 64, 8, 1, 0, [⟨17, 0, .load, 0, .any⟩]⟩ /- PRF_PHASE -/,
    ⟨0x2, 64, 8, 1, 0, [⟨11, 0, .load, 0, .any⟩]⟩ /- PRF_TGT -/,
    ⟨0x3, 64, 8, 1, 0, [⟨11, 0, .load, 0, .any⟩]⟩ /- PRF_OUT -/,
    ⟨0x4, 64, 8, 1, 0, [⟨17, 0, .rwl, 0, .any⟩]⟩ /- PRF_VMAX -/,
    ⟨0x5, 64, 8, 1, 0, [⟨17, 0, .rwl, 0, .any⟩]⟩ /- PRF_AMAX -/,
    ⟨0x6, 64, 8, 1, 0, [⟨17, 0, .rwl, 0, .any⟩]⟩ /- PRF_JMAX -/,
    ⟨0x7, 64, 8, 1, 0, [⟨17, 16, .ro, 0, .any⟩, ⟨15, 15, .ro, 0, .any⟩]⟩ /- PRF_STAT -/,
    ⟨0x200, 1, 0, 1, 0, [⟨5, 0, .rw, 0, .any⟩]⟩ /- PRF_GSEL -/,
    ⟨0x201, 1, 0, 1, 0, [⟨17, 16, .wo, 0, .among [0, 1, 2]⟩, ⟨15, 11, .ro, 7, .any⟩]⟩ /- PRF_CMD -/,
    ⟨0x202, 1, 0, 1, 0, [⟨17, 0, .rw, 0, .any⟩]⟩ /- PRF_PVAL -/,
    ⟨0x203, 1, 0, 1, 0, [⟨17, 0, .ro, 0, .any⟩]⟩ /- PRF_VEL -/,
    ⟨0x204, 1, 0, 1, 0, [⟨17, 0, .ro, 0, .any⟩]⟩ /- PRF_ARRV -/]

/-- Registers of TRC (Table 12-20; Table 12-21; Table 12-22; Table 12-23; Table 12-24; Table 12-25; Table 12-26; Table 12-27; Table 12-28; Table 12-29; Table 12-30). -/
def rowsTRC : List Row :=
  [
    ⟨0x0, 4, 16, 1, 0, [⟨17, 16, .trc, 0, .any⟩, ⟨15, 15, .trc, 0, .any⟩, ⟨14, 13, .trc, 0, .any⟩, ⟨8, 0, .trc, 0, .any⟩]⟩ /- TRC_CFG -/,
    ⟨0x1, 4, 16, 1, 0, [⟨15, 12, .trc, 7, .span 0 12⟩, ⟨11, 8, .trc, 4, .span 0 12⟩, ⟨7, 4, .trc, 1, .span 0 12⟩, ⟨3, 0, .trc, 0, .span 0 12⟩]⟩ /- TRC_NODES -/,
    ⟨0x2, 4, 16, 1, 0, [⟨11, 0, .trc, 2048, .any⟩]⟩ /- TRC_PRE -/,
    ⟨0x3, 4, 16, 1, 0, [⟨17, 0, .trc, 0, .any⟩]⟩ /- TRC_LVL -/,
    ⟨0x4, 4, 16, 1, 0, [⟨17, 16, .wo, 0, .any⟩, ⟨15, 11, .ro, 7, .any⟩]⟩ /- TRC_CMD -/,
    ⟨0x5, 4, 16, 1, 0, [⟨17, 16, .ro, 0, .any⟩, ⟨15, 15, .ro, 0, .any⟩, ⟨14, 14, .ro, 0, .any⟩, ⟨12, 0, .ro, 0, .any⟩]⟩ /- TRC_STAT -/,
    ⟨0x6, 4, 16, 1, 0, [⟨11, 0, .ro, 0, .any⟩]⟩ /- TRC_TRIGIDX -/,
    ⟨0x7, 4, 16, 1, 0, [⟨17, 0, .ro, 0, .any⟩]⟩ /- TRC_TFRAME0 -/,
    ⟨0x8, 4, 16, 1, 0, [⟨17, 0, .ro, 0, .any⟩]⟩ /- TRC_TFRAME1 -/,
    ⟨0x100, 1, 0, 1, 0, [⟨13, 12, .rw, 0, .any⟩, ⟨11, 0, .rw, 0, .any⟩]⟩ /- TRC_RSEL -/,
    ⟨0x101, 4, 1, 1, 0, [⟨17, 0, .ro, 0, .any⟩]⟩ /- TRC_RD -/,
    ⟨0x105, 1, 0, 1, 0, [⟨17, 13, .ro, 7, .any⟩, ⟨0, 0, .ro, 0, .any⟩]⟩ /- TRC_RFLAG -/]

/-- Registers of AFE (Table 13-9; Table 13-10; Table 13-11; Table 13-12; Table 13-13; Table 13-14; Table 13-15; Table 13-16; Table 13-17; Table 13-18; Table 13-19; Table 13-20). -/
def rowsAFE : List Row :=
  [
    ⟨0x0, 32, 16, 1, 0, [⟨17, 17, .load, 0, .any⟩, ⟨16, 16, .load, 0, .any⟩, ⟨15, 15, .load, 0, .any⟩, ⟨14, 14, .rwl, 0, .any⟩, ⟨13, 10, .rwl, 15, .any⟩, ⟨9, 6, .rwl, 14, .any⟩, ⟨5, 5, .rwl, 0, .any⟩, ⟨4, 4, .rwl, 0, .any⟩, ⟨3, 3, .rwl, 0, .any⟩, ⟨2, 0, .rwl, 0, .any⟩]⟩ /- AFE_SLOTCFG0 -/,
    ⟨0x1, 32, 16, 1, 0, [⟨17, 14, .rwl, 15, .any⟩, ⟨13, 10, .rwl, 15, .any⟩, ⟨9, 8, .rwl, 0, .span 0 2⟩, ⟨7, 5, .rwl, 0, .any⟩, ⟨4, 1, .rwl, 15, .among [0, 1, 2, 3, 4, 5, 6, 7, 8, 9, 10, 11, 12, 13, 15]⟩]⟩ /- AFE_SLOTCFG1 -/,
    ⟨0x2, 32, 16, 1, 0, [⟨17, 14, .rwl, 9, .span 0 14⟩, ⟨13, 12, .rwl, 1, .span 0 2⟩, ⟨11, 9, .rwl, 0, .any⟩, ⟨8, 6, .rwl, 7, .any⟩, ⟨5, 3, .rwl, 0, .span 0 4⟩]⟩ /- AFE_SLOTCFG2 -/,
    ⟨0x3, 32, 16, 1, 0, [⟨15, 0, .rwl, 0, .any⟩]⟩ /- AFE_EXSET -/,
    ⟨0x4, 32, 16, 1, 0, [⟨17, 17, .rwl, 0, .any⟩, ⟨4, 0, .rwl, 0, .span 0 20⟩]⟩ /- AFE_URGCFG -/,
    ⟨0x5, 32, 16, 1, 0, [⟨17, 17, .load, 0, .any⟩, ⟨11, 0, .load, 0, .any⟩]⟩ /- AFE_OUTPT -/,
    ⟨0x6, 32, 16, 1, 0, [⟨17, 0, .rwl, 1, .any⟩]⟩ /- AFE_OSCL -/,
    ⟨0x7, 32, 16, 1, 0, [⟨4, 0, .rwl, 0, .any⟩]⟩ /- AFE_OSH -/,
    ⟨0x8, 32, 16, 1, 0, [⟨17, 0, .rwl, 0, .any⟩]⟩ /- AFE_OOFS -/,
    ⟨0x9, 32, 16, 1, 0, [⟨17, 0, .rwl, 98304, .any⟩]⟩ /- AFE_CALFS -/,
    ⟨0xA, 32, 16, 1, 0, [⟨17, 0, .rwl, 0, .any⟩]⟩ /- AFE_COFS0 -/,
    ⟨0xB, 32, 16, 1, 0, [⟨7, 0, .rwl, 0, .any⟩]⟩ /- AFE_COFS1 -/,
    ⟨0xC, 32, 16, 1, 0, [⟨17, 0, .rwl, 131072, .span 124518 137626⟩]⟩ /- AFE_CGAIN -/,
    ⟨0xD, 32, 16, 1, 0, [⟨17, 15, .ro, 0, .any⟩, ⟨14, 12, .ro, 0, .any⟩, ⟨11, 11, .ro, 0, .any⟩]⟩ /- AFE_SLOTSTAT -/,
    ⟨0x200, 33, 1, 1, 0, [⟨17, 0, .rwl, 0, .any⟩]⟩ /- AFE_LIN1 -/,
    ⟨0x240, 33, 1, 1, 0, [⟨17, 0, .rwl, 0, .any⟩]⟩ /- AFE_LIN2 -/,
    ⟨0x280, 33, 1, 1, 0, [⟨17, 0, .rwl, 0, .any⟩]⟩ /- AFE_LIN3 -/,
    ⟨0x2C0, 33, 1, 1, 0, [⟨17, 0, .rwl, 0, .any⟩]⟩ /- AFE_LIN4 -/]

/-- Registers of ADC (Table 13-21; Table 13-22; Table 13-23; Table 13-24; Table 13-25; Table 13-26; Table 13-27; Table 13-28; Table 13-29; Table 13-30). -/
def rowsADC : List Row :=
  [
    ⟨0x0, 1, 0, 1, 0, [⟨17, 15, .ro, 0, .any⟩, ⟨14, 10, .ro, 0, .any⟩, ⟨9, 9, .ro, 0, .any⟩, ⟨8, 8, .ro, 0, .any⟩, ⟨7, 7, .ro, 0, .any⟩]⟩ /- ADC_SSTATA -/,
    ⟨0x1, 1, 0, 1, 0, [⟨17, 15, .ro, 0, .any⟩, ⟨14, 10, .ro, 0, .any⟩, ⟨9, 9, .ro, 0, .any⟩, ⟨8, 8, .ro, 0, .any⟩, ⟨7, 7, .ro, 0, .any⟩]⟩ /- ADC_SSTATB -/,
    ⟨0x2, 1, 0, 1, 0, [⟨17, 0, .ro, 0, .any⟩]⟩ /- ADC_ROUNDA -/,
    ⟨0x3, 1, 0, 1, 0, [⟨17, 0, .ro, 0, .any⟩]⟩ /- ADC_ROUNDB -/,
    ⟨0x4, 1, 0, 1, 0, [⟨17, 16, .wo, 0, .among [0, 1]⟩, ⟨15, 11, .ro, 7, .any⟩, ⟨4, 0, .rw, 0, .any⟩]⟩ /- ADC_URGCMD -/,
    ⟨0x5, 1, 0, 1, 0, [⟨17, 16, .wo, 0, .any⟩, ⟨15, 11, .ro, 7, .any⟩, ⟨10, 8, .ro, 0, .any⟩, ⟨4, 0, .rw, 0, .any⟩]⟩ /- ADC_CALCTLA -/,
    ⟨0x6, 1, 0, 1, 0, [⟨17, 16, .wo, 0, .any⟩, ⟨15, 11, .ro, 7, .any⟩, ⟨10, 8, .ro, 0, .any⟩, ⟨4, 0, .rw, 0, .any⟩]⟩ /- ADC_CALCTLB -/,
    ⟨0x7, 1, 0, 1, 0, [⟨17, 13, .ro, 7, .any⟩, ⟨12, 8, .ro, 0, .any⟩]⟩ /- ADC_CALRESA -/,
    ⟨0x8, 1, 0, 1, 0, [⟨17, 13, .ro, 7, .any⟩, ⟨12, 8, .ro, 0, .any⟩]⟩ /- ADC_CALRESB -/,
    ⟨0x10, 1, 0, 1, 0, [⟨17, 17, .ro, 0, .any⟩, ⟨14, 8, .ro, 0, .any⟩, ⟨7, 5, .ro, 0, .any⟩]⟩ /- ADC_QHEADA -/,
    ⟨0x12, 1, 0, 1, 0, [⟨17, 17, .ro, 0, .any⟩, ⟨14, 8, .ro, 0, .any⟩, ⟨7, 5, .ro, 0, .any⟩]⟩ /- ADC_QHEADB -/,
    ⟨0x11, 1, 0, 1, 0, [⟨17, 0, .ro, 0, .any⟩]⟩ /- ADC_QVALA -/,
    ⟨0x13, 1, 0, 1, 0, [⟨17, 0, .ro, 0, .any⟩]⟩ /- ADC_QVALB -/,
    ⟨0x14, 1, 0, 1, 0, [⟨17, 17, .ro, 0, .any⟩, ⟨16, 16, .w1c, 0, .any⟩, ⟨7, 0, .ro, 0, .any⟩]⟩ /- ADC_QSTATA -/,
    ⟨0x15, 1, 0, 1, 0, [⟨17, 17, .ro, 0, .any⟩, ⟨16, 16, .w1c, 0, .any⟩, ⟨7, 0, .ro, 0, .any⟩]⟩ /- ADC_QSTATB -/,
    ⟨0x16, 1, 0, 1, 0, [⟨15, 8, .rw, 64, .span 0 128⟩, ⟨7, 0, .rw, 64, .span 0 128⟩]⟩ /- ADC_QTHR -/,
    ⟨0x20, 1, 0, 1, 0, [⟨17, 0, .rc, 0, .any⟩]⟩ /- ADC_QOVFA -/,
    ⟨0x21, 1, 0, 1, 0, [⟨17, 0, .rc, 0, .any⟩]⟩ /- ADC_QOVFB -/,
    ⟨0x22, 1, 0, 1, 0, [⟨17, 0, .rc, 0, .any⟩]⟩ /- ADC_QDISC -/,
    ⟨0x23, 1, 0, 1, 0, [⟨17, 0, .rc, 0, .any⟩]⟩ /- ADC_VOIDA -/] ++
  [
    ⟨0x24, 1, 0, 1, 0, [⟨17, 0, .rc, 0, .any⟩]⟩ /- ADC_VOIDB -/,
    ⟨0x25, 1, 0, 1, 0, [⟨17, 0, .rc, 0, .any⟩]⟩ /- ADC_ABORTA -/,
    ⟨0x26, 1, 0, 1, 0, [⟨17, 0, .rc, 0, .any⟩]⟩ /- ADC_ABORTB -/,
    ⟨0x27, 1, 0, 1, 0, [⟨17, 0, .rc, 0, .any⟩]⟩ /- ADC_RANGEA -/,
    ⟨0x28, 1, 0, 1, 0, [⟨17, 0, .rc, 0, .any⟩]⟩ /- ADC_RANGEB -/,
    ⟨0x29, 1, 0, 1, 0, [⟨17, 0, .rc, 0, .any⟩]⟩ /- ADC_FAULT -/]

/-- Registers of FAN (Table 14-8; Table 14-9; Table 14-10; Table 14-11; Table 14-12; Table 14-13; Table 14-14; Table 14-15; Table 14-16; Table 14-17; Table 14-18; Table 14-19; Table 14-20). -/
def rowsFAN : List Row :=
  [
    ⟨0x0, 3, 64, 1, 0, [⟨17, 17, .load, 0, .any⟩, ⟨16, 16, .rwl, 0, .any⟩, ⟨15, 14, .rwl, 0, .span 0 2⟩, ⟨13, 12, .load, 0, .any⟩, ⟨11, 11, .rwl, 0, .any⟩, ⟨10, 10, .rwl, 0, .any⟩, ⟨9, 5, .rwl, 2, .span 1 31⟩, ⟨4, 2, .rwl, 2, .span 1 7⟩]⟩ /- FAN_CFG -/,
    ⟨0x1, 3, 64, 1, 0, [⟨11, 0, .load, 0, .any⟩]⟩ /- FAN_TGTPT -/,
    ⟨0x2, 3, 64, 1, 0, [⟨17, 17, .load, 0, .any⟩, ⟨16, 16, .load, 0, .any⟩, ⟨11, 0, .load, 0, .any⟩]⟩ /- FAN_SPDPT -/,
    ⟨0x3, 3, 64, 1, 0, [⟨12, 0, .rwl, 3750, .span 1465 5859⟩]⟩ /- FAN_PWM -/,
    ⟨0x4, 3, 64, 1, 0, [⟨15, 0, .rwl, 3000, .span 1 65535⟩]⟩ /- FAN_RPMMAX -/,
    ⟨0x5, 3, 64, 1, 0, [⟨15, 0, .rwl, 300, .any⟩]⟩ /- FAN_RPMMIN -/,
    ⟨0x6, 3, 64, 1, 0, [⟨15, 0, .rwl, 200, .span 1 65535⟩]⟩ /- FAN_RPMHAND -/,
    ⟨0x7, 3, 64, 1, 0, [⟨15, 0, .rwl, 256, .any⟩]⟩ /- FAN_KP -/,
    ⟨0x8, 3, 64, 1, 0, [⟨15, 0, .rwl, 16, .any⟩]⟩ /- FAN_KI -/,
    ⟨0x9, 3, 64, 1, 0, [⟨15, 0, .rwl, 200, .span 1 65535⟩]⟩ /- FAN_RSH -/,
    ⟨0xA, 3, 64, 1, 0, [⟨15, 0, .rwl, 5000, .any⟩]⟩ /- FAN_ILIM -/,
    ⟨0xB, 3, 64, 1, 0, [⟨15, 0, .rwl, 1000, .any⟩]⟩ /- FAN_ISTART -/,
    ⟨0xC, 3, 64, 1, 0, [⟨17, 9, .rwl, 100, .span 1 511⟩, ⟨8, 0, .rwl, 200, .span 1 511⟩]⟩ /- FAN_STIME -/,
    ⟨0xD, 3, 64, 1, 0, [⟨15, 0, .rwl, 2000, .span 100 65535⟩]⟩ /- FAN_TSTART -/,
    ⟨0xE, 3, 64, 1, 0, [⟨7, 0, .rwl, 50, .span 1 255⟩]⟩ /- FAN_OCTIME -/,
    ⟨0x20, 3, 64, 1, 0, [⟨17, 15, .ro, 0, .any⟩, ⟨14, 13, .ro, 0, .any⟩, ⟨12, 11, .ro, 0, .any⟩, ⟨10, 10, .ro, 0, .any⟩, ⟨9, 9, .ro, 0, .any⟩, ⟨8, 8, .ro, 0, .any⟩, ⟨7, 7, .ro, 0, .any⟩, ⟨6, 6, .ro, 0, .any⟩, ⟨5, 5, .ro, 0, .any⟩, ⟨4, 4, .ro, 0, .any⟩]⟩ /- FAN_STAT -/,
    ⟨0x21, 3, 64, 1, 0, [⟨17, 0, .ro, 0, .any⟩]⟩ /- FAN_RPM -/,
    ⟨0x22, 3, 64, 1, 0, [⟨17, 0, .ro, 0, .any⟩]⟩ /- FAN_IMA -/,
    ⟨0x23, 3, 64, 1, 0, [⟨17, 0, .ro, 0, .any⟩]⟩ /- FAN_DUTY -/,
    ⟨0x24, 3, 64, 1, 0, [⟨17, 0, .ro, 0, .any⟩]⟩ /- FAN_CMDRPM -/] ++
  [
    ⟨0x25, 3, 64, 1, 0, [⟨17, 0, .rc, 0, .any⟩]⟩ /- FAN_LIMCNT -/,
    ⟨0x26, 3, 64, 1, 0, [⟨17, 0, .rc, 0, .any⟩]⟩ /- FAN_RETRY -/,
    ⟨0x300, 1, 0, 1, 0, [⟨17, 16, .wo, 0, .among [0, 1]⟩, ⟨15, 11, .ro, 7, .any⟩, ⟨1, 0, .rw, 0, .span 0 2⟩]⟩ /- FAN_CMD -/,
    ⟨0x301, 3, 1, 1, 0, [⟨17, 17, .load, 0, .any⟩, ⟨16, 16, .load, 0, .any⟩, ⟨15, 12, .load, 0, .span 0 11⟩, ⟨11, 0, .load, 0, .any⟩]⟩ /- FAN_GRP -/,
    ⟨0x304, 1, 0, 1, 0, [⟨17, 16, .ro, 0, .any⟩, ⟨15, 14, .ro, 0, .any⟩, ⟨8, 6, .ro, 0, .any⟩, ⟨5, 3, .ro, 0, .any⟩, ⟨2, 0, .ro, 0, .any⟩]⟩ /- FAN_GSTAT -/,
    ⟨0x305, 3, 1, 1, 0, [⟨17, 0, .ro, 262143, .any⟩]⟩ /- FAN_GTEMP -/]

/-- Registers of VLV (Table 14-21; Table 14-22; Table 14-23; Table 14-24; Table 14-25; Table 14-26; Table 14-27; Table 14-28; Table 14-29; Table 14-30). -/
def rowsVLV : List Row :=
  [
    ⟨0x0, 8, 32, 1, 0, [⟨17, 17, .load, 0, .any⟩, ⟨16, 16, .load, 0, .any⟩, ⟨15, 14, .load, 0, .any⟩, ⟨13, 13, .rwl, 0, .any⟩, ⟨12, 12, .rwl, 0, .any⟩, ⟨11, 0, .load, 0, .any⟩]⟩ /- VLV_CFG -/,
    ⟨0x1, 8, 32, 1, 0, [⟨9, 0, .rwl, 512, .span 1 1023⟩]⟩ /- VLV_IPK -/,
    ⟨0x2, 8, 32, 1, 0, [⟨9, 0, .rwl, 128, .span 1 1023⟩]⟩ /- VLV_IHOLD -/,
    ⟨0x3, 8, 32, 1, 0, [⟨15, 0, .rwl, 10000, .span 1 65535⟩]⟩ /- VLV_TPK -/,
    ⟨0x4, 8, 32, 1, 0, [⟨15, 0, .rwl, 3000, .span 1 65535⟩]⟩ /- VLV_TPKMAX -/,
    ⟨0x5, 8, 32, 1, 0, [⟨17, 12, .rwl, 5, .span 1 63⟩, ⟨8, 0, .rwl, 200, .span 100 400⟩]⟩ /- VLV_CHOP -/,
    ⟨0x6, 8, 32, 1, 0, [⟨15, 0, .rwl, 0, .any⟩]⟩ /- VLV_MAXLAT -/,
    ⟨0x7, 8, 32, 1, 0, [⟨15, 0, .rwl, 10, .span 1 600⟩]⟩ /- VLV_TCYC -/,
    ⟨0x8, 8, 32, 1, 0, [⟨15, 0, .rwl, 0, .any⟩]⟩ /- VLV_TMIN -/,
    ⟨0x9, 8, 32, 1, 0, [⟨17, 17, .load, 0, .any⟩, ⟨11, 0, .load, 0, .any⟩]⟩ /- VLV_STPT -/,
    ⟨0x10, 8, 32, 1, 0, [⟨17, 15, .ro, 0, .any⟩, ⟨14, 10, .ro, 7, .any⟩, ⟨9, 8, .ro, 0, .any⟩, ⟨7, 6, .ro, 0, .any⟩, ⟨5, 5, .ro, 0, .any⟩, ⟨4, 4, .ro, 0, .any⟩, ⟨3, 3, .ro, 0, .any⟩, ⟨2, 2, .ro, 0, .any⟩]⟩ /- VLV_STAT -/,
    ⟨0x11, 8, 32, 1, 0, [⟨17, 0, .ro, 0, .any⟩]⟩ /- VLV_DLY -/,
    ⟨0x12, 8, 32, 1, 0, [⟨17, 0, .ro, 0, .any⟩]⟩ /- VLV_DUTY -/,
    ⟨0x13, 8, 32, 1, 0, [⟨17, 0, .rc, 0, .any⟩]⟩ /- VLV_REFCNT -/,
    ⟨0x14, 8, 32, 1, 0, [⟨17, 0, .rc, 0, .any⟩]⟩ /- VLV_PKTOCNT -/,
    ⟨0x200, 1, 0, 1, 0, [⟨7, 5, .ro, 0, .any⟩, ⟨4, 2, .ro, 0, .any⟩, ⟨1, 1, .ro, 0, .any⟩, ⟨0, 0, .ro, 0, .any⟩]⟩ /- VLV_HSWSTAT -/,
    ⟨0x201, 1, 0, 1, 0, [⟨15, 8, .rwl, 10, .any⟩, ⟨7, 0, .rwl, 10, .any⟩]⟩ /- VLV_HSWCFG -/,
    ⟨0x202, 1, 0, 1, 0, [⟨17, 16, .wo, 0, .among [0, 1]⟩, ⟨15, 11, .ro, 7, .any⟩, ⟨2, 0, .rw, 0, .any⟩]⟩ /- VLV_CMD -/]

/-- Registers of DAC (Table 14-31; Table 14-32; Table 14-33). -/
def rowsDAC : List Row :=
  [
    ⟨0x0, 6, 4, 1, 0, [⟨17, 17, .load, 0, .any⟩, ⟨16, 16, .rwl, 0, .any⟩, ⟨11, 0, .load, 0, .any⟩]⟩ /- DAC_CFG -/,
    ⟨0x1, 6, 4, 1, 0, [⟨17, 4, .rwl, 0, .any⟩]⟩ /- DAC_SAFE -/,
    ⟨0x2, 6, 4, 1, 0, [⟨17, 4, .ro, 0, .any⟩]⟩ /- DAC_VAL -/,
    ⟨0x3, 6, 4, 1, 0, [⟨17, 17, .ro, 0, .any⟩, ⟨16, 16, .ro, 0, .any⟩, ⟨15, 15, .ro, 0, .any⟩]⟩ /- DAC_STAT -/]

/-- Registers of GPIO (Table 14-34; Table 14-35). -/
def rowsGPIO : List Row :=
  [
    ⟨0x0, 4, 2, 1, 0, [⟨17, 17, .load, 0, .any⟩, ⟨16, 16, .load, 0, .any⟩, ⟨15, 15, .rwl, 0, .any⟩, ⟨14, 14, .rwl, 0, .any⟩, ⟨13, 12, .rwl, 1, .any⟩, ⟨11, 0, .load, 0, .any⟩]⟩ /- GPIO_CFG -/,
    ⟨0x1, 4, 2, 1, 0, [⟨17, 17, .ro, 0, .any⟩, ⟨16, 16, .ro, 0, .any⟩, ⟨15, 15, .ro, 0, .any⟩]⟩ /- GPIO_STAT -/]

/-- Registers of BUS (Table 15-8; Table 15-9; Table 15-10; Table 15-11; Table 15-12; Table 15-13; Table 15-14; Table 15-15; Table 15-16; Table 15-17; Table 15-18; Table 15-19; Table 15-20; Table 15-21; Table 15-22; Table 15-23; Table 15-24; Table 15-25). -/
def rowsBUS : List Row :=
  [
    ⟨0x0, 1, 0, 1, 0, [⟨17, 16, .load, 0, .span 0 2⟩, ⟨15, 15, .load, 0, .any⟩, ⟨14, 12, .load, 1, .span 0 5⟩, ⟨11, 10, .load, 0, .any⟩, ⟨7, 0, .load, 30, .span 1 255⟩]⟩ /- BUS_CFG -/,
    ⟨0x1, 1, 0, 1, 0, [⟨17, 11, .load, 127, .any⟩, ⟨10, 4, .load, 127, .any⟩, ⟨3, 0, .load, 0, .any⟩]⟩ /- BUS_MSTP -/,
    ⟨0x2, 1, 0, 1, 0, [⟨17, 0, .load, 0, .any⟩]⟩ /- BUS_DEVINST0 -/,
    ⟨0x3, 1, 0, 1, 0, [⟨3, 0, .load, 0, .any⟩]⟩ /- BUS_DEVINST1 -/,
    ⟨0x4, 1, 0, 1, 0, [⟨17, 9, .load, 100, .span 10 511⟩, ⟨8, 7, .load, 1, .any⟩, ⟨5, 0, .load, 3, .span 1 63⟩]⟩ /- BUS_MBTIME -/,
    ⟨0x5, 1, 0, 1, 0, [⟨15, 0, .load, 1000, .span 10 65535⟩]⟩ /- BUS_MBCYCLE -/,
    ⟨0x8, 1, 0, 1, 0, [⟨17, 15, .ro, 0, .any⟩, ⟨14, 12, .ro, 0, .any⟩, ⟨11, 11, .ro, 0, .any⟩, ⟨10, 10, .ro, 0, .any⟩, ⟨9, 9, .ro, 0, .any⟩, ⟨6, 0, .ro, 0, .any⟩]⟩ /- BUS_LSTAT -/,
    ⟨0x9, 1, 0, 1, 0, [⟨17, 16, .wo, 0, .among [0, 1]⟩, ⟨15, 11, .ro, 7, .any⟩]⟩ /- BUS_CMD -/,
    ⟨0x10, 8, 1, 1, 0, [⟨17, 0, .rc, 0, .any⟩]⟩ /- BUS_COUNTERS -/,
    ⟨0x20, 1, 0, 1, 0, [⟨8, 0, .rw, 0, .span 0 510⟩]⟩ /- BUS_OSEL -/,
    ⟨0x21, 1, 0, 1, 0, [⟨17, 15, .ro, 0, .any⟩, ⟨14, 14, .ro, 0, .any⟩, ⟨13, 13, .ro, 0, .any⟩, ⟨11, 0, .ro, 0, .any⟩]⟩ /- BUS_OBJ0 -/,
    ⟨0x22, 1, 0, 1, 0, [⟨17, 0, .ro, 0, .any⟩]⟩ /- BUS_OBJ1 -/,
    ⟨0x23, 1, 0, 1, 0, [⟨17, 0, .ro, 0, .any⟩]⟩ /- BUS_OBJ2 -/,
    ⟨0x30, 1, 0, 1, 0, [⟨7, 0, .rw, 0, .any⟩]⟩ /- BUS_TSEL -/,
    ⟨0x31, 1, 0, 1, 0, [⟨17, 10, .ro, 0, .any⟩, ⟨9, 7, .ro, 0, .any⟩, ⟨6, 5, .ro, 0, .any⟩, ⟨4, 0, .ro, 0, .any⟩]⟩ /- BUS_TENT0 -/,
    ⟨0x32, 1, 0, 1, 0, [⟨15, 0, .ro, 0, .any⟩]⟩ /- BUS_TENT1 -/,
    ⟨0x33, 1, 0, 1, 0, [⟨17, 17, .ro, 0, .any⟩, ⟨16, 16, .ro, 0, .any⟩, ⟨15, 15, .ro, 0, .any⟩, ⟨11, 0, .ro, 0, .any⟩]⟩ /- BUS_TENT2 -/,
    ⟨0x34, 1, 0, 1, 0, [⟨17, 13, .ro, 7, .any⟩, ⟨12, 12, .ro, 0, .any⟩, ⟨7, 0, .ro, 0, .any⟩]⟩ /- BUS_TSTAT -/,
    ⟨0x40, 1, 0, 1, 0, [⟨5, 0, .rw, 0, .any⟩]⟩ /- BUS_DSEL -/,
    ⟨0x41, 1, 0, 1, 0, [⟨17, 17, .ro, 0, .any⟩, ⟨16, 16, .ro, 0, .any⟩, ⟨15, 8, .ro, 0, .any⟩, ⟨7, 0, .ro, 0, .any⟩]⟩ /- BUS_DSTAT -/]

/-- Registers of SCHED (Table 12-31; Table 12-32; Table 12-33; Table 12-34; Table 12-35). -/
def rowsSCHED : List Row :=
  [
    ⟨0x0, 1, 0, 1, 0, [⟨5, 0, .rw, 0, .any⟩]⟩ /- SCHED_SSEL -/,
    ⟨0x1, 1, 0, 1, 0, [⟨17, 16, .wo, 0, .among [0, 1]⟩]⟩ /- SCHED_CMD -/,
    ⟨0x2, 1, 0, 1, 0, [⟨17, 0, .rwl, 0, .any⟩]⟩ /- SCHED_RTC0 -/,
    ⟨0x3, 1, 0, 1, 0, [⟨13, 0, .rwl, 0, .any⟩]⟩ /- SCHED_RTC1 -/,
    ⟨0x4, 1, 0, 1, 0, [⟨16, 9, .ro, 0, .any⟩, ⟨8, 5, .ro, 0, .any⟩, ⟨4, 0, .ro, 0, .any⟩]⟩ /- SCHED_CAL0 -/,
    ⟨0x5, 1, 0, 1, 0, [⟨17, 17, .ro, 0, .any⟩, ⟨13, 11, .ro, 0, .any⟩, ⟨10, 0, .ro, 0, .any⟩]⟩ /- SCHED_CAL1 -/]

/-- Registers of SCHEDWIN (Table 12-36; Table 12-37; Table 12-38; Table 12-39; Table 12-40; Table 12-41; Table 12-42; Table 12-43; Table 12-44; Table 12-45). -/
def rowsSCHEDWIN : List Row :=
  [
    ⟨0x10, 1, 0, 1, 0, [⟨17, 17, .rwl, 0, .any⟩, ⟨16, 16, .sch, 0, .any⟩, ⟨11, 0, .load, 0, .any⟩]⟩ /- SCH_CFG -/,
    ⟨0x11, 1, 0, 1, 0, [⟨17, 0, .sch, 0, .any⟩]⟩ /- SCH_DEFAULT -/,
    ⟨0x12, 1, 0, 1, 0, [⟨11, 0, .load, 0, .any⟩]⟩ /- SCH_OVRPT -/,
    ⟨0x13, 1, 0, 1, 0, [⟨17, 0, .sch, 1, .any⟩]⟩ /- SCH_OTHR -/,
    ⟨0x14, 1, 0, 1, 0, [⟨17, 0, .sch, 0, .any⟩]⟩ /- SCH_VFROM -/,
    ⟨0x15, 1, 0, 1, 0, [⟨17, 0, .sch, 0, .any⟩]⟩ /- SCH_VTO -/,
    ⟨0x16, 1, 0, 1, 0, [⟨7, 0, .sch, 15, .any⟩]⟩ /- SCH_OREL -/,
    ⟨0x17, 1, 0, 1, 0, [⟨17, 17, .ro, 0, .any⟩, ⟨16, 16, .ro, 0, .any⟩, ⟨15, 11, .ro, 0, .any⟩, ⟨10, 8, .ro, 0, .any⟩]⟩ /- SCH_STAT -/,
    ⟨0x18, 1, 0, 1, 0, [⟨17, 0, .ro, 0, .any⟩]⟩ /- SCH_VAL -/,
    ⟨0x40, 56, 2, 1, 0, [⟨17, 17, .sch, 0, .any⟩, ⟨10, 0, .sch, 0, .span 0 1439⟩]⟩ /- SCH_T -/,
    ⟨0x41, 56, 2, 1, 0, [⟨17, 0, .sch, 0, .any⟩]⟩ /- SCH_V -/,
    ⟨0xC0, 32, 2, 1, 0, [⟨17, 17, .sch, 0, .any⟩, ⟨16, 16, .sch, 0, .any⟩, ⟨15, 12, .sch, 1, .span 1 12⟩, ⟨11, 7, .sch, 1, .span 1 31⟩, ⟨6, 4, .sch, 6, .span 0 6⟩]⟩ /- SCH_X0 -/,
    ⟨0xC1, 32, 2, 1, 0, [⟨7, 0, .sch, 0, .any⟩]⟩ /- SCH_X1 -/]

/-- Registers of POINT (Table 2-4; Table 2-5; Table 2-6). -/
def rowsPOINT : List Row :=
  [
    ⟨0x0, 1, 0, 1, 0, [⟨11, 0, .rw, 0, .any⟩]⟩ /- POINT_FNUM -/,
    ⟨0x1, 1, 0, 1, 0, [⟨17, 0, .rw, 0, .any⟩]⟩ /- POINT_FVAL -/,
    ⟨0x2, 1, 0, 1, 0, [⟨14, 13, .wo, 0, .any⟩, ⟨12, 0, .ro, 0, .any⟩]⟩ /- POINT_FCTL -/]

/-- Registers of FAB (Table 18-10; Table 18-11; Table 18-12; Table 18-13; Table 18-14; Table 18-15). -/
def rowsFAB : List Row :=
  [
    ⟨0x0, 1, 0, 1, 0, [⟨4, 0, .rwl, 5, .span 1 20⟩]⟩ /- FAB_CFG -/,
    ⟨0x1, 1, 0, 1, 0, [⟨9, 0, .ro, 0, .any⟩]⟩ /- FAB_LOADS -/,
    ⟨0x2, 1, 0, 1, 0, [⟨9, 0, .ro, 0, .any⟩]⟩ /- FAB_LOADW -/,
    ⟨0x3, 4, 1, 1, 0, [⟨9, 0, .ro, 0, .any⟩]⟩ /- FAB_UTILC -/,
    ⟨0x7, 4, 1, 1, 0, [⟨17, 0, .rc, 0, .any⟩]⟩ /- FAB_MAXWC -/,
    ⟨0xB, 1, 0, 1, 0, [⟨17, 13, .ro, 0, .any⟩, ⟨12, 8, .ro, 0, .any⟩]⟩ /- FAB_PART -/,
    ⟨0x10, 1, 0, 1, 0, [⟨17, 0, .rc, 0, .any⟩]⟩ /- FAB_PROMO2 -/,
    ⟨0x11, 1, 0, 1, 0, [⟨17, 0, .rc, 0, .any⟩]⟩ /- FAB_PROMO3 -/,
    ⟨0x12, 1, 0, 1, 0, [⟨17, 0, .rc, 0, .any⟩]⟩ /- FAB_LATEEND -/,
    ⟨0x13, 1, 0, 1, 0, [⟨17, 0, .rc, 0, .any⟩]⟩ /- FAB_BABORT -/,
    ⟨0x14, 1, 0, 1, 0, [⟨17, 0, .rc, 0, .any⟩]⟩ /- FAB_DOWNREP -/,
    ⟨0x15, 1, 0, 1, 0, [⟨17, 0, .rc, 0, .any⟩]⟩ /- FAB_RDISC -/,
    ⟨0x16, 1, 0, 1, 0, [⟨17, 0, .rc, 0, .any⟩]⟩ /- FAB_WDLY -/]

/-- Registers of AGE (Table 18-16; Table 18-17; Table 18-18; Table 18-19; Table 18-20; Table 18-21; Table 18-22; Table 18-23). -/
def rowsAGE : List Row :=
  [
    ⟨0x0, 1, 0, 1, 0, [⟨17, 17, .rwl, 1, .any⟩, ⟨15, 7, .rwl, 300, .span 1 511⟩, ⟨6, 0, .rwl, 100, .span 1 127⟩]⟩ /- AGE_CFG -/,
    ⟨0x1, 1, 0, 1, 0, [⟨12, 8, .rwl, 5, .span 5 20⟩, ⟨7, 5, .rwl, 6, .span 0 6⟩, ⟨4, 0, .rwl, 3, .span 0 23⟩]⟩ /- AGE_SCHED -/,
    ⟨0x2, 1, 0, 1, 0, [⟨17, 16, .wo, 0, .among [0, 1]⟩, ⟨15, 11, .ro, 7, .any⟩]⟩ /- AGE_CMD -/,
    ⟨0x3, 1, 0, 1, 0, [⟨17, 13, .ro, 7, .any⟩, ⟨12, 8, .ro, 20, .any⟩, ⟨7, 7, .ro, 0, .any⟩, ⟨6, 6, .ro, 0, .any⟩]⟩ /- AGE_STAT -/,
    ⟨0x4, 1, 0, 1, 0, [⟨17, 13, .ro, 7, .any⟩, ⟨12, 7, .ro, 0, .any⟩, ⟨6, 6, .ro, 0, .any⟩]⟩ /- AGE_REPLAN -/,
    ⟨0x5, 1, 0, 1, 0, [⟨17, 14, .ro, 0, .any⟩, ⟨13, 0, .ro, 0, .any⟩]⟩ /- AGE_SMAX -/,
    ⟨0x6, 1, 0, 1, 0, [⟨17, 0, .ro, 0, .any⟩]⟩ /- AGE_MARGIN -/,
    ⟨0x10, 16, 1, 1, 0, [⟨17, 0, .ro, 0, .any⟩]⟩ /- AGE_CNT -/]

end Sys2Proof.Machine
end

