-- ==== Sys2Proof/Machine/RegMap.lean ====
section
/-! DEFINITION. The block map (R57), the keys of windowed registers, and the lookup of a register's row, reset value
and fields. -/

namespace Sys2Proof.Machine

/-- The register blocks of Table 2-13. -/
inductive Blk where
  | sys | pwr | clk | thm | boot | tally | flw | psp | hsp | svc | fuse
  | head (h : Fin 4) | pe (h : Fin 4) | shut | stand | occ | ctx | cmp | ctl (c : Fin 2)
  | prf | trc | afe | adc | fan | vlv | dac | gpio | bus (p : Fin 2) | sched | point | fab | age
  deriving DecidableEq, Repr

/-- Base address of a block (Table 2-13). -/
def Blk.base : Blk → Nat
  | .sys => 0x0000 | .pwr => 0x0400 | .clk => 0x0800 | .thm => 0x0C00 | .boot => 0x1000
  | .tally => 0x1400 | .flw => 0x1800 | .psp => 0x1C00 | .hsp => 0x2000 | .svc => 0x2400
  | .fuse => 0x2800 | .head h => 0x3000 + 0x400 * h.val | .pe h => 0x4000 + 0x400 * h.val
  | .shut => 0x5000 | .stand => 0x5400 | .occ => 0x5800 | .ctx => 0x5C00 | .cmp => 0x6000
  | .ctl c => 0x6400 + 0x400 * c.val | .prf => 0x6C00 | .trc => 0x7000 | .afe => 0x7400
  | .adc => 0x7800 | .fan => 0x7C00 | .vlv => 0x8000 | .dac => 0x8400 | .gpio => 0x8800
  | .bus p => 0x8C00 + 0x400 * p.val | .sched => 0x9400 | .point => 0x9800 | .fab => 0x9C00
  | .age => 0xA000

/-- Every block, in address order (Table 2-13). -/
def Blk.all : List Blk :=
  [.sys, .pwr, .clk, .thm, .boot, .tally, .flw, .psp, .hsp, .svc, .fuse,
   .head 0, .head 1, .head 2, .head 3, .pe 0, .pe 1, .pe 2, .pe 3, .shut, .stand, .occ, .ctx, .cmp] ++
  [.ctl 0, .ctl 1, .prf, .trc, .afe, .adc, .fan, .vlv, .dac, .gpio, .bus 0, .bus 1, .sched, .point,
   .fab, .age]

/-- The block whose 1,024 words hold an address (R57). -/
def Blk.ofAddr (a : Nat) : Option Blk :=
  match a / 0x400 with
  | 0 => some .sys | 1 => some .pwr | 2 => some .clk | 3 => some .thm | 4 => some .boot
  | 5 => some .tally | 6 => some .flw | 7 => some .psp | 8 => some .hsp | 9 => some .svc
  | 10 => some .fuse | 12 => some (.head 0) | 13 => some (.head 1) | 14 => some (.head 2)
  | 15 => some (.head 3) | 16 => some (.pe 0) | 17 => some (.pe 1) | 18 => some (.pe 2)
  | 19 => some (.pe 3) | 20 => some .shut | 21 => some .stand | 22 => some .occ | 23 => some .ctx
  | 24 => some .cmp | 25 => some (.ctl 0) | 26 => some (.ctl 1) | 27 => some .prf | 28 => some .trc
  | 29 => some .afe | 30 => some .adc | 31 => some .fan | 32 => some .vlv | 33 => some .dac
  | 34 => some .gpio | 35 => some (.bus 0) | 36 => some (.bus 1) | 37 => some .sched
  | 38 => some .point | 39 => some .fab | 40 => some .age
  | _ => none

/-- The register rows of a block (the tables of its chapter). -/
def Blk.rows : Blk → List Row
  | .sys => rowsSYS | .pwr => rowsPWR | .clk => rowsCLK | .thm => rowsTHM | .boot => rowsBOOT
  | .tally => rowsTALLY | .flw => rowsFLW | .psp => rowsPSP | .hsp => rowsHSP | .svc => rowsSVC
  | .fuse => rowsFUSE | .head _ => rowsHEAD | .pe _ => rowsPE | .shut => rowsSHUT | .stand => rowsSTAND
  | .occ => rowsOCC | .ctx => rowsCTX | .cmp => rowsCMP | .ctl _ => rowsCTL | .prf => rowsPRF
  | .trc => rowsTRC | .afe => rowsAFE | .adc => rowsADC | .fan => rowsFAN | .vlv => rowsVLV
  | .dac => rowsDAC | .gpio => rowsGPIO | .bus _ => rowsBUS | .sched => rowsSCHED | .point => rowsPOINT
  | .fab => rowsFAB | .age => rowsAGE

/-- Blocks whose engine needs no image section and works from reset release on (Table 1-1, Table 6-5), and SYS, whose
STATE reports the device state (R56).
DESIGN CHOICE: notes/assumptions/3. Unsafe: a claim on these STATE registers before any load rests on it. -/
def Blk.needsNoSection : Blk → Bool
  | .sys | .boot | .flw | .psp | .hsp | .svc | .fuse => true
  | _ => false

/-- The row of the STATE register at offset 0x3FC of every block (Table 2-10), with the state after reset. -/
def stateRow (b : Blk) : Row :=
  ⟨0x3FC, 1, 0, 1, 0, [⟨3, 3, .ro, 0, .any⟩, ⟨2, 0, .ro, if b.needsNoSection then 0 else 2, .any⟩]⟩

/-- UNLOCK and RESULT of every block (Tables 2-11, 2-12). -/
def commonRows : List Row :=
  [⟨0x3FD, 1, 0, 1, 0, [⟨17, 0, .wo, 0, .any⟩]⟩,
   ⟨0x3FE, 1, 0, 1, 0, [⟨14, 10, .ro, 0, .any⟩, ⟨9, 0, .ro, 0, .any⟩]⟩]

/-- The first row of a list that holds an offset. -/
def findRow (o : Nat) : List Row → Option Row
  | [] => none
  | r :: rs => if r.has o then some r else findRow o rs

/-- The row of a key: the register it names, or none where the tables list no register. -/
def rowOf (key : Nat) : Option Row :=
  if key < 0x10000 then
    match Blk.ofAddr key with
    | none => none
    | some b =>
      let o := key % 0x400
      if o < 0x3FC then findRow o b.rows
      else if o = 0x3FC then some (stateRow b)
      else findRow o commonRows
  else if key < 0x20000 then findRow (key % 0x40) rowsSLOTWIN
  else if key < 0x30000 then findRow (key % 8) rowsSTANDWIN
  else if key < 0x40000 then findRow (key % 0x100) rowsSCHEDWIN
  else none

/-- Reset value of a row: its fields at their Reset column (R11). -/
def fieldsReset : List FSpec → Nat
  | [] => 0
  | f :: fs => f.reset * 2 ^ f.lo + fieldsReset fs

/-- Reset value of a key. Keys from 0x40000 on are per-domain LAST and BLOCKER (Table 4-9, LAST resets to
NOT_YET) and capture latches (reset 0). -/
def resetVal (key : Nat) : Word :=
  match rowOf key with
  | some r => BitVec.ofNat 18 (fieldsReset r.fields)
  | none => if 0x40000 ≤ key ∧ key < 0x50000 then BitVec.ofNat 18 (7 * 2 ^ 4) else 0

/-- A value of a field that its table allows (R52 step 3). -/
def Rng.ok (r : Rng) (v : Nat) : Bool :=
  match r with
  | .any => true
  | .span lo hi => Nat.ble lo v && Nat.ble v hi
  | .among l => memNat v l

/-- The engines of Table 1-1; a line of the table with several register blocks that are loaded apart is one engine per
block here (DEDUCED, notes/assumptions/2). -/
inductive Engine where
  | head (h : Fin 4) | pe (h : Fin 4) | shut | stat | ctx | ctl (c : Fin 2) | prf | trc | sched | conv | act
  | bus (p : Fin 2) | gpio | point | fab | tick | thm | pwr | clk | age | boot | tally | flw | psp | hsp | svc
  | fuse | cmp
  deriving DecidableEq, Repr

/-- The register blocks of an engine (Table 1-1). -/
def Engine.blocks : Engine → List Blk
  | .head h => [.head h] | .pe h => [.pe h] | .shut => [.shut] | .stat => [.stand, .occ] | .ctx => [.ctx]
  | .ctl c => [.ctl c] | .prf => [.prf] | .trc => [.trc] | .sched => [.sched] | .conv => [.afe, .adc]
  | .act => [.fan, .vlv, .dac] | .bus p => [.bus p] | .gpio => [.gpio] | .point => [.point] | .fab => [.fab]
  | .tick => [.sys] | .thm => [.thm] | .pwr => [.pwr] | .clk => [.clk] | .age => [.age] | .boot => [.boot]
  | .tally => [.tally] | .flw => [.flw] | .psp => [.psp] | .hsp => [.hsp] | .svc => [.svc] | .fuse => [.fuse]
  | .cmp => [.cmp]

/-- The engine that owns a block. -/
def Blk.engine : Blk → Engine
  | .sys => .tick | .pwr => .pwr | .clk => .clk | .thm => .thm | .boot => .boot | .tally => .tally
  | .flw => .flw | .psp => .psp | .hsp => .hsp | .svc => .svc | .fuse => .fuse | .head h => .head h
  | .pe h => .pe h | .shut => .shut | .stand => .stat | .occ => .stat | .ctx => .ctx | .cmp => .cmp
  | .ctl c => .ctl c | .prf => .prf | .trc => .trc | .afe => .conv | .adc => .conv | .fan => .act
  | .vlv => .act | .dac => .act | .gpio => .gpio | .bus p => .bus p | .sched => .sched | .point => .point
  | .fab => .fab | .age => .age

/-- Every engine. -/
def Engine.all : List Engine :=
  [.tick, .pwr, .clk, .thm, .age, .boot, .tally, .flw, .psp, .hsp, .svc, .fuse, .point, .fab,
   .head 0, .head 1, .head 2, .head 3, .pe 0, .pe 1, .pe 2, .pe 3, .shut, .stat, .ctx, .cmp] ++
  [.ctl 0, .ctl 1, .prf, .trc, .sched, .conv, .act, .bus 0, .bus 1, .gpio]

end Sys2Proof.Machine
end

