-- ==== Sys2Proof/Machine/Float64.lean ====
section
/-! DEFINITION. binary64 arithmetic for the computations that the spec runs "in binary64" (R181, R185, R189): IEEE 754
round to nearest even; exp and ln correctly rounded (PRESUMED, notes/assumptions/20). -/

namespace Sys2Proof.Machine

/-- A binary64 number: a finite one as m × 2^e, an infinity, or not a number. -/
inductive F64 where
  | fin (m : Int) (e : Int)
  | inf (neg : Bool)
  | nan
  deriving DecidableEq, Repr

/-- 2^e of a non-negative exponent, 1 for a negative one. -/
def pow2Pos (e : Int) : Nat := 2 ^ e.toNat

/-- The binary64 number nearest to n / d (d > 0), ties to even. -/
def F64.ofFrac (n : Int) (d : Nat) : F64 :=
  if n = 0 then .fin 0 0
  else
    let k : Int := (n.natAbs.log2 : Int) - (d.log2 : Int)
    -- a first exponent under which the quotient has at least 53 bits
    let e0 : Int := k - 53
    let q0 := (n.natAbs * pow2Pos (-e0)) / (d * pow2Pos e0)
    let e1 : Int := e0 + ((q0.log2 : Int) - 52)
    let e : Int := if e1 < -1074 then -1074 else e1
    let q := roundDivEven (n * (pow2Pos (-e) : Int)) (d * pow2Pos e)
    let large : Bool := decide ((2 ^ 1024 : Nat) ≤ q.natAbs * pow2Pos e)
    if large then .inf (decide (n < 0)) else .fin q e

/-- Numerator and denominator of a finite number. -/
def F64.frac : F64 → Option (Int × Nat)
  | .fin m e => some (m * (pow2Pos e : Int), pow2Pos (-e))
  | _ => none

def F64.ofInt (i : Int) : F64 := .ofFrac i 1

def F64.add (a b : F64) : F64 :=
  match a.frac, b.frac with
  | some (n, d), some (n', d') => .ofFrac (n * d' + n' * d) (d * d')
  | _, _ =>
    match a, b with
    | .nan, _ | _, .nan => .nan
    | .inf s, .inf s' => if s = s' then .inf s else .nan
    | .inf s, _ => .inf s
    | _, .inf s => .inf s
    | _, _ => .nan

def F64.negate : F64 → F64
  | .fin m e => .fin (-m) e
  | .inf s => .inf (!s)
  | .nan => .nan

def F64.sub (a b : F64) : F64 := a.add b.negate

def F64.isNeg : F64 → Bool
  | .fin m _ => decide (m < 0)
  | .inf s => s
  | .nan => false

def F64.isZero : F64 → Bool
  | .fin m _ => decide (m = 0)
  | _ => false

def F64.mul (a b : F64) : F64 :=
  match a.frac, b.frac with
  | some (n, d), some (n', d') => .ofFrac (n * n') (d * d')
  | _, _ =>
    match a, b with
    | .nan, _ | _, .nan => .nan
    | x, y => if x.isZero || y.isZero then .nan else .inf (x.isNeg != y.isNeg)

def F64.div (a b : F64) : F64 :=
  match a.frac, b.frac with
  | some (n, d), some (n', d') =>
    if n' = 0 then (if n = 0 then .nan else .inf (decide (n < 0)))
    else .ofFrac (n * (d' : Int) * (if n' < 0 then -1 else 1)) (d * n'.natAbs)
  | _, _ =>
    match a, b with
    | .nan, _ | _, .nan => .nan
    | .inf _, .inf _ => .nan
    | .inf s, y => .inf (s != y.isNeg)
    | _, .inf _ => .fin 0 0
    | _, _ => .nan

/-- a ≤ b for numbers (false with a NaN). -/
def F64.le (a b : F64) : Bool :=
  match a.frac, b.frac with
  | some (n, d), some (n', d') => decide (n * (d' : Int) ≤ n' * (d : Int))
  | _, _ =>
    match a, b with
    | .nan, _ | _, .nan => false
    | .inf true, _ => true
    | _, .inf false => true
    | _, _ => false

/-- Working precision, in bits, of exp and ln before the final rounding. -/
def fxPrec : Nat := 320

/-- One step of ln 2 = Σ 1 / (n 2^n). -/
def ln2Sum : Nat → Nat → Nat
  | 0, acc => acc
  | n + 1, acc => ln2Sum n (acc + 2 ^ fxPrec / ((n + 1) * 2 ^ (n + 1)))

/-- ln 2 in units of 2^-320. -/
def ln2Fix : Nat := ln2Sum 320 0

/-- Σ r^n / n! from term `n` on, `r` in units of 2^-320, with `k` terms. -/
def expSum (r : Int) : Nat → Nat → Int → Int → Int
  | 0, _, _, acc => acc
  | k + 1, n, term, acc =>
    let t := (term * r / (2 ^ fxPrec : Nat)) / ((n + 1 : Nat) : Int)
    expSum r k (n + 1) t (acc + t)

/-- exp, correctly rounded. -/
def F64.exp : F64 → F64
  | .nan => .nan
  | .inf false => .inf false
  | .inf true => .fin 0 0
  | .fin m e =>
    let x := F64.fin m e
    if (F64.ofInt 710).le x then .inf false
    else if x.le (F64.ofInt (-746)) then .fin 0 0
    else
      -- x in units of 2^-320 (exact or truncated far below the result's last bit)
      let xf : Int := if e + fxPrec < 0 then m / (pow2Pos (-(e + fxPrec)) : Int) else m * (pow2Pos (e + fxPrec) : Int)
      let k : Int := (2 * xf + ln2Fix) / (2 * (ln2Fix : Int))
      let r : Int := xf - k * ln2Fix
      let s := expSum r 96 0 (2 ^ fxPrec : Nat) (2 ^ fxPrec : Nat)
      .ofFrac (s * (pow2Pos k : Int)) (2 ^ fxPrec * pow2Pos (-k))

/-- Σ z^(2n+1) / (2n+1), z² in units of 2^-320. -/
def atanhSum (z2 : Nat) : Nat → Nat → Nat → Nat → Nat
  | 0, _, _, acc => acc
  | k + 1, n, term, acc =>
    let t := term * z2 / 2 ^ fxPrec
    atanhSum z2 k (n + 1) t (acc + t / (2 * (n + 1) + 1))

/-- ln of a positive number, correctly rounded; NaN elsewhere. -/
def F64.ln : F64 → F64
  | .inf false => .inf false
  | .fin m e =>
    if m ≤ 0 then (if m = 0 then .inf true else .nan)
    else
      let b := m.natAbs.log2
      -- x = (m / 2^b) × 2^(e + b), with m / 2^b in [1, 2)
      let k : Int := e + b
      let z := ((m.natAbs - 2 ^ b) * 2 ^ fxPrec) / (m.natAbs + 2 ^ b)
      let z2 := z * z / 2 ^ fxPrec
      let s := atanhSum z2 128 0 z z
      .ofFrac (k * ln2Fix + 2 * s) (2 ^ fxPrec)
  | _ => .nan

/-- floor of a finite number; 0 for the others (callers judge infinities first). -/
def F64.floor (a : F64) : Int :=
  match a.frac with
  | some (n, d) => n / (d : Int)
  | none => 0

/-- Rounding half up, floor(x + 1/2), as the register formats take it (R181, R185). -/
def F64.round (a : F64) : Int :=
  match a.frac with
  | some (n, d) => (2 * n + d) / (2 * (d : Int))
  | none => 0

/-- Rounding half up with saturation between two limits; an infinity saturates. -/
def F64.roundSat (a : F64) (lo hi : Int) : Int :=
  match a with
  | .inf false => hi
  | .inf true => lo
  | .nan => lo
  | x => clampInt lo hi x.round

/-- The binary32 number nearest to a binary64 one, ties to even, held as a binary64 number (R324). -/
def F64.toF32 (a : F64) : F64 :=
  match a.frac with
  | some (n, d) =>
    if n = 0 then .fin 0 0
    else
      let k : Int := (n.natAbs.log2 : Int) - (d.log2 : Int)
      let e0 : Int := k - 24
      let q0 := (n.natAbs * pow2Pos (-e0)) / (d * pow2Pos e0)
      let e1 : Int := e0 + ((q0.log2 : Int) - 23)
      let e : Int := if e1 < -149 then -149 else e1
      let q := roundDivEven (n * (pow2Pos (-e) : Int)) (d * pow2Pos e)
      if (2 ^ 128 : Nat) ≤ q.natAbs * pow2Pos e then .inf (decide (n < 0)) else .fin q e
  | none => a

/-- Rounding to nearest, a tie away from zero (R326); none for an infinity or a NaN. -/
def F64.roundAway (a : F64) : Option Int := a.frac.map (fun f => roundDivAway f.1 f.2)

/-- Largest r with r × r ≤ n, by bits from 2^k down. -/
def isqrtBits (n : Nat) : Nat → Nat → Nat
  | 0, r => r
  | k + 1, r => if (r + 2 ^ k) * (r + 2 ^ k) ≤ n then isqrtBits n k (r + 2 ^ k) else isqrtBits n k r

/-- Integer square root. -/
def isqrt (n : Nat) : Nat := isqrtBits n (n.log2 / 2 + 1) 0

end Sys2Proof.Machine
end

