-- ==== Sys2Proof/Machine/Types.lean ====
section
/-! DEFINITION. The types of the parts of the state, chapter by chapter: plain data throughout. -/

namespace Sys2Proof.Machine

/-! ### The register file -/

/-- The register file: registers that differ from their reset value, keys strictly rising (01 to 18, register
tables). A key is the 16-bit word address, or a windowed register's own number (`Sys2Proof.Machine.regKey`). -/
structure Regs where
  /-- (key, value), keys strictly rising, no value equal to the key's reset value. -/
  cells : List (Nat × Word)
  /-- Addresses the HSP has read since their word last changed, with the word read (R349). -/
  seenHsp : List (Nat × Nat)
  /-- Addresses the console has read since their word last changed, with the word read (R387). -/
  seenCon : List (Nat × Nat)
  deriving DecidableEq, Repr

/-! ### Points (chapter 2) -/

/-- Point quality (Table 2-2). -/
inductive Quality where
  | fresh | held | stale | forced | fault | notYet | clipped
  deriving DecidableEq, Repr

/-- Point format (Table 2-1). -/
inductive PFormat where
  | temp | frac | ucnt | rh
  deriving DecidableEq, Repr

/-- The one source of a point (R36). -/
inductive PSrc where
  | afe (slot : Nat)
  | stand (stand stat : Nat)
  | loop (l : Nat)
  | prf (g : Nat)
  | sched (k : Nat)
  | fan (ch k : Nat)
  | valve (v : Nat)
  | gpio (g : Nat)
  | thm (k : Nat)
  | modbus (port trans word : Nat)
  | bacnet (port obj : Nat)
  | host
  deriving DecidableEq, Repr

/-- What a point (or its shadow entry) holds: value, quality and age in ms (R36, R40). -/
structure PVal where
  value : Word
  quality : Quality
  age : Nat
  deriving DecidableEq, Repr

/-- An assigned point (R36 to R42). -/
structure Point where
  v : PVal
  format : PFormat
  source : PSrc
  hold : Nat
  /-- The shadow entry while FORCED (R46). -/
  shadow : Option PVal
  deriving DecidableEq, Repr

/-! ### Tick generator (chapter 1) -/

/-- The tick generator's own state (R16 to R24, R32). -/
structure Tick where
  /-- D0 is out of reset and the generator counts (R23). -/
  running : Bool
  /-- The 40-bit phase accumulator (R16). -/
  phase : BitVec 40
  /-- Crystal cycles counted since D0 left reset (the instant of the last ST edge, R17). -/
  cycles : Nat
  /-- The staged low part of STINC (R32). -/
  staged : Option Word
  /-- A committed change that waits for the next FT edge: STINC and N (R32). -/
  pend : Option (BitVec 31 × BitVec 13)
  /-- The 20-bit sample counter (R19). -/
  sample : BitVec 20
  /-- ST edges since the last FT edge (R21). -/
  ftCount : Nat
  /-- The last ST edge is an Nth one whose FT edge has not been taken yet (R21). -/
  ftDue : Bool
  /-- The 36-bit frame number (R22). -/
  frame : BitVec 36
  /-- ST edges since the last 64th one (R20). -/
  liveCount : Nat
  /-- The last ST edge is a 64th one whose LIVE toggle has not been taken yet (R20). -/
  liveDue : Bool
  deriving DecidableEq, Repr

/-! ### Balls and reset (chapter 3) -/

/-- The level to which the console forces a ball (R65). -/
inductive BallForce where
  | high | low | z
  deriving DecidableEq, Repr

/-- Balls whose state is not another unit's: reset inputs, LIVE, SYNC, SYSOFF_N and the forced balls (chapter 3). -/
structure Balls where
  resetN : Bool
  pgood : Bool
  /-- Level of LIVE (R20). -/
  live : Bool
  /-- SYNCn is in its pulse (R134). -/
  sync : Vector Bool 4
  /-- SYSOFF_N asserted by a window comparator, held until RESET_N (R71). -/
  sysoff : Bool
  /-- Level of NVWP_N: true while the tally store may be written (R357). -/
  nvwp : Bool
  /-- Forced balls by ball number 16 × row + column, rising (R65). -/
  forced : List (Nat × BallForce)
  /-- Balls that a protection took from their force to their Reset state (R65; notes/assumptions/118). -/
  resets : List Nat
  deriving DecidableEq, Repr

/-! ### Power and clocks (chapter 4) -/

inductive DomState where
  | off | ret | on
  deriving DecidableEq, Repr

/-- One power domain (R82, R84). -/
structure Domain where
  st : DomState
  /-- The state a transition in progress leads to. -/
  pend : Option DomState
  deriving DecidableEq, Repr

structure Power where
  doms : Vector Domain 30
  /-- VDD_AON is above its power-on-reset threshold (R79). -/
  aon : Bool
  /-- A rail monitor has tripped and the rails have not been good for 1 ms since (R80). -/
  railTrip : Bool
  deriving DecidableEq, Repr

structure Clock where
  /-- XIN oscillates: no loss since its last check or return (R92, R94, R95). After a return the references still run on IOSC
  until the next ST edge, with XHOLD set. -/
  xin : Bool
  /-- Burst clock multiplier of a change that waits for the end of the burst or for lock (R91). -/
  pendFbk : Option Nat
  /-- Whether the RTC crystal's first second has been judged (R97). -/
  rtcJudged : Bool
  deriving DecidableEq, Repr

/-! ### Thermal supervisor (chapter 5) -/

/-- Trip cause (R107). -/
inductive TripCause where
  | thermal | xtalLoss | pllUnlock | tsFail
  deriving DecidableEq, Repr

/-- What the supervisor keeps of one sensor beyond THM_TSn (R99, R102). -/
structure Sensor where
  /-- Code of the previous sample. -/
  prev : Option (BitVec 13)
  /-- Supervisor time of the later of the code's last change and the last successful clear. -/
  since : Nat
  /-- Supervisor time of the last sample that met one of the first two conditions of R99. -/
  lastBad : Option Nat
  deriving DecidableEq, Repr

structure Therm where
  /-- Supervisor time in units of 62.5 µs (R98). -/
  time : Nat
  sensors : Vector Sensor 16
  /-- (time, sum of valid readings, number of valid sensors) of the samples of the last 300 s, newest first (R99). -/
  means : List (Nat × Int × Nat)
  /-- Band in force in the fabric and the SRAM assist, and a band change that waits for the end of the burst (R106). -/
  storeBand : Nat
  pendBand : Option Nat
  /-- Band in force at each sensor port and at the CSI-2 transmitter's PHY (R106). -/
  portBand : Vector Nat 5
  /-- L3 dropping applies from the next FT edge (R105). -/
  l3drop : Bool
  /-- Causes that have arisen and wait for TRIP, in the order of their codes (R107). -/
  causes : List TripCause
  /-- The trip sequence runs or the device is in shutdown (R108). -/
  tripped : Bool
  /-- The shutdown record has been written (step 6). -/
  recorded : Bool
  /-- Every domain except D0 is OFF (step 7). -/
  shutdown : Bool
  /-- Frame number and highest valid reading (value, sensor) at the trip, for the record (Table 5-5). -/
  tripInfo : Option (BitVec 36 × Nat × Nat)
  /-- Supervisor time since which Tj has stayed below 95 °C in shutdown (R110). -/
  coolSince : Option Nat
  /-- The restart has been judged since the trip (R110). -/
  judged : Bool
  deriving DecidableEq, Repr

/-! ### Sensor ports (chapter 7) and pixel engines (chapter 8) -/

/-- What the pixel store keeps of one pixel: its state word's four fields (Table 8-2) and its map word (Table 8-3). -/
structure Px where
  tmp : Word
  bkg : Word
  gn : Word
  ofs : Word
  map : Word
  deriving DecidableEq, Repr

/-- One line slot of a raw ring (R142, R158). -/
structure RingSlot where
  /-- Tag: bits 7:0 of the frame number, and the line index. -/
  tagFrame : Nat
  tagLine : Nat
  pixels : List (BitVec 16)
  /-- The burst of its frame has not read it yet. -/
  unread : Bool
  deriving DecidableEq, Repr

/-- A frame being received (R141, R143, R144). -/
structure FrameRx where
  frame : BitVec 36
  /-- Set and generation of the frame (R148). -/
  set : Nat
  gen : BitVec 18
  /-- Image lines received, lost lines included in none. -/
  lines : Nat
  /-- Ring slot of line 0, and the lines to store from there on: those of a frame that is dropped are never written
  (R142). -/
  slot0 : Nat
  held : List (List (BitVec 16))
  l3 : Bool
  notsvc : Bool
  ovr : Bool
  shortline : Bool
  hdr : Bool
  crc : Bool
  nofe : Bool
  long : Bool
  /-- First packet of each telemetry source: FPA, shutter, set echo (R143). -/
  embedded : Option (List Byte)
  user : List (Nat × List Byte)
  deriving DecidableEq, Repr

/-- A staged setting change past COMMIT (R146, R147). -/
structure SetChange where
  target : BitVec 36
  set : Nat
  /-- New values (INT, BIAS, GAIN) for the set in force, written at A; for another set they were written at COMMIT. -/
  modify : Option (Nat × Nat × Nat)
  /-- The open window leaves enough time to program it (R147). -/
  ready : Bool
  /-- Frame A, once programming has started, and whether it has succeeded. -/
  programmedFor : Option (BitVec 36)
  done : Bool
  deriving DecidableEq, Repr

/-- A negotiation in progress (R139, R140). -/
inductive NegPhase where
  | pending | reset | wait | descriptor | waitFs
  deriving DecidableEq, Repr

/-- A frame closed with a result, as statistics and export know it (R144). -/
structure FrameRes where
  frame : BitVec 36
  set : Nat
  gen : BitVec 18
  fpa : Word
  /-- Shutter temperature, or the FPA value while TLMSHT is disabled (R178). -/
  sht : Word
  /-- Status code of the frame: OK, SHORT_FRAME, LONG_FRAME or DROPPED. -/
  status : Nat
  deriving DecidableEq, Repr

/-- A burst that waits or runs (R141, R150, R156). -/
structure Burst where
  head : Nat
  res : FrameRes
  slot0 : Nat
  /-- The mode taken at the start: 0 the normal pipeline, a phase code of Table 9-2, or 7 finalization (R168, R181). -/
  cal : Nat
  /-- The next FT of the head has passed (R157, R379). -/
  late : Bool
  /-- The register values latched at the start (R156), and the raw codes of the frame. -/
  ctx : Option Regs
  raw : List (List Nat)
  /-- Filter-reset frame (R166), judged at the start. -/
  frst : Bool
  /-- The first burst of a run: its time holds the wake (R150). -/
  first : Bool
  deriving DecidableEq, Repr

/-- One sensor port with its head's resident state. -/
structure HeadSt where
  /-- In service (R136): from the end of a successful negotiation. -/
  svc : Bool
  /-- HRST_Nn is driven (true: high) or still in its Reset state (R135). -/
  hrst : Option Bool
  neg : Option NegPhase
  /-- Attempts of the present negotiation. -/
  attempt : Nat
  /-- FT edges since SYNC started, while the first FS is awaited (R140). -/
  negFt : Nat
  /-- A renegotiation without HRST_N pulse (R136). -/
  reneg : Bool
  rx : Option FrameRx
  /-- The frame being received is an EXTRA one (R141). -/
  extra : Bool
  /-- An FS has come since the latest FT edge (R141). -/
  fsSeen : Bool
  /-- Number of the frame begun at the latest FT edge at which a frame of the head is taken, and whether the frame of the
  latest FT edge is dropped at L3 (R105). -/
  curFrame : BitVec 36
  curL3 : Bool
  /-- The first negotiation has ended (R139, R148). -/
  everNeg : Bool
  /-- Frames in a row without FPA telemetry, and whether any FPA value came since the negotiation (R143). -/
  tlmMiss : Nat
  fpaSeen : Bool
  /-- A setting window is open: the latest frame has closed and its next FT edge has not come (R147). -/
  winOpen : Bool
  change : Option SetChange
  /-- Restore of the set in force is pending; it has been tried in the open window; it runs on the PSP (R147). -/
  restore : Bool
  restoreTried : Bool
  restoring : Bool
  /-- Frames are dropped until the first frame after a renegotiation or reload (R129, R136). -/
  dropUntil : Bool
  /-- What the port sent to the head over the PSP last, transaction by transaction (R137, R139, R147). -/
  sent : List (List Byte)
  ring : List (Option RingSlot)
  ringNext : Nat
  /-- The head's pixels, row by row (R152). -/
  px : List Px
  /-- The four 18-bit parts of the last state word read through the window, with its pixel (R154). -/
  winCap : Option (Nat × List Word)
  /-- The next processed frame is a filter-reset frame (R166). -/
  filtReset : Bool
  /-- Frames in a row with no completed burst (R166). -/
  noBurst : Nat
  /-- Radiometric tables of the four sets (R185). -/
  radTab : List (List Word)
  /-- The frame whose TMP was written last (R219). -/
  good : Option FrameRes
  /-- The frame of the last burst that ended, with the ring slot of its line 0; and the frame of the last statistics
  pass (R364). -/
  lastBurst : Option (FrameRes × Nat)
  lastPass : Option FrameRes
  deriving DecidableEq, Repr

/-- The bursts: waiting in the order of their frames' ends, and the running one (R30, R150). -/
structure BurstQ where
  waiting : List Burst
  running : Option Burst
  /-- The pixel engines are awake (R87). -/
  awake : Bool
  /-- Line scratch: c_d of the last eight lines that a burst has drift-compensated, one line slot each (R151). -/
  scratch : List (List Int)
  deriving DecidableEq, Repr

/-! ### Shutter controller (chapter 9) -/

/-- Sums of a settle frame over the head's non-snag pixels, and per drift class (Table 9-4, SETTLE1). -/
structure SettleSums where
  n : Nat
  sumR : Int
  sumOfs : Int
  sumGn : Int
  /-- Per drift class: number of pixels and sum of c_d. -/
  cls : List (Nat × Int)
  /-- Pixels with |c_d − S_exp| above UNIF. -/
  out : Nat
  sExp : F64
  fpa : Word
  set : Nat
  deriving DecidableEq, Repr

/-- A recalibration in progress (R175 to R181). Its phase is SHUT_STATh.PHASE. -/
structure Recal where
  /-- Frame S, the set in force, and the shutter channel. -/
  start : BitVec 36
  set : Nat
  vlv : Nat
  nsettle : Nat
  navg : Nat
  /-- TCLOSE and TOPEN in ms, as latched at S. -/
  tclose : Nat
  topen : Nat
  /-- Instant in ns (of the tick generator) at which the peak started, once the channel was granted it. -/
  peakAt : Option Nat
  /-- Taken frames begun in the present phase. -/
  taken : Nat
  /-- L, and ΣOFS, ΣGN and n latched at the end of SETTLE1 (R179). -/
  level : Int
  oldSums : Int × Int × Nat
  /-- Frames averaged, and the sums of their shutter and FPA temperatures. -/
  k : Nat
  sumTsh : Nat
  sumFpa : Nat
  /-- Pixels whose deviation was limited (R180), as pixel numbers. -/
  clipped : List Nat
  /-- Instant in ns of O1, once the release has been given. -/
  o1 : Option Nat
  deriving DecidableEq, Repr

/-- Finalization that waits for a burst of the head (R181). -/
structure Final where
  start : BitVec 36
  k : Nat
  level : Int
  oldSums : Int × Int × Nat
  sumTsh : Nat
  sumFpa : Nat
  set : Nat
  deriving DecidableEq, Repr

/-- One archived offset plane as the cruise reads it from flash (R183, R189). -/
structure Archive where
  slot : Nat
  start : BitVec 36
  set : Nat
  tsh : Word
  fpa : Word
  /-- RTC seconds when the plane was taken. -/
  time : Nat
  plane : List Word
  deriving DecidableEq, Repr

/-- One drift sample record (R182): frame S, set, ΔT and z per class (none: fewer than 16 pixels). -/
structure DriftSample where
  start : BitVec 36
  set : Nat
  x : Int
  z : List (Option Int)
  deriving DecidableEq, Repr

structure ShutHead where
  recal : Option Recal
  final : Option Final
  /-- A RECAL command (R173) or STARTCAL (R174) is pending. -/
  cmd : Bool
  /-- STARTCAL's command waits for the next taken frame and ignores TMIN (R174). -/
  startCmd : Bool
  /-- A start decided at an evaluation: causes (Table 9-1), for the next taken frame (R172). -/
  startAt : Option Nat
  /-- BREF (R171), and consecutive normal bursts over BLTHR. -/
  bref : Option (Int × Nat)
  blindCount : Nat
  /-- ELAPSED counts (R171). -/
  counting : Bool
  /-- The head has delivered a corrected frame since its negotiation. -/
  corrected : Bool
  /-- The start-up recalibration of an uncalibrated STARTSET is still to start (R174). -/
  startup : Bool
  /-- LASTF takes the number of the first normal frame (R181). -/
  lastfPend : Bool
  archNext : Nat
  /-- When the planes archived since reset were taken: slot, frame S, RTC seconds (t_j of R189). -/
  archTimes : List (Nat × BitVec 36 × Nat)
  /-- ΣGN and n of the last settle frame, of which GNMEAN is the quotient (R179). -/
  gnSums : Option (Int × Nat)
  deriving DecidableEq, Repr

/-- The cruise (R188): the head surveyed, if one is. -/
structure Cruise where
  head : Option Nat
  deriving DecidableEq, Repr

/-! ### Statistics and occupant engine, CSI-2 transmitter (chapter 10) -/

/-- A blob of the latest processed frame (R209, Table 10-3). -/
structure Blob where
  area : Nat
  cx : Nat
  cy : Nat
  meant : Nat
  x0 : Nat
  y0 : Nat
  x1 : Nat
  y1 : Nat
  stand : Nat
  nocc : Nat
  /-- Track ID, whether the track is new, and its dwell in its stand. -/
  track : Option (Nat × Bool × Nat)
  deriving DecidableEq, Repr

/-- A live track (R210, R211). -/
structure Track where
  id : Nat
  cx : Nat
  cy : Nat
  stand : Nat
  /-- Processed frames since it entered its stand. -/
  dwell : Nat
  misses : Nat
  deriving DecidableEq, Repr

/-- Occupancy of a stand (R213): the frame in which it became occupied, and processed frames with OCC = 0. -/
structure StandOcc where
  since : Option (BitVec 36)
  zeros : Nat
  deriving DecidableEq, Repr

structure OccHead where
  blobs : List Blob
  tracks : List Track
  /-- The last track ID allocated (R211). -/
  lastId : Nat
  /-- Frame number of the last processed frame (R210). -/
  lastFrame : Option (BitVec 36)
  /-- The next pass is a seeding frame (R205). -/
  seedNext : Bool
  /-- Tracks are deleted at the next pass (TRACK_CLEAR). -/
  clearNext : Bool
  /-- Label scratch as the last pass left it, pixel by pixel (R196). -/
  labels : List Word
  deriving DecidableEq, Repr

/-- A statistics pass that waits or runs: the frame, and the registers latched at its start (R195). -/
structure Pass where
  head : Nat
  res : FrameRes
  ctx : Option Regs
  /-- It is a seeding frame; the tracks are deleted (R205, R211). -/
  seed : Bool
  clear : Bool
  /-- The engine was not in service for it: its records carry DROPPED at the next FT of the head (R200, Table 6-7). -/
  lapsed : Bool
  deriving DecidableEq, Repr

structure StatSt where
  waiting : List Pass
  running : Option Pass
  heads : Vector OccHead 4
  /-- Last record of each stand, 28 words, by stand number, rising (Table 10-1). -/
  records : List (Nat × List Word)
  /-- Occupancy of each stand that has been occupied, by stand number, rising. -/
  stands : List (Nat × StandOcc)
  deriving DecidableEq, Repr

/-- A CSI-2 frame as sent (R217): frame start number, virtual channel, header words, image, statistics and
occupancy lines in bytes, and whether it was cut short (R221). -/
structure CtxOut where
  fs : Nat
  vc : Nat
  header : List Word
  image : List (List Byte)
  stats : List (List Byte)
  occ : List (List Byte)
  cut : Bool
  deriving DecidableEq, Repr

/-- A frame to be exported (R219): `res.status` is its header STATUS; a repeat has no burst of its own, or one that
ended late (R379), whose LINES are 0. -/
structure CtxReq where
  head : Nat
  res : FrameRes
  frozen : Bool
  repeated : Bool
  noLines : Bool
  deriving DecidableEq, Repr

structure CtxSt where
  /-- Frames that wait for the transmitter, in order. -/
  waiting : List CtxReq
  /-- Frames without a burst whose send time has not come (R219). -/
  repeats : List CtxReq
  /-- The frame being sent. -/
  sending : Option CtxReq
  out : Option CtxOut
  /-- The link is to be started again at the next frame gap (CTX_LINK changed). -/
  relink : Bool
  /-- Initial or periodic deskew sequences sent (R216). -/
  deskews : Nat
  deriving DecidableEq, Repr

/-! ### Control loops (chapter 11) and their supervision (chapter 12) -/

/-- A slot command waiting for the next ST edge (R235). -/
inductive LoopCmd where
  | off | open' | manual | auto | reset
  deriving DecidableEq, Repr

/-- Trip cause decided by supervision or propagated (chapter 12). -/
inductive LoopTrip where
  | miss | follow | group
  deriving DecidableEq, Repr

/-- How the first automatic evaluation presets (R128, R238, R239). -/
inductive Preset where
  | none | manual | other | reload
  deriving DecidableEq, Repr

/-- What a slot keeps beyond its registers (R227, R228, R235, R237). -/
structure LoopSt where
  /-- The device has entered SERVICE since the last ST edge (R246). -/
  svc : Bool
  /-- Integrator I, units of 2^-34. -/
  i : Int
  e1 : Int
  e2 : Int
  w1 : Int
  w2 : Int
  x1 : Int
  y1 : Int
  /-- Histories marked for initialization (R237). -/
  mark : Bool
  preset : Preset
  /-- The last output committed in MANUAL since MANUAL was entered (R238). -/
  um : Option Int
  /-- An evaluation was not missed since the cluster entered IN_SERVICE; and, at the last ST edge, the set-point that the
  loop worked to, where it was in AUTO with such an evaluation (R239). -/
  done : Bool
  seen : Option Word
  cmd : Option LoopCmd
  /-- A trip decided in this tick (R260). -/
  trip : Option LoopTrip
  /-- The slot tripped from OPEN (Table 12-3). -/
  fromOpen : Bool
  /-- Output of this tick, to be committed at the next ST edge (R28). -/
  out : Option Word
  /-- The output point goes HELD at the next ST edge (R243). -/
  hold : Bool
  /-- A due edge of this tick has been evaluated (R223). -/
  evaluated : Bool
  deriving DecidableEq, Repr

/-- A profile generator (R253 to R256): position, velocity and acceleration, signed, in units of 2^-24 LSB. -/
structure PrfSt where
  p : BitVec 48
  v : BitVec 48
  a : BitVec 48
  /-- Last usable target, in LSB. -/
  target : Option Int
  /-- Velocity removed at the last arrival (R255). -/
  arrv : Nat
  /-- SYNC, or PRESET with its value, for the next step (R256). -/
  cmd : Option (Option Int)
  /-- Output of this tick, to be committed at the next ST edge (R28). -/
  out : Option Word
  deriving DecidableEq, Repr

/-- One trace entry: four nodes and the MISS bit (R263). -/
structure TraceEntry where
  n0 : Word
  n1 : Word
  n2 : Word
  n3 : Word
  miss : Bool
  deriving DecidableEq, Repr

/-- A trace unit beyond its registers (R263, R264). -/
structure TraceSt where
  /-- Entries held, oldest first, at most 4,096. -/
  ring : List TraceEntry
  /-- Last values of the 13 node codes of the unit's slot. -/
  nodes : List Word
  /-- An entry has been written since ARM (LEVEL cannot trigger at the first). -/
  started : Bool
  /-- A TRIGGER command waits for the next entry. -/
  cmdTrig : Bool
  /-- Entries written after the trigger entry. -/
  after : Nat
  deriving DecidableEq, Repr

/-- One schedule beyond its registers (R267 to R269). -/
structure SchedSt where
  ovr : Bool
  /-- RTC second edges since the occupancy point last held the override (R268). -/
  since : Nat
  /-- The scheduled value at the last evaluation. -/
  lastVal : Option Word
  /-- The output is to be written at the next edge whatever it is (R269). -/
  fresh : Bool
  deriving DecidableEq, Repr

/-- The RTC (R266), held in the AON keep. -/
structure Rtc where
  sec : BitVec 32
  tvalid : Bool
  /-- Staged low part, and a committed count that waits for the next second edge. -/
  staged : Option Word
  pend : Option (BitVec 32)
  deriving DecidableEq, Repr

/-! ### Analog front end (chapter 13) -/

/-- What one slot keeps beyond its registers (R283, R286). Its gain in force is AFE_SLOTSTAT.CURGAIN. -/
structure AfeSlot where
  /-- Consecutive conversions below the up-range threshold. -/
  upCount : Nat
  /-- The next conversion is discarded as settling. -/
  settling : Bool
  deriving DecidableEq, Repr

/-- The pin codes that a conversion uses, 15 where a role is not used, and its excitation (R271, R274): type and magnitude as
Table 13-2. -/
structure AfePins where
  pos : Nat
  neg : Nat
  src : Nat
  ret : Nat
  bias : Nat
  ext : Nat
  mag : Nat
  /-- REFP − REFN is the reference (R273). -/
  ref : Bool
  deriving DecidableEq, Repr

/-- In the negative half of a pair the excitation pins swap roles (R275). -/
def AfePins.swap (p : AfePins) : AfePins := { p with src := p.ret, ret := p.src }

/-- Is a pin in use? -/
def AfePins.uses (p : AfePins) (pin : Nat) : Bool :=
  p.pos == pin || p.neg == pin || p.src == pin || p.ret == pin || p.bias == pin || (p.ref && (pin == 12 || pin == 13))

/-- The conversion a sequencer runs (R277, R275). -/
structure Conv where
  slot : Nat
  urgent : Bool
  /-- What the crosspoint connects for it, taken from the slot as it started. -/
  pins : AfePins
  /-- The negative half of a pair runs; code, clip and excitation fault of the positive half. -/
  posHalf : Option (Int × Bool × Bool)
  /-- Void: it restarts at its end (R282). -/
  void : Bool
  deriving DecidableEq, Repr

/-- A queue entry: value, tag, status (R284). -/
structure QEntry where
  value : Word
  tag : Nat
  st : Nat
  deriving DecidableEq, Repr

/-- A calibration (Table 13-5): slot, sum of x_n, conversions done, and Z once latched. -/
structure CalSt where
  slot : Nat
  sum : Int
  done : Nat
  z : Option Int
  deriving DecidableEq, Repr

/-- One sequencer (R277 to R288). -/
structure SeqSt where
  conv : Option Conv
  /-- The NORMAL slot last started, whose turn is being served (R277). -/
  last : Option Nat
  /-- The slots whose conversion was aborted or voided: they are converted again before the round moves on (R281, R282). -/
  redo : List Nat
  rpar : Bool
  /-- Pending urgent requests, first come first (R280). -/
  urgent : List Nat
  queue : List QEntry
  /-- An overrun has occurred since the last entry queued (R286). -/
  loss : Bool
  cal : Option CalSt
  /-- A ZERO or FS command waits for the running conversion to end. -/
  calPend : Bool
  /-- Under a console test (R290). -/
  test : Bool
  deriving DecidableEq, Repr

structure AfeSt where
  /-- The ST edge, by its sample count, whose timed requests have been made (R280). -/
  timedAt : Option Nat
  seqs : Vector SeqSt 2
  slots : Vector AfeSlot 32
  /-- Excitation driven by a console test: sequencer, pin, magnitude code, voltage (R290). -/
  testExc : Option (Nat × Nat × Nat × Bool)
  deriving DecidableEq, Repr

/-! ### Actuators (chapter 14) -/

/-- What drives a fan: its safe state, or a speed; 0 is off (Table 14-2). -/
inductive FanDrive where
  | safe
  | rpm (n : Nat)
  deriving DecidableEq, Repr

/-- A fan channel beyond its registers. -/
structure FanSt where
  /-- Last command value taken from a usable point (R292). -/
  lastCmd : Option Int
  /-- The drive in force, as last sampled, and the one held at SERVICE entry (R64). -/
  cmd : FanDrive
  svcHold : FanDrive
  /-- Speed-loop integrator I, and D in force (R299). -/
  i : Int
  d : Nat
  /-- Commutation (R297): the six-step vector, 0 to 5; thirds of a ns until the next; the electrical angle of the sine, in
  1/5,625,000,000 of a turn. -/
  step : Nat
  commIn : Option Nat
  ang : Nat
  /-- Thirds of a ns since the start attempt began (R301). -/
  startT : Nat
  /-- CATCH is braking (Table 14-3). -/
  braking : Bool
  /-- Intervals between zero crossings, ns, newest first, at most six (R298). -/
  zc : List Nat
  /-- Intervals between FG rising edges, ns, newest first, at most seven (R298). -/
  fg : List Nat
  /-- Crossings within ±25% of the prediction in a row during a start (R301). -/
  good : Nat
  /-- The start now due is counted as attempt 1 (rotation lost, R302). -/
  lostRot : Bool
  /-- Sum of current samples, mA, and their number, since the last write (R298). -/
  curSum : Nat
  curN : Nat
  /-- Test command of the console: an rpm (0: off) (R294 row 4). -/
  test : Option Nat
  /-- PWM drive limited until the next period (R300). -/
  cut : Bool
  /-- RUN has been entered from a start: I is preset at the first PWM period (R299). -/
  preset : Bool
  /-- Trend (R316): successful starts, sum and highest attempt level, sum of peak currents; peak of this start. -/
  starts : Nat
  levelSum : Nat
  levelMax : Nat
  peakSum : Nat
  peakNow : Nat
  deriving DecidableEq, Repr

/-- What the channel would do when its command goes on or off (R312). -/
structure ValveSt where
  lastCmd : Option Int
  /-- The channel is commanded on (R312) or closed by the shutter controller (R313). -/
  on : Bool
  /-- ST periods since the time-proportional cycle began, its length, and the on time (R312). -/
  cyc : Nat
  cycLen : Nat
  onLen : Nat
  /-- Instants in ns of the request, of VG turn-on and of VS reaching IPK (R307, R310). -/
  reqAt : Nat
  vgAt : Option Nat
  ipkAt : Option Nat
  /-- The HSW lead runs, or the peak has been granted (R309). -/
  leadUntil : Option Nat
  /-- VG is on. -/
  vg : Bool
  /-- Time in ns for which VG will have been off as the next chopping period starts (none: not known), and the on-times and number of periods of this hold phase (R307). -/
  offNs : Option Nat
  onSum : Nat
  periods : Nat
  /-- The command held at SERVICE entry (R64): none for the safe state. -/
  svcCmd : Option Int
  /-- Test command of the console: HOLD at a threshold code, or OFF (R388). -/
  test : Option (Option Nat)
  /-- On/off mode: the command value was 0.5 or more at the last sample, and its request was refused, to be made again only
  once the command has gone off (R310, R312). -/
  up : Bool
  noReq : Bool
  /-- Trend (R316): hold phases of 1 s or longer, ΣDUTY, ΣDUTY². -/
  holds : Nat
  dutySum : Nat
  dutySq : Nat
  deriving DecidableEq, Repr

/-- One high-side switch group (R309, R310): the queue of waiting channels, first in first. -/
structure HswSt where
  waiting : List Nat
  high : Bool
  deriving DecidableEq, Repr

structure DacSt where
  lastCmd : Option Int
  test : Option Nat
  /-- The code held at SERVICE entry (R64). -/
  svcVal : Nat
  deriving DecidableEq, Repr

/-- A GPIO pin: last usable output, debounced input value, level being watched and samples it has been stable. -/
structure GpioSt where
  lastCmd : Option Word
  value : Option Bool
  cand : Bool
  stable : Nat
  deriving DecidableEq, Repr

/-- Cooling groups 1 to 3 (R303 to R306). -/
structure GroupSt where
  /-- The sensor has been NOT_YET for more than 10 s since IN_SERVICE. -/
  late : Bool
  /-- Armed comparator's pin (R306). -/
  armed : Option Nat
  deriving DecidableEq, Repr

structure ActSt where
  fans : Vector FanSt 3
  valves : Vector ValveSt 8
  hsw : Vector HswSt 2
  dacs : Vector DacSt 6
  groups : Vector GroupSt 3
  /-- An ACT section has been applied (R294 row 2). -/
  applied : Bool
  /-- Step 2 of the trip sequence has passed (R294 row 1). -/
  tripped : Bool
  deriving DecidableEq, Repr

structure GpioBank where
  pins : Vector GpioSt 4
  deriving DecidableEq, Repr

/-! ### Building bus ports (chapter 15) -/

/-- Object types of a port's table (R323, Table 15-17). -/
inductive OType where
  | ai | ao | av | bv | msv
  deriving DecidableEq, Repr

/-- A BACnet object as a request names it: the Device object, or an object by type and instance (R323). -/
inductive BObjId where
  | device (inst : Nat)
  | obj (t : OType) (inst : Nat)
  /-- A type that the port does not support. -/
  | unsupported (t inst : Nat)
  deriving DecidableEq, Repr

/-- Properties (R323); `otherProp` is one that the port does not support. -/
inductive BProp where
  | objectIdentifier | objectName | objectType | presentValue | statusFlags | eventState | reliability
  | outOfService | units | covIncrement | numberOfStates | priorityArray | relinquishDefault
  | systemStatus | vendorName | vendorIdentifier | modelName | firmwareRevision | applicationSoftwareVersion
  | protocolVersion | protocolRevision | protocolServicesSupported | protocolObjectTypesSupported | objectList
  | maxApduLengthAccepted | segmentationSupported | apduTimeout | numberOfApduRetries | maxMaster
  | maxInfoFrames | deviceAddressBinding | databaseRevision
  | otherProp (n : Nat)
  deriving DecidableEq, Repr

/-- Reliability (Table 15-4, R324). -/
inductive BRel where
  | noFault | overRange | underRange | commFailure | unreliableOther | noSensor | multiStateFault
  deriving DecidableEq, Repr

/-- A property value. Analog values are the binary32 number read or sent, held as a binary64 one. -/
inductive BVal where
  | null
  | real (x : F64)
  | enum (n : Nat)
  | uint (n : Nat)
  | bool (b : Bool)
  /-- IN_ALARM, FAULT, OVERRIDDEN, OUT_OF_SERVICE. -/
  | flags (alarm fault overridden oos : Bool)
  | rel (r : BRel)
  | str (s : List Byte)
  | oid (o : BObjId)
  | otype (t : Option OType)
  deriving DecidableEq, Repr

/-- The errors that R322, R326, R327 and R328 name, by class and code; the last is a bad array index. -/
inductive BErr where
  | unknownObject | unknownProperty | writeAccessDenied | invalidDataType | valueOutOfRange
  | operationalProblem | noSpaceToAddListElement | optionalFunctionalityNotSupported | invalidArrayIndex
  deriving DecidableEq, Repr

/-- The address of a network peer: its MAC on the port's own network, or the router's MAC with the network and the address
behind it (R322). -/
structure BAddr where
  mac : Nat
  route : Option (Nat × List Byte)
  deriving DecidableEq, Repr

/-- Every station of the local network. -/
abbrev BAddr.all : BAddr := { mac := 255, route := none }

/-- The result of one property in an answer. -/
structure PropRes where
  obj : BObjId
  prop : BProp
  index : Option Nat
  vals : List BVal
  err : Option BErr
  deriving DecidableEq, Repr

/-- What a ReadPropertyMultiple request asks of an object. -/
inductive PropRef where
  | all | required | optional
  | one (p : BProp) (index : Option Nat)
  deriving DecidableEq, Repr

/-- An application message that the port sends (Table 15-3). -/
inductive BMsg where
  | iAm (inst : Nat)
  | readAck (r : PropRes)
  | multiAck (rs : List PropRes)
  | simpleAck
  | error (e : BErr)
  /-- Reject, reason UNRECOGNIZED_SERVICE. -/
  | reject
  /-- Abort, reason SEGMENTATION_NOT_SUPPORTED. -/
  | abort
  /-- UnconfirmedCOVNotification: subscriber, process, object, Present_Value, Status_Flags. -/
  | notify (addr : BAddr) (proc : Nat) (obj : BObjId) (pv flags : BVal)
  deriving DecidableEq, Repr

/-- MS/TP frame types that the data link handles (R320). -/
inductive MstpType where
  | token | pollForMaster | replyToPfm | dataExpectingReply | dataNotExpectingReply | otherFrame
  deriving DecidableEq, Repr

/-- A received MS/TP frame as the receiver judges it. -/
structure MstpFrame where
  ftype : MstpType
  dst : Nat
  src : Nat
  /-- Data length in octets. -/
  len : Nat
  hdrOk : Bool
  dataOk : Bool
  deriving DecidableEq, Repr

/-- What the port puts on the line: a token, a poll, a reply to a poll, an application message (destination), or the
bytes of a Modbus request. -/
inductive BusOut where
  | token (dst : Nat)
  | poll (dst : Nat)
  | replyToPoll (dst : Nat)
  | msg (dst : BAddr) (m : BMsg)
  | modbus (bytes : List Byte)
  deriving DecidableEq, Repr

/-- States of the master node (R320; ANSI/ASHRAE 135 clause 9, PRESUMED: notes/assumptions/70). -/
inductive MstpNode where
  | idle | noToken | pollForMaster | passToken
  deriving DecidableEq, Repr

/-- An object of the table (R323) with its Priority_Array (R326). -/
structure BObj where
  otype : OType
  inst : Nat
  point : Nat
  name : List Byte
  units : Nat
  scale : F64
  offset : F64
  covInc : F64
  relinquish : BVal
  nstates : Nat
  /-- Priority_Array, priority 1 first; BVal.null is NULL. -/
  prio : List BVal
  /-- The converted value last written to the point. -/
  lastWritten : Option Word
  deriving DecidableEq, Repr

/-- What the image gives the Device object (R323). -/
structure BDevInfo where
  name : List Byte
  vendorName : List Byte
  vendorId : Nat
  model : List Byte
  firmware : List Byte
  software : List Byte
  dbRev : Nat
  deriving DecidableEq, Repr

/-- A COV subscription (R328). -/
structure CovSub where
  addr : BAddr
  proc : Nat
  /-- Object: 0 is the first of the table. -/
  obj : Nat
  /-- Lifetime in s, 0 for no expiry. -/
  life : Nat
  /-- Present_Value and Status_Flags last notified. -/
  last : Option (BVal × BVal)
  due : Bool
  deriving DecidableEq, Repr

/-- A transaction of the poll table (R330, R331, R334) with its last outcome. -/
structure MbTrans where
  unit : Nat
  fci : Nat
  dtype : Nat
  /-- Bits or registers, 1 to 32. -/
  count : Nat
  start : Nat
  point : Nat
  wmode : Bool
  lossLast : Bool
  mscl : Int
  msh : Nat
  mofs : Int
  wscl : Int
  wsh : Nat
  status : Nat
  clipw : Bool
  exc : Nat
  /-- Point values of the last successful write, and the last usable ones. -/
  sentVals : Option (List Word)
  usable : List (Option Word)
  /-- To be sent although no value changed: after a failure, after the return to ONLINE (R334). -/
  force : Bool
  deriving DecidableEq, Repr

structure MbDev where
  unit : Nat
  online : Bool
  fails : Nat
  deriving DecidableEq, Repr

/-- The attempt that waits for its response. -/
structure MbAttempt where
  trans : Nat
  /-- Attempts made, this one included. -/
  attempt : Nat
  /-- The request has been sent and its response is awaited. -/
  wait : Bool
  /-- The probe of an OFFLINE device (R333). -/
  probe : Bool
  /-- Point values sent by a write. -/
  vals : List Word
  clipw : Bool
  deriving DecidableEq, Repr

structure BusSt where
  dev : BDevInfo
  objs : List BObj
  subs : List CovSub
  /-- Consecutive frames with a valid header CRC at the present rate in DETECT; consecutive bad ones in RUN. -/
  goodRun : Nat
  badRun : Nat
  node : MstpNode
  /-- Next station, polled station, tokens since the last poll, retries of the token pass. -/
  next : Nat
  poll : Nat
  tokens : Nat
  retries : Nat
  /-- Sole master. -/
  sole : Bool
  /-- An I-Am is to be broadcast at the first token after entry to RUN. -/
  iAmDue : Bool
  trans : List MbTrans
  devs : List MbDev
  /-- Rates of the image's baud list, highest first (R335). -/
  bauds : List Nat
  /-- The transaction of the running cycle that is to be sent next. -/
  nextTrans : Nat
  /-- A cycle runs; it ends with its last transaction. -/
  cycling : Bool
  /-- CYCLE ms passed while the cycle ran (R330). -/
  overrun : Bool
  /-- Devices whose probe was answered in this cycle (R333). -/
  revived : List Nat
  attempt : Option MbAttempt
  /-- What the port sent in its latest step that sent anything, in order. -/
  sent : List BusOut
  deriving DecidableEq, Repr

/-- The object and poll tables of a port's BUS section: their stored form is not in the spec (notes/assumptions/71). -/
structure BusTables where
  dev : BDevInfo
  objs : List BObj
  trans : List MbTrans
  bauds : List Nat
  deriving DecidableEq, Repr

/-! ### Serial ports and the tally store (chapter 16) -/

/-- A read that a chip's table lists: the mode's code in FLW_CHIPi.MODE, the instruction, its mode clocks (0x00 is sent in
them) and its dummy clocks (R340). -/
structure FastRead where
  mode : Nat
  instr : Nat
  modeClocks : Nat
  dummy : Nat
  deriving DecidableEq, Repr

/-- The read of the fixed profile: 1-1-1, instruction 0x03 (R340). -/
abbrev FastRead.plain : FastRead := { mode := 0, instr := 3, modeClocks := 0, dummy := 0 }

/-- What a chip's SFDP tables give (R340), as the port takes it from them. -/
structure Sfdp where
  /-- "SFDP" reads, and the basic table is there with a consistent length. -/
  capable : Bool
  /-- Density 2^dens bytes. -/
  dens : Nat
  /-- 4-byte entry method: 0 none, 1 0xB7, 2 0x06 then 0xB7. -/
  entry4 : Nat
  reads : List FastRead
  /-- A quad-enable method is given, and QE reads back set. -/
  quadMethod : Bool
  quadReadsBack : Bool
  /-- Erase types: SIZE code (0 4 KiB, 1 32 KiB, 2 64 KiB) and instruction. -/
  erases : List (Nat × Nat)
  page : Option Nat
  deriving DecidableEq, Repr

/-- A flash chip: its bytes that differ from 0xFF, addresses strictly rising, and what the negotiation took for it: page size,
read, erase instructions by SIZE code (R340). -/
structure Chip where
  mem : List (Nat × Byte)
  page : Nat
  read : FastRead
  erases : List (Nat × Nat)
  deriving DecidableEq, Repr

/-- A chip with the given bytes, before its negotiation. -/
abbrev Chip.blank (mem : List (Nat × Byte)) : Chip := { mem := mem, page := 256, read := .plain, erases := [] }

/-- A program or an erase on its way (R341, R343, R344). -/
inductive FOp where
  | program (chip addr : Nat) (bytes : List Byte)
  | erase (chip addr size : Nat)
  deriving DecidableEq, Repr

structure FlashSt where
  chips : Vector Chip 2
  /-- The open program buffer of the window: chip, address, bytes. -/
  openBuf : Option (Nat × Nat × List Byte)
  /-- Closed buffers and erases in the order of their arrival. -/
  waiting : List FOp
  running : Option FOp
  /-- WIP at the last status poll of the running operation. -/
  wip : Bool
  /-- What the port sent to start the latest program or erase: the bytes of each transaction, in order (R343). -/
  sent : List (List Byte)
  deriving DecidableEq, Repr

/-- A PSP transaction (R345). -/
inductive PspReq where
  | setting (head : Nat)
  | head (head : Nat)
  | host (sel : Nat) (bytes : List Byte)
  deriving DecidableEq, Repr

structure PspSt where
  running : Option PspReq
  waiting : List PspReq
  /-- Bytes sent by the running transaction's host request, or by the last one. -/
  out : List Byte
  deriving DecidableEq, Repr

/-- One buffer of a paged window (R351): the number of its aligned 64-word block in the memory, its words, and the words that
each reader has read since the fetch. -/
structure WinBuf where
  block : Nat
  words : List Word
  seenHsp : List Nat
  seenCon : List Nat
  deriving DecidableEq, Repr

structure Win where
  a : Option WinBuf
  b : Option WinBuf
  /-- The buffer hit last is the first one. -/
  lastA : Bool
  /-- Blocks whose fetch is pending, first come first. -/
  fetch : List Nat
  deriving DecidableEq, Repr

/-- A transfer in progress (R346). -/
inductive HspXfer where
  | none
  | ignored
  | active (write inc : Bool) (addr : Nat) (past : Bool)
  deriving DecidableEq, Repr

structure HspSt where
  xfer : HspXfer
  wins : Vector Win 4
  /-- The state word being staged through the pixel-store window: its 72-bit word, and the words given by place (R351). -/
  stage : Option (Nat × List (Nat × Word))
  /-- The last read data frame driven on HSO, 24 bits (Table 16-1). -/
  out : Nat
  deriving DecidableEq, Repr

/-- What a tally program is for; in the priority order of R354. -/
inductive PulseKind where
  | shutdown | counter | event | host | record | aux
  deriving DecidableEq, Repr

/-- A program of one page: the bytes it changes (R354). -/
structure Pulse where
  kind : PulseKind
  page : Nat
  bytes : List (Nat × Byte)
  deriving DecidableEq, Repr

/-- A record command that waits for its pulse: BEGIN or COMMIT of a record ID. -/
structure RecCmd where
  id : Nat
  commit : Bool
  deriving DecidableEq, Repr

structure TallySt where
  /-- Bytes that differ from 0xFF; address 256 × page + offset, strictly rising (R354). -/
  mem : List (Nat × Byte)
  running : Option Pulse
  waiting : List Pulse
  /-- Events in the queue (R355): CODE, frame number, RTC seconds, DATA. -/
  events : List (Nat × BitVec 36 × BitVec 32 × List Byte)
  /-- The open coalescing buffer of the window (R357): page, offset, bytes. -/
  openBuf : Option (Nat × Nat × List Byte)
  /-- Mirrored counters (R358), whether the scan has ended, increments held until then, and batched counts. -/
  counters : Vector Nat 64
  scanned : Bool
  held : List (Nat × Nat)
  batch : Vector Nat 64
  /-- Records with a BEGIN not yet committed: ID, target copy B. -/
  begun : Option (Nat × Bool)
  rcmd : Option RecCmd
  deriving DecidableEq, Repr

/-! ### Compression engine (chapter 17) -/

/-- What an archive job of the shutter controller carries (R183, R371): its slot, frame S, the set and the two mean
temperatures. -/
structure ArchJob where
  slot : Nat
  start : BitVec 36
  set : Nat
  tsh : Word
  fpa : Word
  /-- RTC seconds when the plane was taken. -/
  time : Nat
  deriving DecidableEq, Repr

/-- A resident run that has been opened (R364): the frame and the set of the stream header, and the samples it reads. -/
structure ResRun where
  frame : BitVec 36
  set : Nat
  samples : List Nat
  deriving DecidableEq, Repr

/-- A submitted job (R359 to R365). -/
structure Job where
  id : Nat
  op : Nat
  src : Nat
  dst : Nat
  kind : Nat
  head : Nat
  flcs : Nat
  append : Bool
  pred : Nat
  bits : Nat
  signed : Bool
  blklines : Nat
  width : Nat
  height : Nat
  jsrc : Nat
  jslen : Nat
  jdst : Nat
  jdcap : Nat
  /-- Archive job of the shutter controller (R371). -/
  archive : Option ArchJob
  restarts : Nat
  bucked : Bool
  /-- Input samples or bytes at which a FLUSH ended a block. -/
  flushes : List Nat
  /-- LGEN of the job's landing write. -/
  lgen : Nat
  /-- The gap that its resident run waits for has begun, and no burst has been requested since (R364). -/
  gap : Bool
  /-- The resident run, once opened (R364). -/
  run : Option ResRun
  deriving DecidableEq, Repr

/-- A result entry (Tables 17-17, 17-18). -/
structure JobRes where
  id : Nat
  status : Nat
  stored : Bool
  bucked : Bool
  restarts : Nat
  rout : Nat
  rin : Nat
  rlgen : Nat
  deriving DecidableEq, Repr

structure CmpSt where
  queue : List Job
  running : Option Job
  nextId : Nat
  /-- Result entries of the last 16 IDs, newest first. -/
  results : List JobRes
  deriving DecidableEq, Repr

/-- The memories that jobs, windows and the console reach: working RAM and landing, 18-bit words that are not 0,
addresses strictly rising. -/
structure WordMem where
  cells : List (Nat × Word)
  deriving DecidableEq, Repr

/-! ### Fabric, ageing, console, fuses, JTAG (chapter 18) -/

/-- A request that a part has accepted and not answered yet: requester, part and 6-bit tag (R381). -/
structure FabReq where
  requester : Blk
  part : Blk
  tag : Nat
  deriving DecidableEq, Repr

/-- The fabric: slice cycles that C3 has taken in this window (R376), and the outstanding requests in the order of their
acceptance (R381). -/
structure FabSt where
  c3Taken : Nat
  out : List FabReq
  deriving DecidableEq, Repr

structure AgeSt where
  /-- A measurement is running. -/
  running : Bool
  /-- The proposal of the previous measurement, when below the ceiling then in force (R384). -/
  pend : Option Nat
  deriving DecidableEq, Repr

/-- One data line of a console answer (R388). -/
inductive ConLine where
  | ident (part id1 : Nat) (serial : Nat) (dbg priv key : Bool)
  | stat (service : Bool) (stage : Nat) (alerts : List Bool)
  | word (addr value tag : Nat)
  | event (bytes : List Byte)
  | count (v : Nat)
  | pixel (v : Nat)
  deriving DecidableEq, Repr

/-- The console (R387): the data lines of the answer to the last command, and the characters of the last line as they were
echoed. -/
structure SvcSt where
  lines : List ConLine
  echo : List Byte
  deriving DecidableEq, Repr

/-- What the TAP selects (R393). -/
inductive JtagReg where
  | idcode | sample | extest | highz | bypass | factory
  deriving DecidableEq, Repr

structure JtagSt where
  reg : JtagReg
  /-- The selected data register as captured: IDCODE, the boundary register, or the bypass bit. -/
  dr : List Bool
  /-- The boundary register's update latches, preloaded. -/
  preload : List Bool
  deriving DecidableEq, Repr

/-! ### Boot sequencer (chapter 6) -/

/-- One section record of a copy header (Table 6-4). -/
structure SecRec where
  type : Nat
  unit : Nat
  cls : Nat
  coding : Nat
  offset : Nat
  length : Nat
  outlen : Nat
  digest : List Byte
  deriving DecidableEq, Repr

/-- A copy header that passed R116 (Table 6-3). -/
structure Header where
  seq : Nat
  privlock : Bool
  total : Nat
  planlen : Nat
  secs : List SecRec
  deriving DecidableEq, Repr

/-- A source of configuration (R114, R125). -/
inductive ImgSrc where
  | copyA | copyB | hostStream
  deriving DecidableEq, Repr

/-- What the boot sequencer keeps beyond its registers. -/
structure BootState where
  /-- Judgement of the two flash headers at the last selection: none, or the reason of the failure (R116). -/
  hdrA : Option Header
  hdrB : Option Header
  /-- Candidates still to try, first to try first (R119). -/
  order : List ImgSrc
  /-- The copy taken by the last full load, and its header (R119). -/
  inForce : Option (ImgSrc × Header)
  /-- Where each section in force came from: TYPE, UNIT, source (R125). -/
  secFrom : List (Nat × Nat × ImgSrc)
  /-- The alert that holds from reset until the control sections have been loaded (R70). -/
  loading : Bool
  /-- The image privacy lock flag of the last full load (R129). -/
  privImg : Bool
  /-- The fuse shadow: the fuse bits as step 2 of the boot sequencer's start read them (R390, R392). -/
  shadow : List Nat
  /-- Bytes of the present host stream, in order (R121); kept from an accepted BEGIN. -/
  stream : List Byte
  /-- A host load, or a stream for a reload, is open (R121, R126). -/
  streamOpen : Bool
  /-- The partial reload in progress: TYPE, UNIT, source (R125). -/
  reload : Option (Nat × Nat × ImgSrc)
  /-- The content of the section under reload, kept in working RAM (R125 check 8). -/
  reloadData : List Byte
  /-- The tables of a BUS section under reload, and the index of the section under reload. -/
  reloadTabs : Option BusTables
  reloadIdx : Nat
  /-- The reason for which the new section failed in LOADING, so that the previous one was restored (R125). -/
  reloadFail : Option Nat
  /-- Clusters whose section is verified, waiting for the ST edge at which they enter IN_SERVICE (R128, R245). -/
  clusterIn : List Nat
  /-- The sections read at the PLAN stage: TYPE, UNIT, decoded content (Table 6-1, step 6). -/
  plan : List (Nat × Nat × List Byte)
  /-- The entries of the POINTS section in force: format, hold allowance, HOST (R117). -/
  entries : List (PFormat × Nat × Bool)
  /-- The object and poll tables of the BUS sections read at the PLAN stage or for a reload, by port. -/
  busTabs : List (Nat × BusTables)
  /-- The imaging sections of the load have all been applied (Table 6-1, step 11). -/
  imaged : Bool
  /-- DIRECT sections whose digest has been checked since start-up (R117). -/
  directSeen : List Nat
  deriving DecidableEq, Repr

end Sys2Proof.Machine
end

