-- ==== Sys2Proof/Syntax.lean ====
section
/-! DEFINITION. The commands of the block: one constructor per row of the opcode table, with what the world or the
host hands over with it. Each docstring gives the rule that states the command and the table's summary. -/

namespace Sys2Proof
open Sys2Proof.Machine

/-- The commands (opcode_table.json). -/
inductive Instr where
  /-- R17. A carry out of the 40-bit phase accumulator produces a sample tick edge and advances the sample counter. -/
  | stEdge
  /-- R21. Every Nth ST edge is a frame tick edge, which starts the frame of each head in service. -/
  | ftEdge
  /-- R134. SYNCn returns to its inactive level after SYNCW microseconds. -/
  | syncPulseEnd (h : Fin 4)
  /-- R20. LIVE changes level at every 64th ST edge while every fitted cluster is IN_SERVICE and the device is not in SERVICE. -/
  | liveToggle
  /-- R32. A write to SYS_STINC0 stages the low part of a new STINC and commits nothing. -/
  | sysStinc0Write (v : Word)
  /-- R32. A write to SYS_STINC1 commits the staged low part with the new high part, after range and capacity checks. -/
  | sysStinc1Write (v : Word)
  /-- R32. A write to SYS_FTDIV commits a new N with the STINC in force, after range and capacity checks. -/
  | sysFtdivWrite (v : Word)
  /-- R33. A read of the low register of a wide quantity returns the low part and captures the high part for the next read. -/
  | captureRead (addr : BitVec 16)
  /-- R12. A read of an RC field returns it and then clears it to 0. -/
  | rcRegisterRead (addr : BitVec 16)
  /-- R27. Statistics and occupancy work not completed by the frame deadline is abandoned, and the records are emitted DROPPED. -/
  | statisticsDeadline (h : Fin 4)
  /-- R236. A configured slot that is due at an ST edge reads its inputs at its read instant and does the work of its state. -/
  | loopEvaluation (l : Fin 512)
  /-- R234. An OFF command for the selected slot. -/
  | ctlOff (c : Fin 2)
  /-- R234. An OPEN command for the selected slot. -/
  | ctlOpen (c : Fin 2)
  /-- R234. A MANUAL command for the selected slot. -/
  | ctlManual (c : Fin 2)
  /-- R234. An AUTO command for the selected slot. -/
  | ctlAuto (c : Fin 2)
  /-- R234. A RESET command takes a TRIPPED slot to OPEN. -/
  | ctlReset (c : Fin 2)
  /-- R264. An ARM command starts circular recording in a trace unit. -/
  | traceArm (u : Fin 4)
  /-- R264. A TRIGGER command triggers a trace unit at its next entry. -/
  | traceTrigger (u : Fin 4)
  /-- R264. A STOP command ends an armed or triggered capture short. -/
  | traceStop (u : Fin 4)
  /-- R265. A write to TRC_RSEL copies one trace entry into the read registers. -/
  | trcRselWrite (v : Word)
  /-- R254. A due profile generator steps its position, velocity and acceleration towards its target. -/
  | profileStep (g : Fin 64)
  /-- R256. A SYNC command sets a generator's position to its target at its next step. -/
  | prfSync
  /-- R256. A PRESET command sets a generator's position and last target to PVAL at its next step. -/
  | prfPreset
  /-- R40. The 1 kHz time base advances every point's age, saturating at 65,535. -/
  | pointAgeTick
  /-- R42. A non-event point that has gone unwritten for twice its expected interval goes HELD. -/
  | pointWriteTimeout (n : Fin 4096)
  /-- R42. A HELD point whose age exceeds its hold allowance goes STALE. -/
  | pointStale (n : Fin 4096)
  /-- R45. An HSP write to the point window sets a host-sourced point FRESH, or is discarded, and records the outcome in POINT_RESULT. -/
  | pointWindowWrite (n : Fin 4096) (v : Word)
  /-- R46. A FORCE command forces point NUM to VAL and starts or keeps its shadow entry. -/
  | pointForce
  /-- R46. A RELEASE command gives point NUM the value, quality and age of its shadow entry. -/
  | pointRelease
  /-- R46. A RELEASE all command releases every forced point. -/
  | pointReleaseAll
  /-- R54. A write of 0x2_D1E5 to a block's UNLOCK register opens its RWL fields. -/
  | blockUnlock (b : Blk)
  /-- R54. A write of any other value to a block's UNLOCK register locks the block. -/
  | blockLock (b : Blk) (v : Word)
  /-- R54. A block locks again after 10 s without a host or console write to one of its mapped registers. -/
  | unlockTimeout (b : Blk)
  /-- R52. A write to a register without behaviour of its own is checked for lock state and range and applied or rejected. -/
  | registerWrite (addr : BitVec 16) (v : Word)
  /-- R49. An ENTER SERVICE command takes the device and every in-service engine into SERVICE. -/
  | serviceEnter
  /-- R49. A LEAVE SERVICE command returns the engines to IN_SERVICE and the actuators to their command points. -/
  | serviceLeave
  /-- R48. The last request in flight of a draining engine completes and the engine goes DOWN. -/
  | drainComplete (e : Engine)
  /-- R62. RESET_N falls and every domain except the AON keep is held in reset, with every ball in its Reset state. -/
  | resetAssert
  /-- R61. PGOOD falls and every domain except D0 is held in reset while D0 keeps running. -/
  | pgoodFall
  /-- R61. The later rising edge of RESET_N and PGOOD releases reset. -/
  | resetRelease
  /-- R79. VDD_AON below its threshold resets the whole device, D0 included. -/
  | powerOnReset
  /-- R80. A rail below its monitor threshold for 200 ns acts as a PGOOD fall and sets its flag in PWR_MON. -/
  | railMonitorTrip (rail : Fin 6)
  /-- R80. After every monitored rail has been above its threshold for 1 ms with PGOOD high, the device starts as from reset release. -/
  | railRecovery
  /-- R65. A VG ball forced high is released after the channel's maximum peak time and the force reports TIMEOUT. -/
  | forcedVgTimeout (v : Fin 8)
  /-- R72. Eight samples of each strap are taken and decoded, and disagreement sets BUNST or TUNST. -/
  | strapSampling (samples : Vector (BitVec 4) 8)
  /-- R84. An ON command powers a domain, its required domains first, and restores its configuration. -/
  | domainOn
  /-- R84. A RET command takes a domain to retention. -/
  | domainRet
  /-- R84. An OFF command drains the domain's engine and switches the domain off. -/
  | domainOff
  /-- R85. A domain transition completes within the times of Table 4-3. -/
  | domainTransitionDone (d : Fin 30)
  /-- R87. After the last burst of a run, the pixel engine domains step down to retention over 1.0 µs. -/
  | peRetentionEntry
  /-- R92. XIN cycles are counted over 1 ms of IOSC and XTALOK is set when the count is within range, otherwise the check repeats. -/
  | xtalCheck (count : Nat)
  /-- R93. Once per second the IOSC is measured against XIN and TRIM corrected. -/
  | ioscTrim (count : Nat)
  /-- R94. No XIN edge for 200 ns switches D0 and the PLL references to IOSC holdover. -/
  | xinLoss
  /-- R94. XIN still absent after HOLDMAX seconds starts the trip sequence with cause XTAL_LOSS. -/
  | holdoverExpiry
  /-- R95. XIN passing 100 consecutive windows switches back from holdover or warm-restarts after an XTAL_LOSS trip. -/
  | xinReturn
  /-- R96. PLLM losing lock with XIN present starts the trip sequence with cause PLL_UNLOCK. -/
  | pllmUnlock
  /-- R96. PLLB losing lock stops the running burst, drops its frame and starts a relock. -/
  | pllbUnlock
  /-- R91. PLLB relocks at a new frequency and waiting bursts may start. -/
  | pllbRelockDone
  /-- R97. One second after D0 leaves reset the RTC takes the RTC crystal or XIN synthesis. -/
  | rtcSourceSelect (ok : Bool)
  /-- R97. The RTC crystal stopping switches the RTC to XIN synthesis without losing a count. -/
  | rtcCrystalStop
  /-- R98. The supervisor samples all sixteen die sensors and forms Tj. -/
  | thermalSample (readings : Vector (BitVec 13) 16) (dt : Nat)
  /-- R102. A CLEAR command clears a sensor failure if the sensor read plausibly for 10 s. -/
  | sensorClear (k : Fin 16)
  /-- R108. A trip cause starts the trip sequence: writes are refused, actuators go safe and ALERT_N is asserted. -/
  | trip
  /-- R109. Once any running tally pulse completes, the shutdown record is written and programmed into the ring. -/
  | shutdownRecord
  /-- R108. Every domain except D0 goes OFF without draining, and the device is in shutdown. -/
  | tripDomainsOff
  /-- R110. After Tj stays below 95 °C for 10 s, with restart enabled and NAUTO below 3, the boot sequencer restarts. -/
  | warmRestart
  /-- R110. After 1 h in service without a trip, NAUTO returns to 0. -/
  | nautoWindowEnd
  /-- R111. The boot sequencer starts, switches on the system domains and reads the fuses. -/
  | bootSequencerStart
  /-- R340. The flash port reads SFDP and negotiates mode and addressing for each chip. -/
  | flashNegotiation (c0 : Sfdp) (c1 : Sfdp)
  /-- R119. Both copy headers are read and checked and a candidate copy is chosen by SEQ. -/
  | copySelection
  /-- R118. The key hash and signature of the candidate copy are checked. -/
  | copyVerify
  /-- R112. Control and HEADPROF sections are read into working RAM, their digests checked and the whole image checked. -/
  | planRead (b0 : BusTables) (b1 : BusTables)
  /-- R120. Control-class sections are applied in order and each engine enters IN_SERVICE. -/
  | controlStage
  /-- R112. Imaging sections are applied, heads are released and negotiated, and maps and calibration are decoded. -/
  | imagingStage
  /-- R121. A BEGIN command starts a host image stream. -/
  | hostBegin
  /-- R121. A CANCEL command ends a host load or a streamed reload. -/
  | hostCancel
  /-- R121. A write to the stream window appends two image bytes, or overruns when HFREE is 0. -/
  | hostStreamWrite (v : Word)
  /-- R121. A gap of more than 1 s between stream writes ends the load with TIMEOUT. -/
  | hostStreamTimeout
  /-- R123. Writing 1 to FALLBACK or SECDOWN clears that alert cause. -/
  | bootAlertClear (v : Word)
  /-- R125. A START command begins a partial reload and runs its first checks. -/
  | reloadStart
  /-- R125. The reload source is read and every check passes or the reload ends with its reason. -/
  | reloadChecksDone (b : BusTables)
  /-- R128. At the next ST edge a cluster under reload enters DRAIN and its output points go HELD. -/
  | clusterReloadDrain
  /-- R125. The new section is written and verified, or the previous one is restored. -/
  | reloadLoadDone (ok : Bool)
  /-- R128. At the first ST edge after the load, the cluster returns to IN_SERVICE and every slot takes its new state. -/
  | clusterReturn
  /-- R141. An FS packet opens a frame on the latest frame number, or is discarded as an extra frame. -/
  | frameStart (h : Fin 4) (vc : Fin 4) (t : Nat)
  /-- R142. An image line packet is checked and written into the head's raw ring. -/
  | imageLine (h : Fin 4) (vc : Fin 4) (raw16 : Bool) (px : List (BitVec 16)) (eccFixed : Bool) (crcOk : Bool)
  /-- R143. A telemetry packet yields the frame's FPA, shutter temperature or set echo. -/
  | telemetryPacket (h : Fin 4) (vc : Fin 4) (dt : Nat) (bytes : List Byte) (crcOk : Bool)
  /-- R132. A packet on another virtual channel or of an unhandled type is discarded and counted. -/
  | packetDiscard (h : Fin 4) (crcOk : Bool)
  /-- R133. A packet header error is corrected or the packet discarded. -/
  | headerEccError (h : Fin 4) (corrected : Bool) (image : Bool)
  /-- R141. An FE packet closes the frame, gives it a result and requests its burst. -/
  | frameEnd (h : Fin 4) (vc : Fin 4) (t : Nat)
  /-- R141. No FE by TFE + 50 µs closes the frame as SHORT_FRAME with NOFE. -/
  | frameEndTimeout (h : Fin 4)
  /-- R135. A negotiation begins by driving HRST_Nn low. -/
  | negotiationStart (h : Fin 4)
  /-- R135. After HRSTLEN ms HRST_Nn is driven high. -/
  | hrstRelease (h : Fin 4)
  /-- R137. After HRSTWAIT ms the port begins PSP access to the head. -/
  | hrstwaitExpiry (h : Fin 4)
  /-- R139. The head descriptor has been read, and the port negotiates and programs the link and the set in force. -/
  | descriptorReadDone (h : Fin 4) (bytes : List Byte) (reads : List (BitVec 16))
  /-- R140. No FS within two FT periods of the first SYNC ends the attempt with TIMEOUT. -/
  | negotiationFsTimeout (h : Fin 4)
  /-- R146. A COMMIT command stages a setting change for target frame T. -/
  | headCommit (h : Fin 4) (t : Nat)
  /-- R146. A CANCEL command discards a pending setting change. -/
  | headCancel (h : Fin 4)
  /-- R147. When the window of frame A opens, the head's INT, BIAS and GAIN are programmed. -/
  | settingProgramStart (h : Fin 4)
  /-- R147. Programming of a setting change completes, or fails and restores the set in force. -/
  | settingProgramDone (h : Fin 4) (reads : List (BitVec 16))
  /-- R145. A write to a set register is refused for the set in force and otherwise clears that set's CAL. -/
  | headSetWrite (h : Fin 4) (off : Nat) (v : Word)
  /-- R150. A queued burst starts once the engines are awake and the previous burst has ended. -/
  | burstStart
  /-- R150. A burst writes its last state word, and TMP holds the frame. -/
  | burstEnd (uecc : List Nat) (cecc : Nat)
  /-- R166. A FILTER_RESET command makes the next processed frame a filter-reset frame. -/
  | filterReset (h : Fin 4)
  /-- R154. A window write to a state or map word is staged, then written while the head's port is DOWN. -/
  | pixelWindowWrite (a : Nat) (v : Word)
  /-- R173. A RECAL command makes CMD pending for a head. -/
  | shutRecal (h : Fin 4)
  /-- R173. An ABORT command takes a recalibration to OPENING. -/
  | shutAbort (h : Fin 4)
  /-- R171. ELAPSED counts a whole second since the head's last recalibration. -/
  | elapsedTick (h : Fin 4)
  /-- R188. The daily cruise starts at CRTIME on the RTC. -/
  | cruiseStart
  /-- R192. A head's survey ends and its refits, snags and re-planned values are applied and recorded. -/
  | cruiseSurveyEnd (h : Fin 4)
  /-- R188. A survey not finished within 24 h ends with TIMEOUT and applies nothing. -/
  | cruiseTimeout
  /-- R196. After the last burst of the tick, the statistics pass of a head starts. -/
  | statisticsPassStart
  /-- R199. A statistics pass ends, and records, blobs, tracks and points of the frame are complete. -/
  | statisticsPassEnd (uecc : List Nat)
  /-- R202. A write to STAND_RSEL copies the last record of a stand into the record registers. -/
  | standRselWrite (v : Word)
  /-- R209. A write to OCC_BSEL captures one blob record of the latest processed frame. -/
  | occBselWrite (v : Word)
  /-- R205. A BKG_RESET command makes the next pass a seeding frame. -/
  | bkgReset (h : Fin 4)
  /-- R211. A TRACK_CLEAR command deletes every track of the head at the next pass. -/
  | trackClear (h : Fin 4)
  /-- R217. The transmitter sends a CSI-2 frame of a head once its burst has ended and the transmitter is free. -/
  | ctxFrameSend (t : Nat)
  /-- R219. A frame without a burst is sent as a repeat frame at TFE + 50 µs or later. -/
  | ctxRepeatSend (h : Fin 4) (t : Nat)
  /-- R216. A change to CTX_LINK takes effect at the next frame gap with a new link start. -/
  | ctxLinkChange (v : Word)
  /-- R216. Above 1.5 Gbit/s a periodic deskew is sent at the first frame gap after each second. -/
  | ctxDeskew
  /-- R279. A conversion ends and its result is converted, written to the point and queued. -/
  | adcConversionEnd (q : Fin 2) (code : Int) (clip : Bool) (fault : Bool)
  /-- R280. At ST edges with the sample counter a multiple of 2^UK an urgent slot is requested. -/
  | urgentTimedRequest (slot : Fin 32)
  /-- R280. A REQUEST command requests an urgent conversion. -/
  | urgentRequest (slot : Fin 32)
  /-- R285. A read of ADC_QHEAD removes the oldest queue entry and captures its value. -/
  | adcQheadRead (q : Fin 2)
  /-- R287. A ZERO command pauses the sequencer and converts the slot sixteen times at zero input. -/
  | calZero (q : Fin 2) (slot : Fin 32)
  /-- R287. An FS command converts the slot sixteen times at full-scale input. -/
  | calFs (q : Fin 2) (slot : Fin 32)
  /-- R287. An ABORT command ends a calibration and keeps the old coefficients. -/
  | calAbort (q : Fin 2) (slot : Fin 32)
  /-- R287. No FS command within 600 s of ZWAIT ends the calibration with TIMEOUT. -/
  | calZwaitTimeout (q : Fin 2)
  /-- R299. At the start of each PWM period a fan channel samples its command and runs its speed loop. -/
  | fanPwmPeriod (c : Fin 3) (code : BitVec 12)
  /-- R300. ISNS above the limit drives every phase low until the next period and sets LIMIT. -/
  | fanCurrentLimit (c : Fin 3)
  /-- R297. A back-EMF zero crossing times commutation and judges start success. -/
  | fanZeroCrossing (c : Fin 3) (dt : Nat)
  /-- R298. An FG rising edge updates speed and commutation. -/
  | fanFgEdge (c : Fin 3) (dt : Nat)
  /-- R298. Every 10 ms a fan channel writes its mean-current and speed points. -/
  | fanMeasureWrite (c : Fin 3)
  /-- R302. After 20 ms of observation a fan synchronizes, brakes or starts attempt 1. -/
  | fanCatchEnd (c : Fin 3) (outcome : Fin 3)
  /-- R302. Braking ends after 100 ms without rotation, or after 2 s, and the start begins. -/
  | fanBrakeEnd (c : Fin 3)
  /-- R301. A start attempt without success within TSTART fails. -/
  | fanStartTimeout (c : Fin 3)
  /-- R302. After 1 s in WAIT the next start attempt begins. -/
  | fanWaitEnd (c : Fin 3)
  /-- R302. No zero crossing or FG edge for the limit takes a running fan to WAIT. -/
  | fanRotationLost (c : Fin 3)
  /-- R302. No FG edge for the limit sets FGLOST or, with FG only, faults the fan. -/
  | fanFgLost (c : Fin 3)
  /-- R302. Current limiting in every period for OCTIME faults the fan with OVERCURRENT. -/
  | fanOvercurrent (c : Fin 3)
  /-- R302. A CLEAR command takes a faulted fan to STOPPED. -/
  | fanClear (c : Fin 3)
  /-- R304. A group sensor point still NOT_YET 10 s after IN_SERVICE starts the sensor override. -/
  | groupSensorTimeout (g : Fin 3)
  /-- R305. A comparator condition held for 10 ms asserts and latches SYSOFF_N. -/
  | windowComparatorTrip (g : Fin 3) (ratio : Fin 10001)
  /-- R312. A time-proportional valve starts a new cycle and takes its duty. -/
  | valveCycleStart (v : Fin 8)
  /-- R309. LEAD after the high-side switch rises, the granted channel's VG turns on. -/
  | valveLeadExpiry (v : Fin 8)
  /-- R307. VS first reaches the IPK threshold, or detects a short within 2 µs. -/
  | valveIpkReached (v : Fin 8) (t : Nat)
  /-- R307. The peak ends at TPK or TPKMAX and the channel holds or faults. -/
  | valvePeakEnd (v : Fin 8) (t : Nat) (halfSeen : Bool)
  /-- R307. At each chopping period start VG turns on after its minimum off time. -/
  | valveChopPeriod (v : Fin 8)
  /-- R307. VS reaching the chopping threshold turns VG off. -/
  | valveChopOff (v : Fin 8) (onNs : Nat)
  /-- R308. A CLEAR command clears a valve channel fault. -/
  | valveClear (v : Fin 8)
  /-- R315. Every 100 µs a GPIO input is sampled and debounced, and a change is written. -/
  | gpioInputSample (g : Fin 4) (level : Bool)
  /-- R316. A daily actuator trend record is written to the tally store. -/
  | actuatorTrendRecord
  /-- R320. A complete MS/TP frame is received and handled by the data link. -/
  | mstpFrameReceived (p : Fin 2) (f : MstpFrame)
  /-- R320. T_no_token expires and the port may generate the token. -/
  | mstpNoToken (p : Fin 2)
  /-- R320. T_usage_timeout expires after a token pass. -/
  | mstpUsageTimeout (p : Fin 2)
  /-- R320. T_slot expires during poll-for-master. -/
  | mstpSlotTimeout (p : Fin 2)
  /-- R321. After 1 s at a rate in DETECT the port moves to the next rate. -/
  | autobaudDwell (p : Fin 2)
  /-- R321. After LISTENMAX seconds unlocked the port takes BAUD, sets SOLE and enters RUN. -/
  | autobaudTimeout (p : Fin 2)
  /-- R321. A REDETECT or RENEGOTIATE command restarts rate detection or negotiation. -/
  | busRedetect (p : Fin 2)
  /-- R322. A Who-Is request is answered with I-Am when the instance is in range. -/
  | whoIs (p : Fin 2) (range : Option (Nat × Nat))
  /-- R324. A ReadProperty request is answered from the object's point. -/
  | readProperty (p : Fin 2) (src : BAddr) (obj : BObjId) (prop : BProp) (index : Option Nat)
  /-- R322. A ReadPropertyMultiple request is answered or aborted for size. -/
  | readPropertyMultiple (p : Fin 2) (src : BAddr) (specs : List (BObjId × List PropRef))
  /-- R326. A WriteProperty request updates the Priority_Array and writes the effective value to the point. -/
  | writeProperty (p : Fin 2) (src : BAddr) (obj : BObjId) (prop : BProp) (value : BVal) (prio : Option (Fin 16))
  /-- R328. A SubscribeCOV request adds, renews or cancels a subscription. -/
  | subscribeCov (p : Fin 2) (src : BAddr) (proc : Nat) (obj : BObjId) (cancel : Bool) (confirmed : Bool) (life : Nat)
  /-- R322. A confirmed request of an unsupported service is rejected. -/
  | unrecognizedService (p : Fin 2) (src : BAddr) (confirmed : Bool)
  /-- R328. Every 100 ms subscribed objects are compared and notifications fall due. -/
  | covScan (p : Fin 2)
  /-- R328. A subscription whose lifetime ends is removed. -/
  | covExpiry (p : Fin 2) (sub : Nat)
  /-- R330. A new poll cycle starts CYCLE ms after the previous one, or at its end on overrun. -/
  | modbusCycleStart (p : Fin 2)
  /-- R330. The next transaction's request is built and sent. -/
  | modbusRequest (p : Fin 2)
  /-- R332. A response frame closes and its values are applied, or the attempt fails. -/
  | modbusResponse (p : Fin 2) (bytes : List Byte) (checkOk : Bool)
  /-- R332. No frame within RTO fails the attempt, which may retry. -/
  | modbusResponseTimeout (p : Fin 2)
  /-- R335. The port probes each listed rate and keeps the first that every device answers. -/
  | modbusNegotiation (p : Fin 2) (replies : List (List Nat))
  /-- R338. A write to BUS_OSEL, BUS_TSEL or BUS_DSEL captures the entry into its window. -/
  | busSelWrite (p : Fin 2) (off : Fin 3) (v : Word)
  /-- R343. A flash window write is appended to a program buffer or discarded. -/
  | flashWindowWrite (a : Nat) (v : Word)
  /-- R343. A program buffer closes 50 µs after its last write. -/
  | flashBufferTimeout (tally : Bool)
  /-- R341. Every 20 µs the status of a running program or erase is polled. -/
  | flashStatusPoll (wip : Bool)
  /-- R343. A buffer program ends, optionally verified, with its result in WRES. -/
  | flashProgramDone (timeout : Bool) (mismatch : Bool)
  /-- R344. An ERASE command starts an erase of a block, subject to the image extent rule. -/
  | flashErase
  /-- R343. A FLUSH command closes the open program buffer. -/
  | flashFlush
  /-- R344. An erase completes and ESTAT reads OK. -/
  | flashEraseDone
  /-- R344. An erase not complete after 10 s ends with TIMEOUT. -/
  | flashEraseTimeout
  /-- R341. A DIRECT section is fetched through the flash window and checked on its first fetch. -/
  | directFetch (sec : Nat) (block : Nat)
  /-- R351. A paged-window fetch fills a buffer. -/
  | windowFetchDone (w : Fin 4)
  /-- R345. A START command queues a host PSP transaction. -/
  | pspStart
  /-- R345. A PSP transaction ends and the next waiting one is served. -/
  | pspTransactionDone (rx : List Byte)
  /-- R346. Command 0x03 starts an auto-incrementing read transfer. -/
  | hspReadIncrement (addr : BitVec 16)
  /-- R346. Command 0x0B starts a fixed-address read transfer. -/
  | hspReadFixed (addr : BitVec 16)
  /-- R346. Command 0x02 starts an auto-incrementing write transfer. -/
  | hspWriteIncrement (addr : BitVec 16)
  /-- R346. Command 0x0A starts a fixed-address write transfer. -/
  | hspWriteFixed (addr : BitVec 16)
  /-- R346. Any other command makes the port ignore the transfer and count it. -/
  | hspBadCommand
  /-- R348. A read data frame is taken from the shadow with its tag, and its read side effects occur. -/
  | hspReadFrame
  /-- R347. A write data frame is parity-checked and applied. -/
  | hspWriteFrame (frame : BitVec 24)
  /-- R352. HCS_N rising ends the transfer, aborting it or writing a partial frame. -/
  | hspSelectRise (k : Fin 24) (bits : BitVec 24)
  /-- R353. Writing 1 to an event bit of HSP_IRQ clears it and updates HIRQ_N. -/
  | hspIrqClear (v : Word)
  /-- R354. A tally program pulse ends and the next waiting pulse starts by priority. -/
  | tallyPulseDone
  /-- R356. A SELECT command chooses the valid copy of a two-copy record. -/
  | tallySelect
  /-- R356. A BEGIN command invalidates the target copy's header for a new payload. -/
  | tallyBegin
  /-- R356. A COMMIT command checks the payload and programs the target header. -/
  | tallyCommit
  /-- R357. A tally window write is coalesced into a page program or refused. -/
  | tallyWindowWrite (a : Nat) (v : Word)
  /-- R358. An INC command increments a host counter. -/
  | tallyInc
  /-- R358. Each hour the operating-hours counter increments and batched counts are committed. -/
  | tallyHourly
  /-- R358. The scan of the counter pages ends and held increments are applied. -/
  | counterScanDone
  /-- R359. A SUBMIT command queues a compression job or refuses it. -/
  | cmpSubmit
  /-- R367. A FLUSH command ends the running encode job's block early. -/
  | cmpFlush (v : Word) (pos : Nat)
  /-- R360. The job heading the queue starts when no job runs and the level is below L1. -/
  | cmpJobStart
  /-- R360. A job ends, commits its output and records its result. -/
  | cmpJobDone (flash : Fin 3)
  /-- R364. A resident-source run starts at the start of a gap of its head. -/
  | residentRunStart (h : Fin 4)
  /-- R360. A write to CMP_RSEL copies a job's result entry into the result registers. -/
  | cmpRselWrite (v : Word)
  /-- R363. A write to an output pointer is rejected while an appending job to that memory is pending. -/
  | cmpOptrWrite (off : Fin 6) (v : Word)
  /-- R375. A C2 or C3 request that has waited 4,096 cycles is promoted one class. -/
  | fabricPromotion (c3 : Bool) (slice : Bool) (cycles : Nat)
  /-- R376. A new window of 4,096 slice cycles restarts the C3 share. -/
  | c3ShareWindow
  /-- R382. A new request reaching a part in DRAIN, DOWN or LOADING is answered DOWN. -/
  | fabricRequestToDrained (r b : Blk) (tag : Fin 64) (answered : List (Fin 64))
  /-- R383. A weekly ageing measurement falls due. -/
  | ageMeasureDue
  /-- R383. A MEASURE command makes an ageing measurement due. -/
  | ageMeasure
  /-- R383. A due measurement that cannot run is retried every 10 min. -/
  | ageRetry
  /-- R383. After 24 h without success MSTAT reads DELAYED and the measurement waits for its next slot. -/
  | ageMeasureDelayed
  /-- R384. A measurement completes, computes the slowdown and may lower the ceiling. -/
  | ageMeasureDone (counts : Vector Word 16)
  /-- R387. A console line ended by CR is parsed, and an unrecognised command ends BAD_ARG. -/
  | consoleLine (chars : List Byte)
  /-- R388. ID reports part code, revision, serial number and lock fuses. -/
  | consoleId
  /-- R388. STAT reports device state, boot stage and alert causes. -/
  | consoleStat
  /-- R388. RD reads words from an address with their tags. -/
  | consoleRd (addr : BitVec 16) (count : Nat)
  /-- R388. WR makes one register write as over the HSP. -/
  | consoleWr (addr : BitVec 16) (v : Nat)
  /-- R388. UL unlocks a named block. -/
  | consoleUl (b : Blk)
  /-- R388. LK locks a named block. -/
  | consoleLk (b : Blk)
  /-- R388. SVC ENTER takes the device into SERVICE. -/
  | consoleSvcEnter
  /-- R388. SVC LEAVE takes the device out of SERVICE. -/
  | consoleSvcLeave
  /-- R388. LOG lists the newest event records. -/
  | consoleLog (count : Nat)
  /-- R388. CNT reports a tally counter value. -/
  | consoleCnt (c : Nat)
  /-- R388. DUMP shows TMP of up to 64 pixels unless the privacy lock stops it. -/
  | consoleDump (h : Nat) (line : Nat) (first : Nat) (count : Nat)
  /-- R65. BALL with H, L or Z forces a ball in SERVICE. -/
  | consoleBallForce (ball : Nat) (level : BallForce)
  /-- R65. BALL with REL releases a forced ball. -/
  | consoleBallRelease (ball : Nat)
  /-- R65. BALL RELALL releases every forced ball. -/
  | consoleBallReleaseAll
  /-- R388. DAC with a code holds a DAC channel at that code. -/
  | consoleDacHold (c : Nat) (code : Nat)
  /-- R388. DAC with REL ends the DAC test. -/
  | consoleDacRelease (c : Nat)
  /-- R388. VLV HOLD peaks a valve channel and holds it at a threshold code. -/
  | consoleVlvHold (c : Nat) (code : Nat)
  /-- R388. VLV OFF turns a valve channel off under test. -/
  | consoleVlvOff (c : Nat)
  /-- R388. VLV REL ends the valve test. -/
  | consoleVlvRelease (c : Nat)
  /-- R388. FAN RPM runs a fan channel at a test speed. -/
  | consoleFanRpm (c : Nat) (rpm : Nat)
  /-- R388. FAN OFF stops a fan channel under test. -/
  | consoleFanOff (c : Nat)
  /-- R388. FAN REL ends the fan test. -/
  | consoleFanRelease (c : Nat)
  /-- R290. AFE EXC with I places a sequencer under test and sources current from a pin. -/
  | consoleAfeExcCurrent (q : Fin 2) (pin : Nat) (mag : Nat)
  /-- R290. AFE EXC with V places a sequencer under test and drives voltage on a pin. -/
  | consoleAfeExcVoltage (q : Fin 2) (pin : Nat) (mag : Nat)
  /-- R290. AFE OFF ends the sequencer test, which restarts at its lowest normal slot. -/
  | consoleAfeOff (q : Fin 2)
  /-- R389. MON routes a source to TESTMON. -/
  | consoleMon (src : Nat)
  /-- R392. LOCK DBG programs the DBGLOCK fuses. -/
  | lockDbg (readBack : Bool)
  /-- R392. LOCK PRIV programs the PRIVLOCK fuses. -/
  | lockPriv (readBack : Bool)
  /-- R392. LOCK KEY programs KEYHASH, verifies it and sets KEYLOCK. -/
  | lockKey (hash : BitVec 256) (readBack : Bool)
  /-- R388. MEM performs factory raw memory access. -/
  | consoleMem
  /-- R388. TRIM performs factory trimming. -/
  | consoleTrim
  /-- R388. SCAN exercises factory test structures. -/
  | consoleScan
  /-- R388. FUSE performs factory fuse programming. -/
  | consoleFuse
  /-- R393. The IDCODE instruction selects the identification register. -/
  | jtagIdcode
  /-- R393. The SAMPLE/PRELOAD instruction captures the boundary register. -/
  | jtagSamplePreload (captured : List Bool) (shifted : List Bool)
  /-- R393. The EXTEST instruction drives the boundary register, in SERVICE only. -/
  | jtagExtest
  /-- R393. The HIGHZ instruction floats the outputs, in SERVICE only. -/
  | jtagHighz
  /-- R393. The BYPASS instruction selects the bypass register. -/
  | jtagBypass
  /-- R393. A factory instruction is taken only in SERVICE. -/
  | jtagFactory (code : BitVec 8)
  /-- R269. At each RTC second edge the enabled schedules are evaluated and their outputs written. -/
  | rtcSecond
  /-- R266. A write to SCHED_RTC0 stages the low part of the RTC count. -/
  | schedRtcStage (v : Word)
  /-- R266. A write to SCHED_RTC1 commits the count at the next RTC second edge. -/
  | schedRtcCommit (v : Word)
  /-- R268. An OVRCLR command ends the override of the selected schedule. -/
  | schedOvrclr
  /-- R79. VDD_AON enters its operating range, D0 leaves power-on reset, reads IOSCTRIM and the sensor trims, and runs on IOSC. -/
  | powerOnResetRelease
  /-- R61. RESET_N rises while PGOOD is still low, so D0 leaves reset and the tick generator, frame number and crystal check start while the other domains stay in reset. -/
  | d0LeavesReset
  /-- R320. A partly received MS/TP frame is dropped when the line stays silent for T_frame_abort, 60 bit times. -/
  | mstpFrameAbort (p : Fin 2)
  /-- R219. The transmitter finishes sending a CSI-2 frame, becomes free, and starts the next frame that is waiting. -/
  | ctxFrameDone (t : Nat)
  deriving DecidableEq, Repr

end Sys2Proof
end

