-- ==== Sys2Proof/Machine/RegNames.lean ====
section
/-! DEFINITION. The fields of the spec's register tables under the spec's names (the chapter and table that
define each register are given in its line); an array of registers takes its indices as arguments. -/

namespace Sys2Proof.Reg
open Sys2Proof.Machine

abbrev SYS_ID0 : Fld := ⟨0x0, 17, 0⟩ -- Table 2-14
abbrev SYS_ID1_LETTER : Fld := ⟨0x1, 17, 9⟩ -- Table 2-15
abbrev SYS_ID1_METAL : Fld := ⟨0x1, 8, 0⟩ -- Table 2-15
abbrev SYS_STRAP_TRIPIGN : Fld := ⟨0x2, 6, 6⟩ -- Table 3-8
abbrev SYS_STRAP_TUNST : Fld := ⟨0x2, 5, 5⟩ -- Table 3-8
abbrev SYS_STRAP_BUNST : Fld := ⟨0x2, 4, 4⟩ -- Table 3-8
abbrev SYS_STRAP_TRIPSEL : Fld := ⟨0x2, 3, 2⟩ -- Table 3-8
abbrev SYS_STRAP_BOOTSEL : Fld := ⟨0x2, 1, 0⟩ -- Table 3-8
abbrev SYS_STINC0 : Fld := ⟨0x20, 17, 0⟩ -- Table 1-4
abbrev SYS_STINC1 : Fld := ⟨0x21, 12, 0⟩ -- Table 1-5
abbrev SYS_FTDIV : Fld := ⟨0x22, 12, 0⟩ -- Table 1-6
abbrev SYS_FRAME0 : Fld := ⟨0x23, 17, 0⟩ -- Table 1-7
abbrev SYS_FRAME1 : Fld := ⟨0x24, 17, 0⟩ -- Table 1-8
abbrev SYS_TICKSTAT_TSTAT : Fld := ⟨0x25, 16, 12⟩ -- Table 1-9
abbrev SYS_TICKSTAT_LIVEON : Fld := ⟨0x25, 11, 11⟩ -- Table 1-9
abbrev SYS_TICKSTAT_FTPEND : Fld := ⟨0x25, 10, 10⟩ -- Table 1-9
abbrev PWR_DSEL : Fld := ⟨0x400, 4, 0⟩ -- Table 4-7
abbrev PWR_DCTL : Fld := ⟨0x401, 1, 0⟩ -- Table 4-8
abbrev PWR_DSTAT_BLOCKER : Fld := ⟨0x402, 13, 9⟩ -- Table 4-9
abbrev PWR_DSTAT_LAST : Fld := ⟨0x402, 8, 4⟩ -- Table 4-9
abbrev PWR_DSTAT_FUSED : Fld := ⟨0x402, 3, 3⟩ -- Table 4-9
abbrev PWR_DSTAT_PEND : Fld := ⟨0x402, 2, 2⟩ -- Table 4-9
abbrev PWR_DSTAT_DST : Fld := ⟨0x402, 1, 0⟩ -- Table 4-9
abbrev PWR_ONMAP0 : Fld := ⟨0x403, 17, 0⟩ -- Table 4-10
abbrev PWR_ONMAP1 : Fld := ⟨0x404, 11, 0⟩ -- Table 4-11
abbrev PWR_MON_PHY : Fld := ⟨0x405, 6, 6⟩ -- Table 4-12
abbrev PWR_MON_A18 : Fld := ⟨0x405, 5, 5⟩ -- Table 4-12
abbrev PWR_MON_IO33 : Fld := ⟨0x405, 4, 4⟩ -- Table 4-12
abbrev PWR_MON_IO18 : Fld := ⟨0x405, 3, 3⟩ -- Table 4-12
abbrev PWR_MON_MEM : Fld := ⟨0x405, 2, 2⟩ -- Table 4-12
abbrev PWR_MON_CORE : Fld := ⟨0x405, 1, 1⟩ -- Table 4-12
abbrev CLK_STAT_CTXLK : Fld := ⟨0x800, 6, 6⟩ -- Table 4-13
abbrev CLK_STAT_PLLBLK : Fld := ⟨0x800, 5, 5⟩ -- Table 4-13
abbrev CLK_STAT_PLLMLK : Fld := ⟨0x800, 4, 4⟩ -- Table 4-13
abbrev CLK_STAT_XHOLD : Fld := ⟨0x800, 3, 3⟩ -- Table 4-13
abbrev CLK_STAT_RTCSUB : Fld := ⟨0x800, 2, 2⟩ -- Table 4-13
abbrev CLK_STAT_RTCOK : Fld := ⟨0x800, 1, 1⟩ -- Table 4-13
abbrev CLK_STAT_XTALOK : Fld := ⟨0x800, 0, 0⟩ -- Table 4-13
abbrev CLK_FB_CEILK : Fld := ⟨0x801, 9, 5⟩ -- Table 4-14
abbrev CLK_FB_FBK : Fld := ⟨0x801, 4, 0⟩ -- Table 4-14
abbrev CLK_HOLD : Fld := ⟨0x802, 9, 0⟩ -- Table 4-15
abbrev CLK_IOSC_ERR : Fld := ⟨0x803, 15, 8⟩ -- Table 4-16
abbrev CLK_IOSC_TRIM : Fld := ⟨0x803, 7, 0⟩ -- Table 4-16
abbrev CLK_LOSS_BLOSS : Fld := ⟨0x804, 17, 9⟩ -- Table 4-17
abbrev CLK_LOSS_XLOSS : Fld := ⟨0x804, 8, 0⟩ -- Table 4-17
abbrev THM_TS_FAILED (i : Nat) : Fld := ⟨0xC00 + 0x1 * i, 17, 17⟩ -- Table 5-7
abbrev THM_TS_TEMP (i : Nat) : Fld := ⟨0xC00 + 0x1 * i, 12, 0⟩ -- Table 5-7
abbrev THM_STAT_FAST : Fld := ⟨0xC10, 8, 8⟩ -- Table 5-8
abbrev THM_STAT_HOLDL3 : Fld := ⟨0xC10, 7, 7⟩ -- Table 5-8
abbrev THM_STAT_NORELAX : Fld := ⟨0xC10, 6, 6⟩ -- Table 5-8
abbrev THM_STAT_BAND : Fld := ⟨0xC10, 5, 4⟩ -- Table 5-8
abbrev THM_STAT_LEVEL : Fld := ⟨0xC10, 1, 0⟩ -- Table 5-8
abbrev THM_TJ_SUBST : Fld := ⟨0xC11, 17, 17⟩ -- Table 5-9
abbrev THM_TJ_SRC : Fld := ⟨0xC11, 16, 13⟩ -- Table 5-9
abbrev THM_TJ_TJ : Fld := ⟨0xC11, 12, 0⟩ -- Table 5-9
abbrev THM_CTL_CMD : Fld := ⟨0xC12, 5, 4⟩ -- Table 5-10
abbrev THM_CTL_SENS : Fld := ⟨0xC12, 3, 0⟩ -- Table 5-10
abbrev THM_AUTORESTART_NAUTO : Fld := ⟨0xC13, 3, 2⟩ -- Table 5-11
abbrev THM_AUTORESTART_EN : Fld := ⟨0xC13, 0, 0⟩ -- Table 5-11
abbrev THM_TRIP_NTRIP : Fld := ⟨0xC14, 15, 8⟩ -- Table 5-12
abbrev THM_TRIP_CAUSE2 : Fld := ⟨0xC14, 7, 4⟩ -- Table 5-12
abbrev THM_TRIP_CAUSE : Fld := ⟨0xC14, 3, 0⟩ -- Table 5-12
abbrev THM_L3DROP : Fld := ⟨0xC15, 17, 0⟩ -- Table 5-13
abbrev THM_PTTJ_EN : Fld := ⟨0xC16, 17, 17⟩ -- Table 5-14
abbrev THM_PTTJ_POINT : Fld := ⟨0xC16, 11, 0⟩ -- Table 5-14
abbrev THM_PTLVL_EN : Fld := ⟨0xC17, 17, 17⟩ -- Table 5-15
abbrev THM_PTLVL_POINT : Fld := ⟨0xC17, 11, 0⟩ -- Table 5-15
abbrev THM_PTTS_EN : Fld := ⟨0xC18, 17, 17⟩ -- Table 5-16
abbrev THM_PTTS_TSBASE : Fld := ⟨0xC18, 11, 0⟩ -- Table 5-16
abbrev BOOT_STAT_STAGE : Fld := ⟨0x1000, 13, 10⟩ -- Table 6-9
abbrev BOOT_STAT_COPY : Fld := ⟨0x1000, 9, 8⟩ -- Table 6-9
abbrev BOOT_STAT_STATUS : Fld := ⟨0x1000, 4, 0⟩ -- Table 6-9
abbrev BOOT_REASON_RCOPY : Fld := ⟨0x1001, 14, 13⟩ -- Table 6-10
abbrev BOOT_REASON_SECIDX : Fld := ⟨0x1001, 12, 6⟩ -- Table 6-10
abbrev BOOT_REASON_REASON : Fld := ⟨0x1001, 5, 0⟩ -- Table 6-10
abbrev BOOT_SEQ : Fld := ⟨0x1002, 17, 0⟩ -- Table 6-11
abbrev BOOT_UPD_EQSEQ : Fld := ⟨0x1003, 3, 3⟩ -- Table 6-12
abbrev BOOT_UPD_BVALID : Fld := ⟨0x1003, 2, 2⟩ -- Table 6-12
abbrev BOOT_UPD_AVALID : Fld := ⟨0x1003, 1, 1⟩ -- Table 6-12
abbrev BOOT_UPD_NEXTCOPY : Fld := ⟨0x1003, 0, 0⟩ -- Table 6-12
abbrev BOOT_NEXTSEQ : Fld := ⟨0x1004, 17, 0⟩ -- Table 6-13
abbrev BOOT_RLSEL_SRC : Fld := ⟨0x1005, 17, 16⟩ -- Table 6-14
abbrev BOOT_RLSEL_TYPE : Fld := ⟨0x1005, 15, 8⟩ -- Table 6-14
abbrev BOOT_RLSEL_UNIT : Fld := ⟨0x1005, 7, 0⟩ -- Table 6-14
abbrev BOOT_RLCTL_RLSTATUS : Fld := ⟨0x1006, 13, 9⟩ -- Table 6-15
abbrev BOOT_RLCTL_RLSTAGE : Fld := ⟨0x1006, 8, 6⟩ -- Table 6-15
abbrev BOOT_RLCTL_CMD : Fld := ⟨0x1006, 1, 0⟩ -- Table 6-15
abbrev BOOT_HCTL_CMD : Fld := ⟨0x1007, 17, 16⟩ -- Table 6-16
abbrev BOOT_HCTL_HFREE : Fld := ⟨0x1007, 11, 0⟩ -- Table 6-16
abbrev BOOT_HCNT : Fld := ⟨0x1008, 17, 0⟩ -- Table 6-17
abbrev BOOT_ALERT_SECDOWN : Fld := ⟨0x1009, 2, 2⟩ -- Table 6-18
abbrev BOOT_ALERT_FALLBACK : Fld := ⟨0x1009, 1, 1⟩ -- Table 6-18
abbrev BOOT_ALERT_NOIMAGE : Fld := ⟨0x1009, 0, 0⟩ -- Table 6-18
abbrev BOOT_HDATA_BYTE1 (i : Nat) : Fld := ⟨0x1200 + 0x1 * i, 15, 8⟩ -- Table 6-19
abbrev BOOT_HDATA_BYTE0 (i : Nat) : Fld := ⟨0x1200 + 0x1 * i, 7, 0⟩ -- Table 6-19
abbrev TALLY_STAT_LAST : Fld := ⟨0x1400, 17, 13⟩ -- Table 16-28
abbrev TALLY_STAT_BUSY : Fld := ⟨0x1400, 12, 12⟩ -- Table 16-28
abbrev TALLY_STAT_WP : Fld := ⟨0x1400, 11, 11⟩ -- Table 16-28
abbrev TALLY_STAT_BLOST : Fld := ⟨0x1400, 10, 10⟩ -- Table 16-28
abbrev TALLY_STAT_QLEN : Fld := ⟨0x1400, 9, 3⟩ -- Table 16-28
abbrev TALLY_PROTLO : Fld := ⟨0x1401, 10, 0⟩ -- Table 16-29
abbrev TALLY_PROTHI : Fld := ⟨0x1402, 10, 0⟩ -- Table 16-29
abbrev TALLY_RSEL : Fld := ⟨0x1404, 5, 0⟩ -- Table 16-30
abbrev TALLY_RCMD_CMD : Fld := ⟨0x1405, 17, 16⟩ -- Table 16-30
abbrev TALLY_RCMD_RSTAT : Fld := ⟨0x1405, 15, 11⟩ -- Table 16-30
abbrev TALLY_RCMD_RCOPY : Fld := ⟨0x1405, 10, 10⟩ -- Table 16-30
abbrev TALLY_RLEN : Fld := ⟨0x1406, 11, 0⟩ -- Table 16-31
abbrev TALLY_RSEQ : Fld := ⟨0x1407, 17, 0⟩ -- Table 16-31
abbrev TALLY_RBASE : Fld := ⟨0x1408, 10, 0⟩ -- Table 16-31
abbrev TALLY_CSEL : Fld := ⟨0x1410, 5, 0⟩ -- Table 16-33
abbrev TALLY_CVAL0 : Fld := ⟨0x1411, 17, 0⟩ -- Table 16-33
abbrev TALLY_CVAL1 : Fld := ⟨0x1412, 17, 0⟩ -- Table 16-33
abbrev TALLY_CCMD_CMD : Fld := ⟨0x1413, 17, 16⟩ -- Table 16-34
abbrev TALLY_CCMD_CSTAT : Fld := ⟨0x1413, 15, 11⟩ -- Table 16-34
abbrev TALLY_TORN : Fld := ⟨0x1418, 17, 0⟩ -- Table 16-35
abbrev TALLY_EVOVF : Fld := ⟨0x1419, 17, 0⟩ -- Table 16-35
abbrev TALLY_LOCKCNT : Fld := ⟨0x141A, 17, 0⟩ -- Table 16-35
abbrev TALLY_RDEF0_NPG (i : Nat) : Fld := ⟨0x1500 + 0x2 * i, 14, 11⟩ -- Table 16-32
abbrev TALLY_RDEF0_BASE (i : Nat) : Fld := ⟨0x1500 + 0x2 * i, 10, 0⟩ -- Table 16-32
abbrev TALLY_RDEF1 (i : Nat) : Fld := ⟨0x1501 + 0x2 * i, 10, 0⟩ -- Table 16-32
abbrev FLW_CHIP_NSTAT (i : Nat) : Fld := ⟨0x1800 + 0x1 * i, 17, 13⟩ -- Table 16-12
abbrev FLW_CHIP_MODE (i : Nat) : Fld := ⟨0x1800 + 0x1 * i, 12, 10⟩ -- Table 16-12
abbrev FLW_CHIP_ADDR4 (i : Nat) : Fld := ⟨0x1800 + 0x1 * i, 9, 9⟩ -- Table 16-12
abbrev FLW_CHIP_DENS (i : Nat) : Fld := ⟨0x1800 + 0x1 * i, 8, 5⟩ -- Table 16-12
abbrev FLW_CHIP_ERMASK (i : Nat) : Fld := ⟨0x1800 + 0x1 * i, 4, 2⟩ -- Table 16-12
abbrev FLW_CLK : Fld := ⟨0x1802, 11, 0⟩ -- Table 16-13
abbrev FLW_WIN_CS : Fld := ⟨0x1803, 17, 17⟩ -- Table 16-14
abbrev FLW_WIN_VERIFY : Fld := ⟨0x1803, 16, 16⟩ -- Table 16-14
abbrev FLW_WIN_WEN : Fld := ⟨0x1803, 15, 15⟩ -- Table 16-14
abbrev FLW_WIN_BASE : Fld := ⟨0x1803, 3, 0⟩ -- Table 16-14
abbrev FLW_WSTAT_WRES : Fld := ⟨0x1804, 17, 13⟩ -- Table 16-15
abbrev FLW_WSTAT_WFREE : Fld := ⟨0x1804, 12, 11⟩ -- Table 16-15
abbrev FLW_WSTAT_PROG : Fld := ⟨0x1804, 10, 10⟩ -- Table 16-15
abbrev FLW_ECMD_CMD : Fld := ⟨0x1805, 17, 16⟩ -- Table 16-16
abbrev FLW_ECMD_SIZE : Fld := ⟨0x1805, 15, 14⟩ -- Table 16-16
abbrev FLW_ECMD_CS : Fld := ⟨0x1805, 13, 13⟩ -- Table 16-16
abbrev FLW_EADDR0 : Fld := ⟨0x1806, 17, 0⟩ -- Table 16-17
abbrev FLW_EADDR1 : Fld := ⟨0x1807, 9, 0⟩ -- Table 16-17
abbrev FLW_ESTAT : Fld := ⟨0x1808, 17, 13⟩ -- Table 16-17
abbrev FLW_WDISC : Fld := ⟨0x1810, 17, 0⟩ -- Table 16-18
abbrev FLW_VFAIL : Fld := ⟨0x1811, 17, 0⟩ -- Table 16-18
abbrev PSP_SCFG_MODE (i : Nat) : Fld := ⟨0x1C00 + 0x1 * i, 17, 16⟩ -- Table 16-19
abbrev PSP_SCFG_PDIV (i : Nat) : Fld := ⟨0x1C00 + 0x1 * i, 15, 4⟩ -- Table 16-19
abbrev PSP_SCFG_HEADOWN (i : Nat) : Fld := ⟨0x1C00 + 0x1 * i, 3, 3⟩ -- Table 16-19
abbrev PSP_HSEL_SEL : Fld := ⟨0x1C10, 9, 7⟩ -- Table 16-20
abbrev PSP_HSEL_LEN : Fld := ⟨0x1C10, 6, 0⟩ -- Table 16-20
abbrev PSP_HCMD_CMD : Fld := ⟨0x1C11, 17, 16⟩ -- Table 16-21
abbrev PSP_HCMD_CSTAT : Fld := ⟨0x1C11, 15, 11⟩ -- Table 16-21
abbrev PSP_TXD_BYTE1 (i : Nat) : Fld := ⟨0x1C20 + 0x1 * i, 15, 8⟩ -- Table 16-22
abbrev PSP_TXD_BYTE0 (i : Nat) : Fld := ⟨0x1C20 + 0x1 * i, 7, 0⟩ -- Table 16-22
abbrev PSP_RXD_BYTE1 (i : Nat) : Fld := ⟨0x1C40 + 0x1 * i, 15, 8⟩ -- Table 16-22
abbrev PSP_RXD_BYTE0 (i : Nat) : Fld := ⟨0x1C40 + 0x1 * i, 7, 0⟩ -- Table 16-22
abbrev HSP_PGPS : Fld := ⟨0x2000, 17, 0⟩ -- Table 16-23
abbrev HSP_PGWR : Fld := ⟨0x2001, 17, 0⟩ -- Table 16-23
abbrev HSP_PGFL : Fld := ⟨0x2002, 17, 0⟩ -- Table 16-23
abbrev HSP_PGTA : Fld := ⟨0x2003, 17, 0⟩ -- Table 16-23
abbrev HSP_WSTAT_FETCH : Fld := ⟨0x2004, 17, 14⟩ -- Table 16-24
abbrev HSP_WSTAT_WRES : Fld := ⟨0x2004, 13, 9⟩ -- Table 16-24
abbrev HSP_IRQEN : Fld := ⟨0x2005, 12, 0⟩ -- Table 16-25
abbrev HSP_IRQ : Fld := ⟨0x2006, 12, 0⟩ -- Table 16-25
abbrev HSP_LASTW : Fld := ⟨0x2007, 17, 13⟩ -- Table 16-26
abbrev HSP_PERR : Fld := ⟨0x2010, 17, 0⟩ -- Table 16-27
abbrev HSP_PARTIAL : Fld := ⟨0x2011, 17, 0⟩ -- Table 16-27
abbrev HSP_ABORT : Fld := ⟨0x2012, 17, 0⟩ -- Table 16-27
abbrev HSP_BADCMD : Fld := ⟨0x2013, 17, 0⟩ -- Table 16-27
abbrev SVC_CMD_CMD : Fld := ⟨0x2400, 17, 16⟩ -- Table 18-24
abbrev SVC_CMD_CSTAT : Fld := ⟨0x2400, 15, 11⟩ -- Table 18-24
abbrev SVC_STAT_SVC : Fld := ⟨0x2401, 17, 17⟩ -- Table 18-25
abbrev SVC_STAT_DBG : Fld := ⟨0x2401, 16, 16⟩ -- Table 18-25
abbrev SVC_STAT_BUSY : Fld := ⟨0x2401, 15, 15⟩ -- Table 18-25
abbrev SVC_STAT_LAST : Fld := ⟨0x2401, 14, 10⟩ -- Table 18-25
abbrev SVC_MON : Fld := ⟨0x2402, 3, 0⟩ -- Table 18-26
abbrev SVC_FORCED : Fld := ⟨0x2403, 7, 0⟩ -- Table 18-27
abbrev SVC_LINES : Fld := ⟨0x2410, 17, 0⟩ -- Table 18-28
abbrev SVC_FRAMING : Fld := ⟨0x2411, 17, 0⟩ -- Table 18-28
abbrev SVC_LONG : Fld := ⟨0x2412, 17, 0⟩ -- Table 18-28
abbrev FUSE_SEL : Fld := ⟨0x2800, 7, 0⟩ -- Table 18-29
abbrev FUSE_DATA : Fld := ⟨0x2801, 17, 0⟩ -- Table 18-29
abbrev FUSE_STAT_DBGLOCK : Fld := ⟨0x2802, 17, 17⟩ -- Table 18-30
abbrev FUSE_STAT_PRIVLOCK : Fld := ⟨0x2802, 16, 16⟩ -- Table 18-30
abbrev FUSE_STAT_KEYLOCK : Fld := ⟨0x2802, 15, 15⟩ -- Table 18-30
abbrev FUSE_STAT_KEYSET : Fld := ⟨0x2802, 14, 14⟩ -- Table 18-30
abbrev FUSE_STAT_VBAD : Fld := ⟨0x2802, 13, 13⟩ -- Table 18-30
abbrev FUSE_STAT_PSTAT : Fld := ⟨0x2802, 12, 8⟩ -- Table 18-30
abbrev FUSE_SER (i : Nat) : Fld := ⟨0x2804 + 0x1 * i, 17, 0⟩ -- Table 18-31
abbrev HEAD_LINKCFG_BOND (h : Nat) : Fld := ⟨0x3000 + 0x400 * h, 17, 17⟩ -- Table 7-6
abbrev HEAD_LINKCFG_VC (h : Nat) : Fld := ⟨0x3000 + 0x400 * h, 16, 15⟩ -- Table 7-6
abbrev HEAD_LINKCFG_DTPREF (h : Nat) : Fld := ⟨0x3000 + 0x400 * h, 14, 13⟩ -- Table 7-6
abbrev HEAD_LINKCFG_MAXLANES (h : Nat) : Fld := ⟨0x3000 + 0x400 * h, 12, 10⟩ -- Table 7-6
abbrev HEAD_LINKCFG_MAXRATE (h : Nat) : Fld := ⟨0x3000 + 0x400 * h, 8, 0⟩ -- Table 7-6
abbrev HEAD_WIDTH (h : Nat) : Fld := ⟨0x3001 + 0x400 * h, 11, 0⟩ -- Table 7-7
abbrev HEAD_HEIGHT (h : Nat) : Fld := ⟨0x3002 + 0x400 * h, 10, 0⟩ -- Table 7-8
abbrev HEAD_TFE (h : Nat) : Fld := ⟨0x3003 + 0x400 * h, 17, 0⟩ -- Table 7-9
abbrev HEAD_CTRL_SYNCPOL (h : Nat) : Fld := ⟨0x3004 + 0x400 * h, 17, 17⟩ -- Table 7-10
abbrev HEAD_CTRL_SYNCW (h : Nat) : Fld := ⟨0x3004 + 0x400 * h, 16, 10⟩ -- Table 7-10
abbrev HEAD_CTRL_PCS (h : Nat) : Fld := ⟨0x3004 + 0x400 * h, 9, 7⟩ -- Table 7-10
abbrev HEAD_CTRL_HRSTLEN (h : Nat) : Fld := ⟨0x3004 + 0x400 * h, 6, 4⟩ -- Table 7-10
abbrev HEAD_CTRL_HRSTWAIT (h : Nat) : Fld := ⟨0x3004 + 0x400 * h, 3, 0⟩ -- Table 7-10
abbrev HEAD_SETCFG_APPLYLAT (h : Nat) : Fld := ⟨0x3005 + 0x400 * h, 17, 17⟩ -- Table 7-11
abbrev HEAD_SETCFG_STARTSET (h : Nat) : Fld := ⟨0x3005 + 0x400 * h, 16, 15⟩ -- Table 7-11
abbrev HEAD_SETCFG_TLMMAX (h : Nat) : Fld := ⟨0x3005 + 0x400 * h, 3, 0⟩ -- Table 7-11
abbrev HEAD_AINT (h : Nat) : Fld := ⟨0x3006 + 0x400 * h, 15, 0⟩ -- Table 7-12
abbrev HEAD_ABIAS (h : Nat) : Fld := ⟨0x3007 + 0x400 * h, 15, 0⟩ -- Table 7-12
abbrev HEAD_AGAIN (h : Nat) : Fld := ⟨0x3008 + 0x400 * h, 15, 0⟩ -- Table 7-12
abbrev HEAD_ALINK (h : Nat) : Fld := ⟨0x3009 + 0x400 * h, 15, 0⟩ -- Table 7-12
abbrev HEAD_TLMFPA_EN (h : Nat) : Fld := ⟨0x300A + 0x400 * h, 17, 17⟩ -- Table 7-13
abbrev HEAD_TLMFPA_SRC (h : Nat) : Fld := ⟨0x300A + 0x400 * h, 16, 13⟩ -- Table 7-13
abbrev HEAD_TLMFPA_WIDTH (h : Nat) : Fld := ⟨0x300A + 0x400 * h, 12, 11⟩ -- Table 7-13
abbrev HEAD_TLMFPA_BE (h : Nat) : Fld := ⟨0x300A + 0x400 * h, 10, 10⟩ -- Table 7-13
abbrev HEAD_TLMFPA_OFFSET (h : Nat) : Fld := ⟨0x300A + 0x400 * h, 7, 0⟩ -- Table 7-13
abbrev HEAD_TLMSHT_EN (h : Nat) : Fld := ⟨0x300B + 0x400 * h, 17, 17⟩ -- Table 7-13
abbrev HEAD_TLMSHT_SRC (h : Nat) : Fld := ⟨0x300B + 0x400 * h, 16, 13⟩ -- Table 7-13
abbrev HEAD_TLMSHT_WIDTH (h : Nat) : Fld := ⟨0x300B + 0x400 * h, 12, 11⟩ -- Table 7-13
abbrev HEAD_TLMSHT_BE (h : Nat) : Fld := ⟨0x300B + 0x400 * h, 10, 10⟩ -- Table 7-13
abbrev HEAD_TLMSHT_OFFSET (h : Nat) : Fld := ⟨0x300B + 0x400 * h, 7, 0⟩ -- Table 7-13
abbrev HEAD_TLMSET_EN (h : Nat) : Fld := ⟨0x300C + 0x400 * h, 17, 17⟩ -- Table 7-13
abbrev HEAD_TLMSET_SRC (h : Nat) : Fld := ⟨0x300C + 0x400 * h, 16, 13⟩ -- Table 7-13
abbrev HEAD_TLMSET_WIDTH (h : Nat) : Fld := ⟨0x300C + 0x400 * h, 12, 11⟩ -- Table 7-13
abbrev HEAD_TLMSET_BE (h : Nat) : Fld := ⟨0x300C + 0x400 * h, 10, 10⟩ -- Table 7-13
abbrev HEAD_TLMSET_OFFSET (h : Nat) : Fld := ⟨0x300C + 0x400 * h, 7, 0⟩ -- Table 7-13
abbrev HEAD_FPAGAIN (h : Nat) : Fld := ⟨0x300D + 0x400 * h, 17, 0⟩ -- Table 7-14
abbrev HEAD_FPAOFS (h : Nat) : Fld := ⟨0x300E + 0x400 * h, 17, 0⟩ -- Table 7-15
abbrev HEAD_SHTGAIN (h : Nat) : Fld := ⟨0x300F + 0x400 * h, 17, 0⟩ -- Table 7-14
abbrev HEAD_SHTOFS (h : Nat) : Fld := ⟨0x3010 + 0x400 * h, 17, 0⟩ -- Table 7-15
abbrev HEAD_SETINT (h i : Nat) : Fld := ⟨0x3020 + 0x400 * h + 0x4 * i, 15, 0⟩ -- Table 7-16
abbrev HEAD_SETBIAS (h i : Nat) : Fld := ⟨0x3021 + 0x400 * h + 0x4 * i, 15, 0⟩ -- Table 7-16
abbrev HEAD_SETGAIN_CAL (h i : Nat) : Fld := ⟨0x3022 + 0x400 * h + 0x4 * i, 17, 17⟩ -- Table 7-17
abbrev HEAD_SETGAIN_GAIN (h i : Nat) : Fld := ⟨0x3022 + 0x400 * h + 0x4 * i, 7, 0⟩ -- Table 7-17
abbrev HEAD_NEXTSET_MODIFY (h : Nat) : Fld := ⟨0x3030 + 0x400 * h, 17, 17⟩ -- Table 7-18
abbrev HEAD_NEXTSET_TGTAUTO (h : Nat) : Fld := ⟨0x3030 + 0x400 * h, 16, 16⟩ -- Table 7-18
abbrev HEAD_NEXTSET_GAIN (h : Nat) : Fld := ⟨0x3030 + 0x400 * h, 9, 2⟩ -- Table 7-18
abbrev HEAD_NEXTSET_SET (h : Nat) : Fld := ⟨0x3030 + 0x400 * h, 1, 0⟩ -- Table 7-18
abbrev HEAD_NEXTINT (h i : Nat) : Fld := ⟨0x3031 + 0x400 * h + 0x1 * i, 15, 0⟩ -- Table 7-19
abbrev HEAD_NEXTTGT (h i : Nat) : Fld := ⟨0x3033 + 0x400 * h + 0x1 * i, 17, 0⟩ -- Table 7-20
abbrev HEAD_NEXTCTL_CMD (h : Nat) : Fld := ⟨0x3035 + 0x400 * h, 17, 16⟩ -- Table 7-21
abbrev HEAD_NEXTCTL_CSTAT (h : Nat) : Fld := ⟨0x3035 + 0x400 * h, 15, 11⟩ -- Table 7-21
abbrev HEAD_NEXTCTL_CSTAGE (h : Nat) : Fld := ⟨0x3035 + 0x400 * h, 10, 8⟩ -- Table 7-21
abbrev HEAD_APPLIED (h i : Nat) : Fld := ⟨0x3036 + 0x400 * h + 0x1 * i, 17, 0⟩ -- Table 7-22
abbrev HEAD_LINK_NEGSRC (h : Nat) : Fld := ⟨0x3040 + 0x400 * h, 17, 16⟩ -- Table 7-23
abbrev HEAD_LINK_LANES (h : Nat) : Fld := ⟨0x3040 + 0x400 * h, 15, 13⟩ -- Table 7-23
abbrev HEAD_LINK_DT (h : Nat) : Fld := ⟨0x3040 + 0x400 * h, 12, 11⟩ -- Table 7-23
abbrev HEAD_LINK_RATE (h : Nat) : Fld := ⟨0x3040 + 0x400 * h, 8, 0⟩ -- Table 7-23
abbrev HEAD_NEG_NSTAT (h : Nat) : Fld := ⟨0x3041 + 0x400 * h, 17, 13⟩ -- Table 7-24
abbrev HEAD_NEG_NREASON (h : Nat) : Fld := ⟨0x3041 + 0x400 * h, 12, 10⟩ -- Table 7-24
abbrev HEAD_NEG_ATTEMPTS (h : Nat) : Fld := ⟨0x3041 + 0x400 * h, 9, 8⟩ -- Table 7-24
abbrev HEAD_CUR_CAL (h : Nat) : Fld := ⟨0x3042 + 0x400 * h, 2, 2⟩ -- Table 7-25
abbrev HEAD_CUR_SET (h : Nat) : Fld := ⟨0x3042 + 0x400 * h, 1, 0⟩ -- Table 7-25
abbrev HEAD_GEN (h : Nat) : Fld := ⟨0x3043 + 0x400 * h, 17, 0⟩ -- Table 7-26
abbrev HEAD_FSTAT_STATUS (h : Nat) : Fld := ⟨0x3044 + 0x400 * h, 17, 13⟩ -- Table 7-27
abbrev HEAD_FSTAT_L3 (h : Nat) : Fld := ⟨0x3044 + 0x400 * h, 11, 11⟩ -- Table 7-27
abbrev HEAD_FSTAT_NOTSVC (h : Nat) : Fld := ⟨0x3044 + 0x400 * h, 10, 10⟩ -- Table 7-27
abbrev HEAD_FSTAT_OVR (h : Nat) : Fld := ⟨0x3044 + 0x400 * h, 9, 9⟩ -- Table 7-27
abbrev HEAD_FSTAT_NOFS (h : Nat) : Fld := ⟨0x3044 + 0x400 * h, 8, 8⟩ -- Table 7-27
abbrev HEAD_FSTAT_TLM (h : Nat) : Fld := ⟨0x3044 + 0x400 * h, 7, 7⟩ -- Table 7-27
abbrev HEAD_FSTAT_SETMISM (h : Nat) : Fld := ⟨0x3044 + 0x400 * h, 6, 6⟩ -- Table 7-27
abbrev HEAD_FSTAT_FEW (h : Nat) : Fld := ⟨0x3044 + 0x400 * h, 5, 5⟩ -- Table 7-27
abbrev HEAD_FSTAT_SHORTLINE (h : Nat) : Fld := ⟨0x3044 + 0x400 * h, 4, 4⟩ -- Table 7-27
abbrev HEAD_FSTAT_HDR (h : Nat) : Fld := ⟨0x3044 + 0x400 * h, 3, 3⟩ -- Table 7-27
abbrev HEAD_FSTAT_CRC (h : Nat) : Fld := ⟨0x3044 + 0x400 * h, 2, 2⟩ -- Table 7-27
abbrev HEAD_FSTAT_NOFE (h : Nat) : Fld := ⟨0x3044 + 0x400 * h, 1, 1⟩ -- Table 7-27
abbrev HEAD_FSTAT_LONG (h : Nat) : Fld := ⟨0x3044 + 0x400 * h, 0, 0⟩ -- Table 7-27
abbrev HEAD_FPA (h : Nat) : Fld := ⟨0x3045 + 0x400 * h, 17, 0⟩ -- Table 7-28
abbrev HEAD_SHT (h : Nat) : Fld := ⟨0x3046 + 0x400 * h, 17, 0⟩ -- Table 7-28
abbrev HEAD_SHORT (h : Nat) : Fld := ⟨0x3050 + 0x400 * h, 17, 0⟩ -- Table 7-29
abbrev HEAD_LONG (h : Nat) : Fld := ⟨0x3051 + 0x400 * h, 17, 0⟩ -- Table 7-29
abbrev HEAD_DROP (h : Nat) : Fld := ⟨0x3052 + 0x400 * h, 17, 0⟩ -- Table 7-29
abbrev HEAD_NOFS (h : Nat) : Fld := ⟨0x3053 + 0x400 * h, 17, 0⟩ -- Table 7-29
abbrev HEAD_EXTRA (h : Nat) : Fld := ⟨0x3054 + 0x400 * h, 17, 0⟩ -- Table 7-29
abbrev HEAD_ECC1 (h : Nat) : Fld := ⟨0x3055 + 0x400 * h, 17, 0⟩ -- Table 7-29
abbrev HEAD_ECC2 (h : Nat) : Fld := ⟨0x3056 + 0x400 * h, 17, 0⟩ -- Table 7-29
abbrev HEAD_CRC (h : Nat) : Fld := ⟨0x3057 + 0x400 * h, 17, 0⟩ -- Table 7-29
abbrev HEAD_DISC (h : Nat) : Fld := ⟨0x3058 + 0x400 * h, 17, 0⟩ -- Table 7-29
abbrev HEAD_TLMMISS (h : Nat) : Fld := ⟨0x3059 + 0x400 * h, 17, 0⟩ -- Table 7-29
abbrev PE_CTL_RFEN (h : Nat) : Fld := ⟨0x4000 + 0x400 * h, 17, 17⟩ -- Table 8-9
abbrev PE_CTL_TFEN (h : Nat) : Fld := ⟨0x4000 + 0x400 * h, 16, 16⟩ -- Table 8-9
abbrev PE_RPER (h : Nat) : Fld := ⟨0x4001 + 0x400 * h, 17, 0⟩ -- Table 8-10
abbrev PE_RGATE_RGATE (h : Nat) : Fld := ⟨0x4002 + 0x400 * h, 17, 9⟩ -- Table 8-11
abbrev PE_RGATE_RDEAD (h : Nat) : Fld := ⟨0x4002 + 0x400 * h, 8, 0⟩ -- Table 8-11
abbrev PE_RFLAT (h : Nat) : Fld := ⟨0x4003 + 0x400 * h, 17, 0⟩ -- Table 8-12
abbrev PE_TFMLO (h : Nat) : Fld := ⟨0x4004 + 0x400 * h, 17, 0⟩ -- Table 8-13
abbrev PE_TFMHI (h : Nat) : Fld := ⟨0x4005 + 0x400 * h, 17, 0⟩ -- Table 8-13
abbrev PE_TFALPHA (h : Nat) : Fld := ⟨0x4006 + 0x400 * h, 8, 0⟩ -- Table 8-14
abbrev PE_CMD (h : Nat) : Fld := ⟨0x4007 + 0x400 * h, 17, 16⟩ -- Table 8-15
abbrev PE_SREF (h i : Nat) : Fld := ⟨0x4010 + 0x400 * h + 0x1 * i, 17, 0⟩ -- Table 8-16
abbrev PE_TCAL (h i : Nat) : Fld := ⟨0x4014 + 0x400 * h + 0x1 * i, 17, 0⟩ -- Table 8-16
abbrev PE_GT (h i : Nat) : Fld := ⟨0x4080 + 0x400 * h + 0x1 * i, 17, 0⟩ -- Table 8-17
abbrev PE_A1 (h i : Nat) : Fld := ⟨0x4180 + 0x400 * h + 0x1 * i, 17, 0⟩ -- Table 8-17
abbrev PE_A2 (h i : Nat) : Fld := ⟨0x4280 + 0x400 * h + 0x1 * i, 17, 0⟩ -- Table 8-17
abbrev PE_BSTAT_STATUS (h : Nat) : Fld := ⟨0x4020 + 0x400 * h, 17, 13⟩ -- Table 8-18
abbrev PE_BSTAT_RUN (h : Nat) : Fld := ⟨0x4020 + 0x400 * h, 12, 12⟩ -- Table 8-18
abbrev PE_BSTAT_LATE (h : Nat) : Fld := ⟨0x4020 + 0x400 * h, 11, 11⟩ -- Table 8-18
abbrev PE_BSTAT_RING (h : Nat) : Fld := ⟨0x4020 + 0x400 * h, 10, 10⟩ -- Table 8-18
abbrev PE_BSTAT_UECC (h : Nat) : Fld := ⟨0x4020 + 0x400 * h, 9, 9⟩ -- Table 8-18
abbrev PE_BSTAT_FRST (h : Nat) : Fld := ⟨0x4020 + 0x400 * h, 8, 8⟩ -- Table 8-18
abbrev PE_BSTAT_REFINE (h : Nat) : Fld := ⟨0x4020 + 0x400 * h, 7, 7⟩ -- Table 8-18
abbrev PE_BSTAT_CAL (h : Nat) : Fld := ⟨0x4020 + 0x400 * h, 6, 6⟩ -- Table 8-18
abbrev PE_BSTAT_LATEEND (h : Nat) : Fld := ⟨0x4020 + 0x400 * h, 5, 5⟩ -- Table 8-18
abbrev PE_BSTAT_SET (h : Nat) : Fld := ⟨0x4020 + 0x400 * h, 1, 0⟩ -- Table 8-18
abbrev PE_BFRAME (h i : Nat) : Fld := ⟨0x4021 + 0x400 * h + 0x1 * i, 17, 0⟩ -- Table 8-19
abbrev PE_BTIME (h : Nat) : Fld := ⟨0x4023 + 0x400 * h, 17, 0⟩ -- Table 8-20
abbrev PE_BMAX (h : Nat) : Fld := ⟨0x4024 + 0x400 * h, 17, 0⟩ -- Table 8-20
abbrev PE_RACT (h : Nat) : Fld := ⟨0x4025 + 0x400 * h, 17, 0⟩ -- Table 8-21
abbrev PE_SAT (h : Nat) : Fld := ⟨0x4026 + 0x400 * h, 17, 0⟩ -- Table 8-21
abbrev PE_LATE (h : Nat) : Fld := ⟨0x4030 + 0x400 * h, 17, 0⟩ -- Table 8-22
abbrev PE_RING (h : Nat) : Fld := ⟨0x4031 + 0x400 * h, 17, 0⟩ -- Table 8-22
abbrev PE_CECC (h : Nat) : Fld := ⟨0x4032 + 0x400 * h, 17, 0⟩ -- Table 8-22
abbrev PE_UECC (h : Nat) : Fld := ⟨0x4033 + 0x400 * h, 17, 0⟩ -- Table 8-22
abbrev SHUT_CRCFG_EN : Fld := ⟨0x5000, 17, 17⟩ -- Table 9-8
abbrev SHUT_CRCFG_REPLAN : Fld := ⟨0x5000, 16, 16⟩ -- Table 9-8
abbrev SHUT_CRCFG_CRTIME : Fld := ⟨0x5000, 10, 0⟩ -- Table 9-8
abbrev SHUT_CRSTAT_STATUS : Fld := ⟨0x5001, 17, 13⟩ -- Table 9-9
abbrev SHUT_CRSTAT_HEAD : Fld := ⟨0x5001, 9, 8⟩ -- Table 9-9
abbrev SHUT_CRSTAT_RUN : Fld := ⟨0x5001, 7, 7⟩ -- Table 9-9
abbrev SHUT_CFG_EN (i : Nat) : Fld := ⟨0x5040 + 0x20 * i, 17, 17⟩ -- Table 9-10
abbrev SHUT_CFG_VLV (i : Nat) : Fld := ⟨0x5040 + 0x20 * i, 16, 14⟩ -- Table 9-10
abbrev SHUT_CFG_TCLOSE (i : Nat) : Fld := ⟨0x5040 + 0x20 * i, 13, 7⟩ -- Table 9-10
abbrev SHUT_CFG_TOPEN (i : Nat) : Fld := ⟨0x5040 + 0x20 * i, 6, 0⟩ -- Table 9-10
abbrev SHUT_SEQ_NSETTLE (i : Nat) : Fld := ⟨0x5041 + 0x20 * i, 17, 14⟩ -- Table 9-11
abbrev SHUT_SEQ_NAVG (i : Nat) : Fld := ⟨0x5041 + 0x20 * i, 13, 12⟩ -- Table 9-11
abbrev SHUT_SEQ_STARTCAL (i : Nat) : Fld := ⟨0x5041 + 0x20 * i, 11, 11⟩ -- Table 9-11
abbrev SHUT_SEQ_TMASK (i : Nat) : Fld := ⟨0x5041 + 0x20 * i, 3, 0⟩ -- Table 9-11
abbrev SHUT_TMIN (i : Nat) : Fld := ⟨0x5042 + 0x20 * i, 15, 0⟩ -- Table 9-12
abbrev SHUT_TMAX (i : Nat) : Fld := ⟨0x5043 + 0x20 * i, 15, 0⟩ -- Table 9-12
abbrev SHUT_BLIND_BLTHR (i : Nat) : Fld := ⟨0x5044 + 0x20 * i, 17, 10⟩ -- Table 9-13
abbrev SHUT_BLIND_BLSTAND (i : Nat) : Fld := ⟨0x5044 + 0x20 * i, 9, 0⟩ -- Table 9-13
abbrev SHUT_RATHR (i : Nat) : Fld := ⟨0x5045 + 0x20 * i, 17, 0⟩ -- Table 9-15
abbrev SHUT_FPATHR (i : Nat) : Fld := ⟨0x5046 + 0x20 * i, 13, 0⟩ -- Table 9-14
abbrev SHUT_UNIF (i : Nat) : Fld := ⟨0x5047 + 0x20 * i, 17, 0⟩ -- Table 9-15
abbrev SHUT_CMD_CMD (i : Nat) : Fld := ⟨0x5048 + 0x20 * i, 17, 16⟩ -- Table 9-16
abbrev SHUT_CMD_CSTAT (i : Nat) : Fld := ⟨0x5048 + 0x20 * i, 15, 11⟩ -- Table 9-16
abbrev SHUT_STAT_PHASE (i : Nat) : Fld := ⟨0x5049 + 0x20 * i, 17, 15⟩ -- Table 9-17
abbrev SHUT_STAT_STATUS (i : Nat) : Fld := ⟨0x5049 + 0x20 * i, 14, 10⟩ -- Table 9-17
abbrev SHUT_STAT_CAUSE (i : Nat) : Fld := ⟨0x5049 + 0x20 * i, 9, 4⟩ -- Table 9-17
abbrev SHUT_STAT_PEND (i : Nat) : Fld := ⟨0x5049 + 0x20 * i, 3, 3⟩ -- Table 9-17
abbrev SHUT_STAT_PARTIAL (i : Nat) : Fld := ⟨0x5049 + 0x20 * i, 2, 2⟩ -- Table 9-17
abbrev SHUT_ELAPSED (i : Nat) : Fld := ⟨0x504A + 0x20 * i, 17, 0⟩ -- Table 9-21
abbrev SHUT_BLRES (i : Nat) : Fld := ⟨0x504B + 0x20 * i, 17, 0⟩ -- Table 9-21
abbrev SHUT_LASTF0 (i : Nat) : Fld := ⟨0x504C + 0x20 * i, 17, 0⟩ -- Table 9-21
abbrev SHUT_LASTF1 (i : Nat) : Fld := ⟨0x504D + 0x20 * i, 17, 0⟩ -- Table 9-21
abbrev SHUT_TSHUT (i : Nat) : Fld := ⟨0x504E + 0x20 * i, 17, 0⟩ -- Table 9-21
abbrev SHUT_CLIP (i : Nat) : Fld := ⟨0x504F + 0x20 * i, 17, 0⟩ -- Table 9-21
abbrev SHUT_EPS (i : Nat) : Fld := ⟨0x5050 + 0x20 * i, 17, 0⟩ -- Table 9-15
abbrev SHUT_TREFL (i : Nat) : Fld := ⟨0x5051 + 0x20 * i, 17, 0⟩ -- Table 9-15
abbrev SHUT_ARCH0_ARCHCS (i : Nat) : Fld := ⟨0x5052 + 0x20 * i, 17, 17⟩ -- Table 9-18
abbrev SHUT_ARCH0_BASE (i : Nat) : Fld := ⟨0x5052 + 0x20 * i, 11, 0⟩ -- Table 9-18
abbrev SHUT_ARCH1_SLOTS (i : Nat) : Fld := ⟨0x5053 + 0x20 * i, 17, 15⟩ -- Table 9-19
abbrev SHUT_ARCH1_ASTAT (i : Nat) : Fld := ⟨0x5053 + 0x20 * i, 14, 10⟩ -- Table 9-19
abbrev SHUT_ARCH1_SLOTSZ (i : Nat) : Fld := ⟨0x5053 + 0x20 * i, 7, 0⟩ -- Table 9-19
abbrev SHUT_NETDT (i : Nat) : Fld := ⟨0x5054 + 0x20 * i, 9, 0⟩ -- Table 9-20
abbrev SHUT_NETD (i : Nat) : Fld := ⟨0x5055 + 0x20 * i, 17, 0⟩ -- Table 9-21
abbrev SHUT_NEWSNAG (i : Nat) : Fld := ⟨0x5056 + 0x20 * i, 17, 0⟩ -- Table 9-21
abbrev SHUT_RESP (i : Nat) : Fld := ⟨0x5057 + 0x20 * i, 17, 0⟩ -- Table 9-21
abbrev SHUT_CVB (i j : Nat) : Fld := ⟨0x5200 + 0x40 * i + 0x10 * j, 17, 0⟩ -- Table 9-22
abbrev SHUT_CVR0 (i j : Nat) : Fld := ⟨0x5201 + 0x40 * i + 0x10 * j, 17, 0⟩ -- Table 9-22
abbrev SHUT_CVR1 (i j : Nat) : Fld := ⟨0x5202 + 0x40 * i + 0x10 * j, 17, 0⟩ -- Table 9-22
abbrev SHUT_CVF (i j : Nat) : Fld := ⟨0x5203 + 0x40 * i + 0x10 * j, 17, 0⟩ -- Table 9-22
abbrev SHUT_CVO (i j : Nat) : Fld := ⟨0x5204 + 0x40 * i + 0x10 * j, 17, 0⟩ -- Table 9-22
abbrev SHUT_TLO (i j : Nat) : Fld := ⟨0x5205 + 0x40 * i + 0x10 * j, 17, 0⟩ -- Table 9-22
abbrev SHUT_THI (i j : Nat) : Fld := ⟨0x5206 + 0x40 * i + 0x10 * j, 17, 0⟩ -- Table 9-22
abbrev SHUT_WLO (i j : Nat) : Fld := ⟨0x5207 + 0x40 * i + 0x10 * j, 17, 0⟩ -- Table 9-22
abbrev SHUT_WSCL (i j : Nat) : Fld := ⟨0x5208 + 0x40 * i + 0x10 * j, 17, 0⟩ -- Table 9-22
abbrev SHUT_TABST (i j : Nat) : Fld := ⟨0x5209 + 0x40 * i + 0x10 * j, 17, 13⟩ -- Table 9-23
abbrev STAND_SSEL : Fld := ⟨0x5400, 9, 0⟩ -- Table 10-7
abbrev STAND_RSEL_RSTAT : Fld := ⟨0x5408, 14, 10⟩ -- Table 10-11
abbrev STAND_RSEL_STAND : Fld := ⟨0x5408, 9, 0⟩ -- Table 10-11
abbrev STAND_REC (i : Nat) : Fld := ⟨0x5410 + 0x1 * i, 17, 0⟩ -- Table 10-12
abbrev STAND_FOREIGN : Fld := ⟨0x5430, 17, 0⟩ -- Table 10-13
abbrev STAND_UECC : Fld := ⟨0x5431, 17, 0⟩ -- Table 10-13
abbrev STAND_TZCFG : Fld := ⟨0x5440, 3, 0⟩ -- Table 10-14
abbrev STAND_TZ (i : Nat) : Fld := ⟨0x5680 + 0x1 * i, 17, 0⟩ -- Table 10-15
abbrev STAND_SCFG0_EN (st : Nat) : Fld := ⟨0x20000 + 0x8 * st, 17, 17⟩ -- Table 10-8
abbrev STAND_SCFG0_OCCEN (st : Nat) : Fld := ⟨0x20000 + 0x8 * st, 16, 16⟩ -- Table 10-8
abbrev STAND_SCFG0_HEAD (st : Nat) : Fld := ⟨0x20000 + 0x8 * st, 15, 14⟩ -- Table 10-8
abbrev STAND_SCFG0_PMASK (st : Nat) : Fld := ⟨0x20000 + 0x8 * st, 6, 0⟩ -- Table 10-8
abbrev STAND_SCFG_EPS (st : Nat) : Fld := ⟨0x20001 + 0x8 * st, 17, 0⟩ -- Table 10-9
abbrev STAND_SCFG_TREFL (st : Nat) : Fld := ⟨0x20002 + 0x8 * st, 17, 0⟩ -- Table 10-9
abbrev STAND_SCFG_HLO (st : Nat) : Fld := ⟨0x20003 + 0x8 * st, 17, 0⟩ -- Table 10-9
abbrev STAND_SCFG_HHI (st : Nat) : Fld := ⟨0x20004 + 0x8 * st, 17, 0⟩ -- Table 10-9
abbrev STAND_SCFG5 (st : Nat) : Fld := ⟨0x20005 + 0x8 * st, 11, 0⟩ -- Table 10-10
abbrev OCC_CFG_EN (i : Nat) : Fld := ⟨0x5800 + 0x20 * i, 17, 17⟩ -- Table 10-16
abbrev OCC_CFG_BSH (i : Nat) : Fld := ⟨0x5800 + 0x20 * i, 16, 13⟩ -- Table 10-16
abbrev OCC_CFG_BPER (i : Nat) : Fld := ⟨0x5800 + 0x20 * i, 12, 5⟩ -- Table 10-16
abbrev OCC_FGTHR (i : Nat) : Fld := ⟨0x5801 + 0x20 * i, 17, 0⟩ -- Table 10-17
abbrev OCC_SKINLO (i : Nat) : Fld := ⟨0x5802 + 0x20 * i, 17, 0⟩ -- Table 10-17
abbrev OCC_SKINHI (i : Nat) : Fld := ⟨0x5803 + 0x20 * i, 17, 0⟩ -- Table 10-17
abbrev OCC_AREA_AUNIT (i : Nat) : Fld := ⟨0x5804 + 0x20 * i, 17, 9⟩ -- Table 10-18
abbrev OCC_AREA_AMIN (i : Nat) : Fld := ⟨0x5804 + 0x20 * i, 8, 0⟩ -- Table 10-18
abbrev OCC_TRK_DGATE (i : Nat) : Fld := ⟨0x5805 + 0x20 * i, 17, 9⟩ -- Table 10-19
abbrev OCC_TRK_TLOST (i : Nat) : Fld := ⟨0x5805 + 0x20 * i, 8, 0⟩ -- Table 10-19
abbrev OCC_VACHOLD (i : Nat) : Fld := ⟨0x5806 + 0x20 * i, 15, 0⟩ -- Table 10-20
abbrev OCC_CMD (i : Nat) : Fld := ⟨0x5807 + 0x20 * i, 17, 16⟩ -- Table 10-21
abbrev OCC_FSTAT_STATUS (i : Nat) : Fld := ⟨0x5808 + 0x20 * i, 17, 13⟩ -- Table 10-22
abbrev OCC_FSTAT_SEED (i : Nat) : Fld := ⟨0x5808 + 0x20 * i, 12, 12⟩ -- Table 10-22
abbrev OCC_FSTAT_BLOBOVF (i : Nat) : Fld := ⟨0x5808 + 0x20 * i, 11, 11⟩ -- Table 10-22
abbrev OCC_FSTAT_LBLOVF (i : Nat) : Fld := ⟨0x5808 + 0x20 * i, 10, 10⟩ -- Table 10-22
abbrev OCC_FSTAT_TRKOVF (i : Nat) : Fld := ⟨0x5808 + 0x20 * i, 9, 9⟩ -- Table 10-22
abbrev OCC_FSTAT_NBLOB (i : Nat) : Fld := ⟨0x5808 + 0x20 * i, 8, 0⟩ -- Table 10-22
abbrev OCC_TRACKS (i : Nat) : Fld := ⟨0x5809 + 0x20 * i, 7, 0⟩ -- Table 10-23
abbrev OCC_FRAME0 (i : Nat) : Fld := ⟨0x580A + 0x20 * i, 17, 0⟩ -- Table 10-24
abbrev OCC_FRAME1 (i : Nat) : Fld := ⟨0x580B + 0x20 * i, 17, 0⟩ -- Table 10-24
abbrev OCC_BOVF (i : Nat) : Fld := ⟨0x580C + 0x20 * i, 17, 0⟩ -- Table 10-25
abbrev OCC_TOVF (i : Nat) : Fld := ⟨0x580D + 0x20 * i, 17, 0⟩ -- Table 10-25
abbrev OCC_LOVF (i : Nat) : Fld := ⟨0x580E + 0x20 * i, 17, 0⟩ -- Table 10-25
abbrev OCC_BSEL_HEAD : Fld := ⟨0x5900, 9, 8⟩ -- Table 10-26
abbrev OCC_BSEL_BLOB : Fld := ⟨0x5900, 7, 0⟩ -- Table 10-26
abbrev OCC_BCAP_STATUS : Fld := ⟨0x5901, 17, 13⟩ -- Table 10-27
abbrev OCC_BCAP_FRAME : Fld := ⟨0x5901, 7, 0⟩ -- Table 10-27
abbrev OCC_BREC (i : Nat) : Fld := ⟨0x5910 + 0x1 * i, 17, 0⟩ -- Table 10-28
abbrev CTX_LINK_LANES : Fld := ⟨0x5C00, 17, 16⟩ -- Table 10-29
abbrev CTX_LINK_CKCONT : Fld := ⟨0x5C00, 15, 15⟩ -- Table 10-29
abbrev CTX_LINK_RATE : Fld := ⟨0x5C00, 8, 0⟩ -- Table 10-29
abbrev CTX_HCFG_EXPIMG (i : Nat) : Fld := ⟨0x5C01 + 0x1 * i, 17, 17⟩ -- Table 10-30
abbrev CTX_HCFG_EXPSTAT (i : Nat) : Fld := ⟨0x5C01 + 0x1 * i, 16, 16⟩ -- Table 10-30
abbrev CTX_HCFG_EXPOCC (i : Nat) : Fld := ⟨0x5C01 + 0x1 * i, 15, 15⟩ -- Table 10-30
abbrev CTX_HCFG_DT (i : Nat) : Fld := ⟨0x5C01 + 0x1 * i, 14, 14⟩ -- Table 10-30
abbrev CTX_HCFG_VC (i : Nat) : Fld := ⟨0x5C01 + 0x1 * i, 13, 12⟩ -- Table 10-30
abbrev CTX_STAT_SENDING : Fld := ⟨0x5C08, 17, 17⟩ -- Table 10-31
abbrev CTX_STAT_HEAD : Fld := ⟨0x5C08, 16, 15⟩ -- Table 10-31
abbrev CTX_FRAMES : Fld := ⟨0x5C09, 17, 0⟩ -- Table 10-32
abbrev CTX_TRUNC : Fld := ⟨0x5C0A, 17, 0⟩ -- Table 10-32
abbrev CTX_NOIMG : Fld := ⟨0x5C0B, 17, 0⟩ -- Table 10-32
abbrev CTX_PRIV_PRIV : Fld := ⟨0x5C0C, 17, 17⟩ -- Table 10-33
abbrev CTX_PRIV_PRIVF : Fld := ⟨0x5C0C, 16, 16⟩ -- Table 10-33
abbrev CTX_PRIV_PRIVI : Fld := ⟨0x5C0C, 15, 15⟩ -- Table 10-33
abbrev CTX_PRIV_LASTPATH : Fld := ⟨0x5C0C, 2, 0⟩ -- Table 10-33
abbrev CTX_LOCKCNT : Fld := ⟨0x5C0D, 17, 0⟩ -- Table 10-34
abbrev CMP_JOP_OP : Fld := ⟨0x6000, 17, 16⟩ -- Table 17-7
abbrev CMP_JOP_SRCMEM : Fld := ⟨0x6000, 15, 14⟩ -- Table 17-7
abbrev CMP_JOP_DSTMEM : Fld := ⟨0x6000, 13, 12⟩ -- Table 17-7
abbrev CMP_JOP_KIND : Fld := ⟨0x6000, 11, 8⟩ -- Table 17-7
abbrev CMP_JOP_HEAD : Fld := ⟨0x6000, 7, 6⟩ -- Table 17-7
abbrev CMP_JOP_FLCS : Fld := ⟨0x6000, 5, 5⟩ -- Table 17-7
abbrev CMP_JOP_APPEND : Fld := ⟨0x6000, 4, 4⟩ -- Table 17-7
abbrev CMP_JOP_PRED : Fld := ⟨0x6000, 2, 0⟩ -- Table 17-7
abbrev CMP_JFMT_BITS : Fld := ⟨0x6001, 17, 13⟩ -- Table 17-8
abbrev CMP_JFMT_SIGNED : Fld := ⟨0x6001, 12, 12⟩ -- Table 17-8
abbrev CMP_JFMT_BLKLINES : Fld := ⟨0x6001, 7, 0⟩ -- Table 17-8
abbrev CMP_JWIDTH : Fld := ⟨0x6002, 15, 0⟩ -- Table 17-9
abbrev CMP_JHEIGHT : Fld := ⟨0x6003, 15, 0⟩ -- Table 17-9
abbrev CMP_JSRC0 : Fld := ⟨0x6004, 17, 0⟩ -- Table 17-10
abbrev CMP_JSLEN0 : Fld := ⟨0x6006, 17, 0⟩ -- Table 17-10
abbrev CMP_JDST0 : Fld := ⟨0x6008, 17, 0⟩ -- Table 17-10
abbrev CMP_JDCAP0 : Fld := ⟨0x600A, 17, 0⟩ -- Table 17-10
abbrev CMP_JSRC1 : Fld := ⟨0x6005, 9, 0⟩ -- Table 17-10
abbrev CMP_JSLEN1 : Fld := ⟨0x6007, 9, 0⟩ -- Table 17-10
abbrev CMP_JDST1 : Fld := ⟨0x6009, 9, 0⟩ -- Table 17-10
abbrev CMP_JDCAP1 : Fld := ⟨0x600B, 9, 0⟩ -- Table 17-10
abbrev CMP_JCMD_CMD : Fld := ⟨0x600C, 17, 16⟩ -- Table 17-11
abbrev CMP_JCMD_TID : Fld := ⟨0x600C, 7, 0⟩ -- Table 17-11
abbrev CMP_JRES_CSTAT : Fld := ⟨0x600D, 17, 13⟩ -- Table 17-12
abbrev CMP_JRES_LASTID : Fld := ⟨0x600D, 7, 0⟩ -- Table 17-12
abbrev CMP_QSTAT_RUN : Fld := ⟨0x6010, 17, 17⟩ -- Table 17-13
abbrev CMP_QSTAT_PAUSED : Fld := ⟨0x6010, 16, 16⟩ -- Table 17-13
abbrev CMP_QSTAT_QLEN : Fld := ⟨0x6010, 12, 8⟩ -- Table 17-13
abbrev CMP_QSTAT_RUNID : Fld := ⟨0x6010, 7, 0⟩ -- Table 17-13
abbrev CMP_LGEN : Fld := ⟨0x6011, 17, 0⟩ -- Table 17-14
abbrev CMP_LBASE : Fld := ⟨0x6012, 17, 0⟩ -- Table 17-14
abbrev CMP_PROG0 : Fld := ⟨0x6013, 17, 0⟩ -- Table 17-14
abbrev CMP_PROG1 : Fld := ⟨0x6014, 9, 0⟩ -- Table 17-14
abbrev CMP_OPTRW0 : Fld := ⟨0x6018, 17, 0⟩ -- Table 17-15
abbrev CMP_OPTRL0 : Fld := ⟨0x601A, 17, 0⟩ -- Table 17-15
abbrev CMP_OPTRF0 : Fld := ⟨0x601C, 17, 0⟩ -- Table 17-15
abbrev CMP_OPTRW1 : Fld := ⟨0x6019, 9, 0⟩ -- Table 17-15
abbrev CMP_OPTRL1 : Fld := ⟨0x601B, 9, 0⟩ -- Table 17-15
abbrev CMP_OPTRF1 : Fld := ⟨0x601D, 9, 0⟩ -- Table 17-15
abbrev CMP_RSEL : Fld := ⟨0x6020, 7, 0⟩ -- Table 17-16
abbrev CMP_RSTAT_STATUS : Fld := ⟨0x6021, 17, 13⟩ -- Table 17-17
abbrev CMP_RSTAT_STORED : Fld := ⟨0x6021, 12, 12⟩ -- Table 17-17
abbrev CMP_RSTAT_BUCKED : Fld := ⟨0x6021, 11, 11⟩ -- Table 17-17
abbrev CMP_RSTAT_RESTARTS : Fld := ⟨0x6021, 10, 8⟩ -- Table 17-17
abbrev CMP_RSTAT_JOBID : Fld := ⟨0x6021, 7, 0⟩ -- Table 17-17
abbrev CMP_ROUT0 : Fld := ⟨0x6022, 17, 0⟩ -- Table 17-18
abbrev CMP_ROUT1 : Fld := ⟨0x6023, 17, 0⟩ -- Table 17-18
abbrev CMP_RIN0 : Fld := ⟨0x6024, 17, 0⟩ -- Table 17-18
abbrev CMP_RIN1 : Fld := ⟨0x6025, 17, 0⟩ -- Table 17-18
abbrev CMP_RLGEN : Fld := ⟨0x6026, 17, 0⟩ -- Table 17-18
abbrev CMP_REFCNT : Fld := ⟨0x6030, 17, 0⟩ -- Table 17-19
abbrev CMP_RESTART : Fld := ⟨0x6031, 17, 0⟩ -- Table 17-19
abbrev CTL_SSTAT_STATE (c i : Nat) : Fld := ⟨0x6400 + 0x400 * c + 0x1 * i, 17, 15⟩ -- Table 11-7
abbrev CTL_SSTAT_MISSED (c i : Nat) : Fld := ⟨0x6400 + 0x400 * c + 0x1 * i, 14, 14⟩ -- Table 11-7
abbrev CTL_SSTAT_SAT (c i : Nat) : Fld := ⟨0x6400 + 0x400 * c + 0x1 * i, 13, 13⟩ -- Table 11-7
abbrev CTL_SSTAT_BUMP (c i : Nat) : Fld := ⟨0x6400 + 0x400 * c + 0x1 * i, 12, 12⟩ -- Table 11-7
abbrev CTL_SSTAT_MISSIN (c i : Nat) : Fld := ⟨0x6400 + 0x400 * c + 0x1 * i, 11, 10⟩ -- Table 11-7
abbrev CTL_SSTAT_SATDIR (c i : Nat) : Fld := ⟨0x6400 + 0x400 * c + 0x1 * i, 9, 9⟩ -- Table 11-7
abbrev CTL_SSTAT_CMISS (c i : Nat) : Fld := ⟨0x6400 + 0x400 * c + 0x1 * i, 7, 0⟩ -- Table 11-7
abbrev CTL_MISSCNT (c i : Nat) : Fld := ⟨0x6500 + 0x400 * c + 0x1 * i, 17, 0⟩ -- Table 11-8
abbrev CTL_SSEL (c : Nat) : Fld := ⟨0x6600 + 0x400 * c, 7, 0⟩ -- Table 11-9
abbrev CTL_SCMD_CMD (c : Nat) : Fld := ⟨0x6601 + 0x400 * c, 17, 15⟩ -- Table 11-10
abbrev CTL_SCMD_CSTAT (c : Nat) : Fld := ⟨0x6601 + 0x400 * c, 14, 10⟩ -- Table 11-10
abbrev CTL_SCMD_CSLOT (c : Nat) : Fld := ⟨0x6601 + 0x400 * c, 7, 0⟩ -- Table 11-10
abbrev CTL_LOAD (c : Nat) : Fld := ⟨0x6602 + 0x400 * c, 8, 0⟩ -- Table 11-11
abbrev CTL_UTIL (c : Nat) : Fld := ⟨0x6603 + 0x400 * c, 9, 0⟩ -- Table 11-11
abbrev CTL_TMISS (c : Nat) : Fld := ⟨0x6604 + 0x400 * c, 17, 0⟩ -- Table 11-11
abbrev CTL_NTRIP (c : Nat) : Fld := ⟨0x6605 + 0x400 * c, 17, 0⟩ -- Table 12-11
abbrev CTL_MODE_MODE (l : Nat) : Fld := ⟨0x10000 + 0x40 * l, 17, 17⟩ -- Table 11-12
abbrev CTL_MODE_INT (l : Nat) : Fld := ⟨0x10000 + 0x40 * l, 16, 16⟩ -- Table 11-12
abbrev CTL_MODE_CLASS (l : Nat) : Fld := ⟨0x10000 + 0x40 * l, 15, 15⟩ -- Table 11-12
abbrev CTL_MODE_K (l : Nat) : Fld := ⟨0x10000 + 0x40 * l, 14, 10⟩ -- Table 11-12
abbrev CTL_MODE_INIT (l : Nat) : Fld := ⟨0x10000 + 0x40 * l, 9, 7⟩ -- Table 11-12
abbrev CTL_MODE_PHASE (l : Nat) : Fld := ⟨0x10000 + 0x40 * l, 1, 0⟩ -- Table 11-12
abbrev CTL_PHASE (l : Nat) : Fld := ⟨0x10001 + 0x40 * l, 17, 0⟩ -- Table 11-13
abbrev CTL_OUTPT_OUTEN (l : Nat) : Fld := ⟨0x10002 + 0x40 * l, 17, 17⟩ -- Table 11-14
abbrev CTL_OUTPT_POINT (l : Nat) : Fld := ⟨0x10002 + 0x40 * l, 11, 0⟩ -- Table 11-14
abbrev CTL_OLO (l : Nat) : Fld := ⟨0x10003 + 0x40 * l, 17, 0⟩ -- Table 11-15
abbrev CTL_OHI (l : Nat) : Fld := ⟨0x10004 + 0x40 * l, 17, 0⟩ -- Table 11-15
abbrev CTL_EXP_EB (l : Nat) : Fld := ⟨0x10005 + 0x40 * l, 11, 6⟩ -- Table 11-15
abbrev CTL_EXP_EF (l : Nat) : Fld := ⟨0x10005 + 0x40 * l, 5, 0⟩ -- Table 11-15
abbrev CTL_B0 (l : Nat) : Fld := ⟨0x10006 + 0x40 * l, 17, 0⟩ -- Table 11-15
abbrev CTL_B1 (l : Nat) : Fld := ⟨0x10007 + 0x40 * l, 17, 0⟩ -- Table 11-15
abbrev CTL_B2 (l : Nat) : Fld := ⟨0x10008 + 0x40 * l, 17, 0⟩ -- Table 11-15
abbrev CTL_A1 (l : Nat) : Fld := ⟨0x10009 + 0x40 * l, 17, 0⟩ -- Table 11-15
abbrev CTL_A2 (l : Nat) : Fld := ⟨0x1000A + 0x40 * l, 17, 0⟩ -- Table 11-15
abbrev CTL_C0 (l : Nat) : Fld := ⟨0x1000B + 0x40 * l, 17, 0⟩ -- Table 11-15
abbrev CTL_C1 (l : Nat) : Fld := ⟨0x1000C + 0x40 * l, 17, 0⟩ -- Table 11-15
abbrev CTL_D1 (l : Nat) : Fld := ⟨0x1000D + 0x40 * l, 17, 0⟩ -- Table 11-15
abbrev CTL_IN0CFG_EN (l : Nat) : Fld := ⟨0x10010 + 0x40 * l, 17, 17⟩ -- Table 11-16
abbrev CTL_IN0CFG_FREQ (l : Nat) : Fld := ⟨0x10010 + 0x40 * l, 16, 16⟩ -- Table 11-16
abbrev CTL_IN0CFG_POINT (l : Nat) : Fld := ⟨0x10010 + 0x40 * l, 11, 0⟩ -- Table 11-16
abbrev CTL_IN0OFS (l : Nat) : Fld := ⟨0x10011 + 0x40 * l, 17, 0⟩ -- Table 11-17
abbrev CTL_IN0SCL (l : Nat) : Fld := ⟨0x10012 + 0x40 * l, 17, 0⟩ -- Table 11-17
abbrev CTL_IN0SH (l : Nat) : Fld := ⟨0x10013 + 0x40 * l, 4, 0⟩ -- Table 11-18
abbrev CTL_IN0ALW (l : Nat) : Fld := ⟨0x10014 + 0x40 * l, 15, 0⟩ -- Table 11-19
abbrev CTL_IN1CFG_EN (l : Nat) : Fld := ⟨0x10015 + 0x40 * l, 17, 17⟩ -- Table 11-16
abbrev CTL_IN1CFG_FREQ (l : Nat) : Fld := ⟨0x10015 + 0x40 * l, 16, 16⟩ -- Table 11-16
abbrev CTL_IN1CFG_POINT (l : Nat) : Fld := ⟨0x10015 + 0x40 * l, 11, 0⟩ -- Table 11-16
abbrev CTL_IN1OFS (l : Nat) : Fld := ⟨0x10016 + 0x40 * l, 17, 0⟩ -- Table 11-17
abbrev CTL_IN1SCL (l : Nat) : Fld := ⟨0x10017 + 0x40 * l, 17, 0⟩ -- Table 11-17
abbrev CTL_IN1SH (l : Nat) : Fld := ⟨0x10018 + 0x40 * l, 4, 0⟩ -- Table 11-18
abbrev CTL_IN1ALW (l : Nat) : Fld := ⟨0x10019 + 0x40 * l, 15, 0⟩ -- Table 11-19
abbrev CTL_IN2CFG_EN (l : Nat) : Fld := ⟨0x1001A + 0x40 * l, 17, 17⟩ -- Table 11-16
abbrev CTL_IN2CFG_FREQ (l : Nat) : Fld := ⟨0x1001A + 0x40 * l, 16, 16⟩ -- Table 11-16
abbrev CTL_IN2CFG_POINT (l : Nat) : Fld := ⟨0x1001A + 0x40 * l, 11, 0⟩ -- Table 11-16
abbrev CTL_IN2OFS (l : Nat) : Fld := ⟨0x1001B + 0x40 * l, 17, 0⟩ -- Table 11-17
abbrev CTL_IN2SCL (l : Nat) : Fld := ⟨0x1001C + 0x40 * l, 17, 0⟩ -- Table 11-17
abbrev CTL_IN2SH (l : Nat) : Fld := ⟨0x1001D + 0x40 * l, 4, 0⟩ -- Table 11-18
abbrev CTL_IN2ALW (l : Nat) : Fld := ⟨0x1001E + 0x40 * l, 15, 0⟩ -- Table 11-19
abbrev CTL_MOUT (l : Nat) : Fld := ⟨0x10020 + 0x40 * l, 17, 0⟩ -- Table 11-20
abbrev CTL_OUT (l : Nat) : Fld := ⟨0x10021 + 0x40 * l, 17, 0⟩ -- Table 11-21
abbrev CTL_SPLAST (l : Nat) : Fld := ⟨0x10022 + 0x40 * l, 17, 0⟩ -- Table 11-21
abbrev CTL_I0 (l : Nat) : Fld := ⟨0x10023 + 0x40 * l, 17, 0⟩ -- Table 11-22
abbrev CTL_I1 (l : Nat) : Fld := ⟨0x10024 + 0x40 * l, 17, 0⟩ -- Table 11-22
abbrev CTL_I2 (l : Nat) : Fld := ⟨0x10025 + 0x40 * l, 11, 0⟩ -- Table 11-22
abbrev CTL_SUPCFG_ACTION (l : Nat) : Fld := ⟨0x10030 + 0x40 * l, 17, 16⟩ -- Table 12-7
abbrev CTL_SUPCFG_GROUP (l : Nat) : Fld := ⟨0x10030 + 0x40 * l, 15, 12⟩ -- Table 12-7
abbrev CTL_SUPCFG_GPROP (l : Nat) : Fld := ⟨0x10030 + 0x40 * l, 11, 11⟩ -- Table 12-7
abbrev CTL_SUPCFG_MISSLIM (l : Nat) : Fld := ⟨0x10030 + 0x40 * l, 7, 0⟩ -- Table 12-7
abbrev CTL_FELIM (l : Nat) : Fld := ⟨0x10031 + 0x40 * l, 17, 0⟩ -- Table 12-8
abbrev CTL_FETIME (l : Nat) : Fld := ⟨0x10032 + 0x40 * l, 15, 0⟩ -- Table 12-9
abbrev CTL_SAFEVAL (l : Nat) : Fld := ⟨0x10033 + 0x40 * l, 17, 0⟩ -- Table 12-8
abbrev CTL_SUPSTAT_TCAUSE (l : Nat) : Fld := ⟨0x10034 + 0x40 * l, 17, 16⟩ -- Table 12-10
abbrev CTL_SUPSTAT_FECNT (l : Nat) : Fld := ⟨0x10034 + 0x40 * l, 15, 0⟩ -- Table 12-10
abbrev PRF_CFG_EN (i : Nat) : Fld := ⟨0x6C00 + 0x8 * i, 17, 17⟩ -- Table 12-12
abbrev PRF_CFG_K (i : Nat) : Fld := ⟨0x6C00 + 0x8 * i, 16, 12⟩ -- Table 12-12
abbrev PRF_CFG_PHASE (i : Nat) : Fld := ⟨0x6C00 + 0x8 * i, 1, 0⟩ -- Table 12-12
abbrev PRF_PHASE (i : Nat) : Fld := ⟨0x6C01 + 0x8 * i, 17, 0⟩ -- Table 12-13
abbrev PRF_TGT (i : Nat) : Fld := ⟨0x6C02 + 0x8 * i, 11, 0⟩ -- Table 12-14
abbrev PRF_OUT (i : Nat) : Fld := ⟨0x6C03 + 0x8 * i, 11, 0⟩ -- Table 12-14
abbrev PRF_VMAX (i : Nat) : Fld := ⟨0x6C04 + 0x8 * i, 17, 0⟩ -- Table 12-15
abbrev PRF_AMAX (i : Nat) : Fld := ⟨0x6C05 + 0x8 * i, 17, 0⟩ -- Table 12-15
abbrev PRF_JMAX (i : Nat) : Fld := ⟨0x6C06 + 0x8 * i, 17, 0⟩ -- Table 12-15
abbrev PRF_STAT_GSTATE (i : Nat) : Fld := ⟨0x6C07 + 0x8 * i, 17, 16⟩ -- Table 12-16
abbrev PRF_STAT_TSTALE (i : Nat) : Fld := ⟨0x6C07 + 0x8 * i, 15, 15⟩ -- Table 12-16
abbrev PRF_GSEL : Fld := ⟨0x6E00, 5, 0⟩ -- Table 12-17
abbrev PRF_CMD_CMD : Fld := ⟨0x6E01, 17, 16⟩ -- Table 12-18
abbrev PRF_CMD_CSTAT : Fld := ⟨0x6E01, 15, 11⟩ -- Table 12-18
abbrev PRF_PVAL : Fld := ⟨0x6E02, 17, 0⟩ -- Table 12-19
abbrev PRF_VEL : Fld := ⟨0x6E03, 17, 0⟩ -- Table 12-19
abbrev PRF_ARRV : Fld := ⟨0x6E04, 17, 0⟩ -- Table 12-19
abbrev TRC_CFG_TRIG (i : Nat) : Fld := ⟨0x7000 + 0x10 * i, 17, 16⟩ -- Table 12-20
abbrev TRC_CFG_DIR (i : Nat) : Fld := ⟨0x7000 + 0x10 * i, 15, 15⟩ -- Table 12-20
abbrev TRC_CFG_TNODE (i : Nat) : Fld := ⟨0x7000 + 0x10 * i, 14, 13⟩ -- Table 12-20
abbrev TRC_CFG_SLOT (i : Nat) : Fld := ⟨0x7000 + 0x10 * i, 8, 0⟩ -- Table 12-20
abbrev TRC_NODES_NODE3 (i : Nat) : Fld := ⟨0x7001 + 0x10 * i, 15, 12⟩ -- Table 12-21
abbrev TRC_NODES_NODE2 (i : Nat) : Fld := ⟨0x7001 + 0x10 * i, 11, 8⟩ -- Table 12-21
abbrev TRC_NODES_NODE1 (i : Nat) : Fld := ⟨0x7001 + 0x10 * i, 7, 4⟩ -- Table 12-21
abbrev TRC_NODES_NODE0 (i : Nat) : Fld := ⟨0x7001 + 0x10 * i, 3, 0⟩ -- Table 12-21
abbrev TRC_PRE (i : Nat) : Fld := ⟨0x7002 + 0x10 * i, 11, 0⟩ -- Table 12-22
abbrev TRC_LVL (i : Nat) : Fld := ⟨0x7003 + 0x10 * i, 17, 0⟩ -- Table 12-23
abbrev TRC_CMD_CMD (i : Nat) : Fld := ⟨0x7004 + 0x10 * i, 17, 16⟩ -- Table 12-24
abbrev TRC_CMD_CSTAT (i : Nat) : Fld := ⟨0x7004 + 0x10 * i, 15, 11⟩ -- Table 12-24
abbrev TRC_STAT_STATE (i : Nat) : Fld := ⟨0x7005 + 0x10 * i, 17, 16⟩ -- Table 12-25
abbrev TRC_STAT_SHORT (i : Nat) : Fld := ⟨0x7005 + 0x10 * i, 15, 15⟩ -- Table 12-25
abbrev TRC_STAT_TRIGD (i : Nat) : Fld := ⟨0x7005 + 0x10 * i, 14, 14⟩ -- Table 12-25
abbrev TRC_STAT_COUNT (i : Nat) : Fld := ⟨0x7005 + 0x10 * i, 12, 0⟩ -- Table 12-25
abbrev TRC_TRIGIDX (i : Nat) : Fld := ⟨0x7006 + 0x10 * i, 11, 0⟩ -- Table 12-26
abbrev TRC_TFRAME0 (i : Nat) : Fld := ⟨0x7007 + 0x10 * i, 17, 0⟩ -- Table 12-27
abbrev TRC_TFRAME1 (i : Nat) : Fld := ⟨0x7008 + 0x10 * i, 17, 0⟩ -- Table 12-27
abbrev TRC_RSEL_UNIT : Fld := ⟨0x7100, 13, 12⟩ -- Table 12-28
abbrev TRC_RSEL_INDEX : Fld := ⟨0x7100, 11, 0⟩ -- Table 12-28
abbrev TRC_RD (i : Nat) : Fld := ⟨0x7101 + 0x1 * i, 17, 0⟩ -- Table 12-29
abbrev TRC_RFLAG_RSTAT : Fld := ⟨0x7105, 17, 13⟩ -- Table 12-30
abbrev TRC_RFLAG_MISS : Fld := ⟨0x7105, 0, 0⟩ -- Table 12-30
abbrev AFE_SLOTCFG0_EN (i : Nat) : Fld := ⟨0x7400 + 0x10 * i, 17, 17⟩ -- Table 13-9
abbrev AFE_SLOTCFG0_SEQ (i : Nat) : Fld := ⟨0x7400 + 0x10 * i, 16, 16⟩ -- Table 13-9
abbrev AFE_SLOTCFG0_URG (i : Nat) : Fld := ⟨0x7400 + 0x10 * i, 15, 15⟩ -- Table 13-9
abbrev AFE_SLOTCFG0_QEN (i : Nat) : Fld := ⟨0x7400 + 0x10 * i, 14, 14⟩ -- Table 13-9
abbrev AFE_SLOTCFG0_PPIN (i : Nat) : Fld := ⟨0x7400 + 0x10 * i, 13, 10⟩ -- Table 13-9
abbrev AFE_SLOTCFG0_NPIN (i : Nat) : Fld := ⟨0x7400 + 0x10 * i, 9, 6⟩ -- Table 13-9
abbrev AFE_SLOTCFG0_REFSEL (i : Nat) : Fld := ⟨0x7400 + 0x10 * i, 5, 5⟩ -- Table 13-9
abbrev AFE_SLOTCFG0_AUTO (i : Nat) : Fld := ⟨0x7400 + 0x10 * i, 4, 4⟩ -- Table 13-9
abbrev AFE_SLOTCFG0_ALT (i : Nat) : Fld := ⟨0x7400 + 0x10 * i, 3, 3⟩ -- Table 13-9
abbrev AFE_SLOTCFG0_GAIN (i : Nat) : Fld := ⟨0x7400 + 0x10 * i, 2, 0⟩ -- Table 13-9
abbrev AFE_SLOTCFG1_EXCP (i : Nat) : Fld := ⟨0x7401 + 0x10 * i, 17, 14⟩ -- Table 13-10
abbrev AFE_SLOTCFG1_EXCN (i : Nat) : Fld := ⟨0x7401 + 0x10 * i, 13, 10⟩ -- Table 13-10
abbrev AFE_SLOTCFG1_EXTYPE (i : Nat) : Fld := ⟨0x7401 + 0x10 * i, 9, 8⟩ -- Table 13-10
abbrev AFE_SLOTCFG1_EXMAG (i : Nat) : Fld := ⟨0x7401 + 0x10 * i, 7, 5⟩ -- Table 13-10
abbrev AFE_SLOTCFG1_BIAS (i : Nat) : Fld := ⟨0x7401 + 0x10 * i, 4, 1⟩ -- Table 13-10
abbrev AFE_SLOTCFG2_RATE (i : Nat) : Fld := ⟨0x7402 + 0x10 * i, 17, 14⟩ -- Table 13-11
abbrev AFE_SLOTCFG2_FILT (i : Nat) : Fld := ⟨0x7402 + 0x10 * i, 13, 12⟩ -- Table 13-11
abbrev AFE_SLOTCFG2_GMIN (i : Nat) : Fld := ⟨0x7402 + 0x10 * i, 11, 9⟩ -- Table 13-11
abbrev AFE_SLOTCFG2_GMAX (i : Nat) : Fld := ⟨0x7402 + 0x10 * i, 8, 6⟩ -- Table 13-11
abbrev AFE_SLOTCFG2_LIN (i : Nat) : Fld := ⟨0x7402 + 0x10 * i, 5, 3⟩ -- Table 13-11
abbrev AFE_EXSET (i : Nat) : Fld := ⟨0x7403 + 0x10 * i, 15, 0⟩ -- Table 13-12
abbrev AFE_URGCFG_UTIM (i : Nat) : Fld := ⟨0x7404 + 0x10 * i, 17, 17⟩ -- Table 13-13
abbrev AFE_URGCFG_UK (i : Nat) : Fld := ⟨0x7404 + 0x10 * i, 4, 0⟩ -- Table 13-13
abbrev AFE_OUTPT_OUTEN (i : Nat) : Fld := ⟨0x7405 + 0x10 * i, 17, 17⟩ -- Table 13-14
abbrev AFE_OUTPT_POINT (i : Nat) : Fld := ⟨0x7405 + 0x10 * i, 11, 0⟩ -- Table 13-14
abbrev AFE_OSCL (i : Nat) : Fld := ⟨0x7406 + 0x10 * i, 17, 0⟩ -- Table 13-15
abbrev AFE_OSH (i : Nat) : Fld := ⟨0x7407 + 0x10 * i, 4, 0⟩ -- Table 13-16
abbrev AFE_OOFS (i : Nat) : Fld := ⟨0x7408 + 0x10 * i, 17, 0⟩ -- Table 13-15
abbrev AFE_CALFS (i : Nat) : Fld := ⟨0x7409 + 0x10 * i, 17, 0⟩ -- Table 13-17
abbrev AFE_COFS0 (i : Nat) : Fld := ⟨0x740A + 0x10 * i, 17, 0⟩ -- Table 13-17
abbrev AFE_COFS1 (i : Nat) : Fld := ⟨0x740B + 0x10 * i, 7, 0⟩ -- Table 13-18
abbrev AFE_CGAIN (i : Nat) : Fld := ⟨0x740C + 0x10 * i, 17, 0⟩ -- Table 13-17
abbrev AFE_SLOTSTAT_CURGAIN (i : Nat) : Fld := ⟨0x740D + 0x10 * i, 17, 15⟩ -- Table 13-19
abbrev AFE_SLOTSTAT_LAST (i : Nat) : Fld := ⟨0x740D + 0x10 * i, 14, 12⟩ -- Table 13-19
abbrev AFE_SLOTSTAT_PEND (i : Nat) : Fld := ⟨0x740D + 0x10 * i, 11, 11⟩ -- Table 13-19
abbrev AFE_LIN1 (i : Nat) : Fld := ⟨0x7600 + 0x1 * i, 17, 0⟩ -- Table 13-20
abbrev AFE_LIN2 (i : Nat) : Fld := ⟨0x7640 + 0x1 * i, 17, 0⟩ -- Table 13-20
abbrev AFE_LIN3 (i : Nat) : Fld := ⟨0x7680 + 0x1 * i, 17, 0⟩ -- Table 13-20
abbrev AFE_LIN4 (i : Nat) : Fld := ⟨0x76C0 + 0x1 * i, 17, 0⟩ -- Table 13-20
abbrev ADC_SSTATA_SEQST : Fld := ⟨0x7800, 17, 15⟩ -- Table 13-21
abbrev ADC_SSTATA_SLOT : Fld := ⟨0x7800, 14, 10⟩ -- Table 13-21
abbrev ADC_SSTATA_URGRUN : Fld := ⟨0x7800, 9, 9⟩ -- Table 13-21
abbrev ADC_SSTATA_HALF : Fld := ⟨0x7800, 8, 8⟩ -- Table 13-21
abbrev ADC_SSTATA_RPAR : Fld := ⟨0x7800, 7, 7⟩ -- Table 13-21
abbrev ADC_SSTATB_SEQST : Fld := ⟨0x7801, 17, 15⟩ -- Table 13-21
abbrev ADC_SSTATB_SLOT : Fld := ⟨0x7801, 14, 10⟩ -- Table 13-21
abbrev ADC_SSTATB_URGRUN : Fld := ⟨0x7801, 9, 9⟩ -- Table 13-21
abbrev ADC_SSTATB_HALF : Fld := ⟨0x7801, 8, 8⟩ -- Table 13-21
abbrev ADC_SSTATB_RPAR : Fld := ⟨0x7801, 7, 7⟩ -- Table 13-21
abbrev ADC_ROUNDA : Fld := ⟨0x7802, 17, 0⟩ -- Table 13-22
abbrev ADC_ROUNDB : Fld := ⟨0x7803, 17, 0⟩ -- Table 13-22
abbrev ADC_URGCMD_CMD : Fld := ⟨0x7804, 17, 16⟩ -- Table 13-23
abbrev ADC_URGCMD_CSTAT : Fld := ⟨0x7804, 15, 11⟩ -- Table 13-23
abbrev ADC_URGCMD_SLOT : Fld := ⟨0x7804, 4, 0⟩ -- Table 13-23
abbrev ADC_CALCTLA_CMD : Fld := ⟨0x7805, 17, 16⟩ -- Table 13-24
abbrev ADC_CALCTLA_CSTAT : Fld := ⟨0x7805, 15, 11⟩ -- Table 13-24
abbrev ADC_CALCTLA_CSTAGE : Fld := ⟨0x7805, 10, 8⟩ -- Table 13-24
abbrev ADC_CALCTLA_SLOT : Fld := ⟨0x7805, 4, 0⟩ -- Table 13-24
abbrev ADC_CALCTLB_CMD : Fld := ⟨0x7806, 17, 16⟩ -- Table 13-24
abbrev ADC_CALCTLB_CSTAT : Fld := ⟨0x7806, 15, 11⟩ -- Table 13-24
abbrev ADC_CALCTLB_CSTAGE : Fld := ⟨0x7806, 10, 8⟩ -- Table 13-24
abbrev ADC_CALCTLB_SLOT : Fld := ⟨0x7806, 4, 0⟩ -- Table 13-24
abbrev ADC_CALRESA_RES : Fld := ⟨0x7807, 17, 13⟩ -- Table 13-25
abbrev ADC_CALRESA_RSLOT : Fld := ⟨0x7807, 12, 8⟩ -- Table 13-25
abbrev ADC_CALRESB_RES : Fld := ⟨0x7808, 17, 13⟩ -- Table 13-25
abbrev ADC_CALRESB_RSLOT : Fld := ⟨0x7808, 12, 8⟩ -- Table 13-25
abbrev ADC_QHEADA_VALID : Fld := ⟨0x7810, 17, 17⟩ -- Table 13-26
abbrev ADC_QHEADA_TAG : Fld := ⟨0x7810, 14, 8⟩ -- Table 13-26
abbrev ADC_QHEADA_ST : Fld := ⟨0x7810, 7, 5⟩ -- Table 13-26
abbrev ADC_QHEADB_VALID : Fld := ⟨0x7812, 17, 17⟩ -- Table 13-26
abbrev ADC_QHEADB_TAG : Fld := ⟨0x7812, 14, 8⟩ -- Table 13-26
abbrev ADC_QHEADB_ST : Fld := ⟨0x7812, 7, 5⟩ -- Table 13-26
abbrev ADC_QVALA : Fld := ⟨0x7811, 17, 0⟩ -- Table 13-27
abbrev ADC_QVALB : Fld := ⟨0x7813, 17, 0⟩ -- Table 13-27
abbrev ADC_QSTATA_QRDY : Fld := ⟨0x7814, 17, 17⟩ -- Table 13-28
abbrev ADC_QSTATA_OVR : Fld := ⟨0x7814, 16, 16⟩ -- Table 13-28
abbrev ADC_QSTATA_LEVEL : Fld := ⟨0x7814, 7, 0⟩ -- Table 13-28
abbrev ADC_QSTATB_QRDY : Fld := ⟨0x7815, 17, 17⟩ -- Table 13-28
abbrev ADC_QSTATB_OVR : Fld := ⟨0x7815, 16, 16⟩ -- Table 13-28
abbrev ADC_QSTATB_LEVEL : Fld := ⟨0x7815, 7, 0⟩ -- Table 13-28
abbrev ADC_QTHR_THRB : Fld := ⟨0x7816, 15, 8⟩ -- Table 13-29
abbrev ADC_QTHR_THRA : Fld := ⟨0x7816, 7, 0⟩ -- Table 13-29
abbrev ADC_QOVFA : Fld := ⟨0x7820, 17, 0⟩ -- Table 13-30
abbrev ADC_QOVFB : Fld := ⟨0x7821, 17, 0⟩ -- Table 13-30
abbrev ADC_QDISC : Fld := ⟨0x7822, 17, 0⟩ -- Table 13-30
abbrev ADC_VOIDA : Fld := ⟨0x7823, 17, 0⟩ -- Table 13-30
abbrev ADC_VOIDB : Fld := ⟨0x7824, 17, 0⟩ -- Table 13-30
abbrev ADC_ABORTA : Fld := ⟨0x7825, 17, 0⟩ -- Table 13-30
abbrev ADC_ABORTB : Fld := ⟨0x7826, 17, 0⟩ -- Table 13-30
abbrev ADC_RANGEA : Fld := ⟨0x7827, 17, 0⟩ -- Table 13-30
abbrev ADC_RANGEB : Fld := ⟨0x7828, 17, 0⟩ -- Table 13-30
abbrev ADC_FAULT : Fld := ⟨0x7829, 17, 0⟩ -- Table 13-30
abbrev FAN_CFG_EN (i : Nat) : Fld := ⟨0x7C00 + 0x40 * i, 17, 17⟩ -- Table 14-8
abbrev FAN_CFG_COMM (i : Nat) : Fld := ⟨0x7C00 + 0x40 * i, 16, 16⟩ -- Table 14-8
abbrev FAN_CFG_FGSRC (i : Nat) : Fld := ⟨0x7C00 + 0x40 * i, 15, 14⟩ -- Table 14-8
abbrev FAN_CFG_GROUP (i : Nat) : Fld := ⟨0x7C00 + 0x40 * i, 13, 12⟩ -- Table 14-8
abbrev FAN_CFG_SAFEBRK (i : Nat) : Fld := ⟨0x7C00 + 0x40 * i, 11, 11⟩ -- Table 14-8
abbrev FAN_CFG_LOSSACT (i : Nat) : Fld := ⟨0x7C00 + 0x40 * i, 10, 10⟩ -- Table 14-8
abbrev FAN_CFG_POLES (i : Nat) : Fld := ⟨0x7C00 + 0x40 * i, 9, 5⟩ -- Table 14-8
abbrev FAN_CFG_FGPPR (i : Nat) : Fld := ⟨0x7C00 + 0x40 * i, 4, 2⟩ -- Table 14-8
abbrev FAN_TGTPT (i : Nat) : Fld := ⟨0x7C01 + 0x40 * i, 11, 0⟩ -- Table 14-9
abbrev FAN_SPDPT_SPEN (i : Nat) : Fld := ⟨0x7C02 + 0x40 * i, 17, 17⟩ -- Table 14-9
abbrev FAN_SPDPT_CUREN (i : Nat) : Fld := ⟨0x7C02 + 0x40 * i, 16, 16⟩ -- Table 14-9
abbrev FAN_SPDPT_POINT (i : Nat) : Fld := ⟨0x7C02 + 0x40 * i, 11, 0⟩ -- Table 14-9
abbrev FAN_PWM (i : Nat) : Fld := ⟨0x7C03 + 0x40 * i, 12, 0⟩ -- Table 14-10
abbrev FAN_RPMMAX (i : Nat) : Fld := ⟨0x7C04 + 0x40 * i, 15, 0⟩ -- Table 14-11
abbrev FAN_RPMMIN (i : Nat) : Fld := ⟨0x7C05 + 0x40 * i, 15, 0⟩ -- Table 14-11
abbrev FAN_RPMHAND (i : Nat) : Fld := ⟨0x7C06 + 0x40 * i, 15, 0⟩ -- Table 14-11
abbrev FAN_KP (i : Nat) : Fld := ⟨0x7C07 + 0x40 * i, 15, 0⟩ -- Table 14-11
abbrev FAN_KI (i : Nat) : Fld := ⟨0x7C08 + 0x40 * i, 15, 0⟩ -- Table 14-11
abbrev FAN_RSH (i : Nat) : Fld := ⟨0x7C09 + 0x40 * i, 15, 0⟩ -- Table 14-11
abbrev FAN_ILIM (i : Nat) : Fld := ⟨0x7C0A + 0x40 * i, 15, 0⟩ -- Table 14-11
abbrev FAN_ISTART (i : Nat) : Fld := ⟨0x7C0B + 0x40 * i, 15, 0⟩ -- Table 14-11
abbrev FAN_STIME_TRAMP (i : Nat) : Fld := ⟨0x7C0C + 0x40 * i, 17, 9⟩ -- Table 14-12
abbrev FAN_STIME_TALIGN (i : Nat) : Fld := ⟨0x7C0C + 0x40 * i, 8, 0⟩ -- Table 14-12
abbrev FAN_TSTART (i : Nat) : Fld := ⟨0x7C0D + 0x40 * i, 15, 0⟩ -- Table 14-13
abbrev FAN_OCTIME (i : Nat) : Fld := ⟨0x7C0E + 0x40 * i, 7, 0⟩ -- Table 14-14
abbrev FAN_STAT_FSTATE (i : Nat) : Fld := ⟨0x7C20 + 0x40 * i, 17, 15⟩ -- Table 14-15
abbrev FAN_STAT_ATTEMPT (i : Nat) : Fld := ⟨0x7C20 + 0x40 * i, 14, 13⟩ -- Table 14-15
abbrev FAN_STAT_FCAUSE (i : Nat) : Fld := ⟨0x7C20 + 0x40 * i, 12, 11⟩ -- Table 14-15
abbrev FAN_STAT_FGLOST (i : Nat) : Fld := ⟨0x7C20 + 0x40 * i, 10, 10⟩ -- Table 14-15
abbrev FAN_STAT_GOVR (i : Nat) : Fld := ⟨0x7C20 + 0x40 * i, 9, 9⟩ -- Table 14-15
abbrev FAN_STAT_SOVR (i : Nat) : Fld := ⟨0x7C20 + 0x40 * i, 8, 8⟩ -- Table 14-15
abbrev FAN_STAT_SAFE (i : Nat) : Fld := ⟨0x7C20 + 0x40 * i, 7, 7⟩ -- Table 14-15
abbrev FAN_STAT_LIMIT (i : Nat) : Fld := ⟨0x7C20 + 0x40 * i, 6, 6⟩ -- Table 14-15
abbrev FAN_STAT_LOSS (i : Nat) : Fld := ⟨0x7C20 + 0x40 * i, 5, 5⟩ -- Table 14-15
abbrev FAN_STAT_TEST (i : Nat) : Fld := ⟨0x7C20 + 0x40 * i, 4, 4⟩ -- Table 14-15
abbrev FAN_RPM (i : Nat) : Fld := ⟨0x7C21 + 0x40 * i, 17, 0⟩ -- Table 14-16
abbrev FAN_IMA (i : Nat) : Fld := ⟨0x7C22 + 0x40 * i, 17, 0⟩ -- Table 14-16
abbrev FAN_DUTY (i : Nat) : Fld := ⟨0x7C23 + 0x40 * i, 17, 0⟩ -- Table 14-16
abbrev FAN_CMDRPM (i : Nat) : Fld := ⟨0x7C24 + 0x40 * i, 17, 0⟩ -- Table 14-16
abbrev FAN_LIMCNT (i : Nat) : Fld := ⟨0x7C25 + 0x40 * i, 17, 0⟩ -- Table 14-16
abbrev FAN_RETRY (i : Nat) : Fld := ⟨0x7C26 + 0x40 * i, 17, 0⟩ -- Table 14-16
abbrev FAN_CMD_CMD : Fld := ⟨0x7F00, 17, 16⟩ -- Table 14-17
abbrev FAN_CMD_CSTAT : Fld := ⟨0x7F00, 15, 11⟩ -- Table 14-17
abbrev FAN_CMD_CH : Fld := ⟨0x7F00, 1, 0⟩ -- Table 14-17
abbrev FAN_GRP_CMPEN (i : Nat) : Fld := ⟨0x7F01 + 0x1 * i, 17, 17⟩ -- Table 14-18
abbrev FAN_GRP_SOVREN (i : Nat) : Fld := ⟨0x7F01 + 0x1 * i, 16, 16⟩ -- Table 14-18
abbrev FAN_GRP_CMPPIN (i : Nat) : Fld := ⟨0x7F01 + 0x1 * i, 15, 12⟩ -- Table 14-18
abbrev FAN_GRP_SENSPT (i : Nat) : Fld := ⟨0x7F01 + 0x1 * i, 11, 0⟩ -- Table 14-18
abbrev FAN_GSTAT_CMPCAUSE : Fld := ⟨0x7F04, 17, 16⟩ -- Table 14-19
abbrev FAN_GSTAT_CMPGRP : Fld := ⟨0x7F04, 15, 14⟩ -- Table 14-19
abbrev FAN_GSTAT_CMPARM : Fld := ⟨0x7F04, 8, 6⟩ -- Table 14-19
abbrev FAN_GSTAT_SFAIL : Fld := ⟨0x7F04, 5, 3⟩ -- Table 14-19
abbrev FAN_GSTAT_GOVR : Fld := ⟨0x7F04, 2, 0⟩ -- Table 14-19
abbrev FAN_GTEMP (i : Nat) : Fld := ⟨0x7F05 + 0x1 * i, 17, 0⟩ -- Table 14-20
abbrev VLV_CFG_EN (i : Nat) : Fld := ⟨0x8000 + 0x20 * i, 17, 17⟩ -- Table 14-21
abbrev VLV_CFG_SHUT (i : Nat) : Fld := ⟨0x8000 + 0x20 * i, 16, 16⟩ -- Table 14-21
abbrev VLV_CFG_SHHEAD (i : Nat) : Fld := ⟨0x8000 + 0x20 * i, 15, 14⟩ -- Table 14-21
abbrev VLV_CFG_MODE (i : Nat) : Fld := ⟨0x8000 + 0x20 * i, 13, 13⟩ -- Table 14-21
abbrev VLV_CFG_LOSSACT (i : Nat) : Fld := ⟨0x8000 + 0x20 * i, 12, 12⟩ -- Table 14-21
abbrev VLV_CFG_CMDPT (i : Nat) : Fld := ⟨0x8000 + 0x20 * i, 11, 0⟩ -- Table 14-21
abbrev VLV_IPK (i : Nat) : Fld := ⟨0x8001 + 0x20 * i, 9, 0⟩ -- Table 14-22
abbrev VLV_IHOLD (i : Nat) : Fld := ⟨0x8002 + 0x20 * i, 9, 0⟩ -- Table 14-22
abbrev VLV_TPK (i : Nat) : Fld := ⟨0x8003 + 0x20 * i, 15, 0⟩ -- Table 14-23
abbrev VLV_TPKMAX (i : Nat) : Fld := ⟨0x8004 + 0x20 * i, 15, 0⟩ -- Table 14-23
abbrev VLV_CHOP_TOFFMIN (i : Nat) : Fld := ⟨0x8005 + 0x20 * i, 17, 12⟩ -- Table 14-24
abbrev VLV_CHOP_CHOPF (i : Nat) : Fld := ⟨0x8005 + 0x20 * i, 8, 0⟩ -- Table 14-24
abbrev VLV_MAXLAT (i : Nat) : Fld := ⟨0x8006 + 0x20 * i, 15, 0⟩ -- Table 14-23
abbrev VLV_TCYC (i : Nat) : Fld := ⟨0x8007 + 0x20 * i, 15, 0⟩ -- Table 14-23
abbrev VLV_TMIN (i : Nat) : Fld := ⟨0x8008 + 0x20 * i, 15, 0⟩ -- Table 14-23
abbrev VLV_STPT_STEN (i : Nat) : Fld := ⟨0x8009 + 0x20 * i, 17, 17⟩ -- Table 14-25
abbrev VLV_STPT_POINT (i : Nat) : Fld := ⟨0x8009 + 0x20 * i, 11, 0⟩ -- Table 14-25
abbrev VLV_STAT_VSTATE (i : Nat) : Fld := ⟨0x8010 + 0x20 * i, 17, 15⟩ -- Table 14-26
abbrev VLV_STAT_RSTAT (i : Nat) : Fld := ⟨0x8010 + 0x20 * i, 14, 10⟩ -- Table 14-26
abbrev VLV_STAT_RREASON (i : Nat) : Fld := ⟨0x8010 + 0x20 * i, 9, 8⟩ -- Table 14-26
abbrev VLV_STAT_FCAUSE (i : Nat) : Fld := ⟨0x8010 + 0x20 * i, 7, 6⟩ -- Table 14-26
abbrev VLV_STAT_PKTO (i : Nat) : Fld := ⟨0x8010 + 0x20 * i, 5, 5⟩ -- Table 14-26
abbrev VLV_STAT_SAFE (i : Nat) : Fld := ⟨0x8010 + 0x20 * i, 4, 4⟩ -- Table 14-26
abbrev VLV_STAT_LOSS (i : Nat) : Fld := ⟨0x8010 + 0x20 * i, 3, 3⟩ -- Table 14-26
abbrev VLV_STAT_TEST (i : Nat) : Fld := ⟨0x8010 + 0x20 * i, 2, 2⟩ -- Table 14-26
abbrev VLV_DLY (i : Nat) : Fld := ⟨0x8011 + 0x20 * i, 17, 0⟩ -- Table 14-27
abbrev VLV_DUTY (i : Nat) : Fld := ⟨0x8012 + 0x20 * i, 17, 0⟩ -- Table 14-27
abbrev VLV_REFCNT (i : Nat) : Fld := ⟨0x8013 + 0x20 * i, 17, 0⟩ -- Table 14-27
abbrev VLV_PKTOCNT (i : Nat) : Fld := ⟨0x8014 + 0x20 * i, 17, 0⟩ -- Table 14-27
abbrev VLV_HSWSTAT_WAIT1 : Fld := ⟨0x8200, 7, 5⟩ -- Table 14-28
abbrev VLV_HSWSTAT_WAIT0 : Fld := ⟨0x8200, 4, 2⟩ -- Table 14-28
abbrev VLV_HSWSTAT_HSW1 : Fld := ⟨0x8200, 1, 1⟩ -- Table 14-28
abbrev VLV_HSWSTAT_HSW0 : Fld := ⟨0x8200, 0, 0⟩ -- Table 14-28
abbrev VLV_HSWCFG_LEAD1 : Fld := ⟨0x8201, 15, 8⟩ -- Table 14-29
abbrev VLV_HSWCFG_LEAD0 : Fld := ⟨0x8201, 7, 0⟩ -- Table 14-29
abbrev VLV_CMD_CMD : Fld := ⟨0x8202, 17, 16⟩ -- Table 14-30
abbrev VLV_CMD_CSTAT : Fld := ⟨0x8202, 15, 11⟩ -- Table 14-30
abbrev VLV_CMD_CH : Fld := ⟨0x8202, 2, 0⟩ -- Table 14-30
abbrev DAC_CFG_EN (i : Nat) : Fld := ⟨0x8400 + 0x4 * i, 17, 17⟩ -- Table 14-31
abbrev DAC_CFG_LOSSACT (i : Nat) : Fld := ⟨0x8400 + 0x4 * i, 16, 16⟩ -- Table 14-31
abbrev DAC_CFG_CMDPT (i : Nat) : Fld := ⟨0x8400 + 0x4 * i, 11, 0⟩ -- Table 14-31
abbrev DAC_SAFE (i : Nat) : Fld := ⟨0x8401 + 0x4 * i, 17, 4⟩ -- Table 14-32
abbrev DAC_VAL (i : Nat) : Fld := ⟨0x8402 + 0x4 * i, 17, 4⟩ -- Table 14-32
abbrev DAC_STAT_SAFE (i : Nat) : Fld := ⟨0x8403 + 0x4 * i, 17, 17⟩ -- Table 14-33
abbrev DAC_STAT_LOSS (i : Nat) : Fld := ⟨0x8403 + 0x4 * i, 16, 16⟩ -- Table 14-33
abbrev DAC_STAT_TEST (i : Nat) : Fld := ⟨0x8403 + 0x4 * i, 15, 15⟩ -- Table 14-33
abbrev GPIO_CFG_EN (i : Nat) : Fld := ⟨0x8800 + 0x2 * i, 17, 17⟩ -- Table 14-34
abbrev GPIO_CFG_DIR (i : Nat) : Fld := ⟨0x8800 + 0x2 * i, 16, 16⟩ -- Table 14-34
abbrev GPIO_CFG_LOSSACT (i : Nat) : Fld := ⟨0x8800 + 0x2 * i, 15, 15⟩ -- Table 14-34
abbrev GPIO_CFG_SAFELVL (i : Nat) : Fld := ⟨0x8800 + 0x2 * i, 14, 14⟩ -- Table 14-34
abbrev GPIO_CFG_DEB (i : Nat) : Fld := ⟨0x8800 + 0x2 * i, 13, 12⟩ -- Table 14-34
abbrev GPIO_CFG_POINT (i : Nat) : Fld := ⟨0x8800 + 0x2 * i, 11, 0⟩ -- Table 14-34
abbrev GPIO_STAT_LEVEL (i : Nat) : Fld := ⟨0x8801 + 0x2 * i, 17, 17⟩ -- Table 14-35
abbrev GPIO_STAT_LOSS (i : Nat) : Fld := ⟨0x8801 + 0x2 * i, 16, 16⟩ -- Table 14-35
abbrev GPIO_STAT_SAFE (i : Nat) : Fld := ⟨0x8801 + 0x2 * i, 15, 15⟩ -- Table 14-35
abbrev BUS_CFG_PROTO (p : Nat) : Fld := ⟨0x8C00 + 0x400 * p, 17, 16⟩ -- Table 15-8
abbrev BUS_CFG_AUTOBAUD (p : Nat) : Fld := ⟨0x8C00 + 0x400 * p, 15, 15⟩ -- Table 15-8
abbrev BUS_CFG_BAUD (p : Nat) : Fld := ⟨0x8C00 + 0x400 * p, 14, 12⟩ -- Table 15-8
abbrev BUS_CFG_FMT (p : Nat) : Fld := ⟨0x8C00 + 0x400 * p, 11, 10⟩ -- Table 15-8
abbrev BUS_CFG_LISTENMAX (p : Nat) : Fld := ⟨0x8C00 + 0x400 * p, 7, 0⟩ -- Table 15-8
abbrev BUS_MSTP_MAC (p : Nat) : Fld := ⟨0x8C01 + 0x400 * p, 17, 11⟩ -- Table 15-9
abbrev BUS_MSTP_MAXMASTER (p : Nat) : Fld := ⟨0x8C01 + 0x400 * p, 10, 4⟩ -- Table 15-9
abbrev BUS_MSTP_MAXINFO (p : Nat) : Fld := ⟨0x8C01 + 0x400 * p, 3, 0⟩ -- Table 15-9
abbrev BUS_DEVINST0 (p : Nat) : Fld := ⟨0x8C02 + 0x400 * p, 17, 0⟩ -- Table 15-10
abbrev BUS_DEVINST1 (p : Nat) : Fld := ⟨0x8C03 + 0x400 * p, 3, 0⟩ -- Table 15-10
abbrev BUS_MBTIME_RTO (p : Nat) : Fld := ⟨0x8C04 + 0x400 * p, 17, 9⟩ -- Table 15-11
abbrev BUS_MBTIME_RETRY (p : Nat) : Fld := ⟨0x8C04 + 0x400 * p, 8, 7⟩ -- Table 15-11
abbrev BUS_MBTIME_DOWNCNT (p : Nat) : Fld := ⟨0x8C04 + 0x400 * p, 5, 0⟩ -- Table 15-11
abbrev BUS_MBCYCLE (p : Nat) : Fld := ⟨0x8C05 + 0x400 * p, 15, 0⟩ -- Table 15-12
abbrev BUS_LSTAT_LSTATE (p : Nat) : Fld := ⟨0x8C08 + 0x400 * p, 17, 15⟩ -- Table 15-13
abbrev BUS_LSTAT_BAUDIN (p : Nat) : Fld := ⟨0x8C08 + 0x400 * p, 14, 12⟩ -- Table 15-13
abbrev BUS_LSTAT_NEGFAIL (p : Nat) : Fld := ⟨0x8C08 + 0x400 * p, 11, 11⟩ -- Table 15-13
abbrev BUS_LSTAT_SOLE (p : Nat) : Fld := ⟨0x8C08 + 0x400 * p, 10, 10⟩ -- Table 15-13
abbrev BUS_LSTAT_TOKEN (p : Nat) : Fld := ⟨0x8C08 + 0x400 * p, 9, 9⟩ -- Table 15-13
abbrev BUS_LSTAT_NOFF (p : Nat) : Fld := ⟨0x8C08 + 0x400 * p, 6, 0⟩ -- Table 15-13
abbrev BUS_CMD_CMD (p : Nat) : Fld := ⟨0x8C09 + 0x400 * p, 17, 16⟩ -- Table 15-14
abbrev BUS_CMD_CSTAT (p : Nat) : Fld := ⟨0x8C09 + 0x400 * p, 15, 11⟩ -- Table 15-14
abbrev BUS_COUNTERS (p i : Nat) : Fld := ⟨0x8C10 + 0x400 * p + 0x1 * i, 17, 0⟩ -- Table 15-15
abbrev BUS_OSEL (p : Nat) : Fld := ⟨0x8C20 + 0x400 * p, 8, 0⟩ -- Table 15-16
abbrev BUS_OBJ0_OTYPE (p : Nat) : Fld := ⟨0x8C21 + 0x400 * p, 17, 15⟩ -- Table 15-17
abbrev BUS_OBJ0_WR (p : Nat) : Fld := ⟨0x8C21 + 0x400 * p, 14, 14⟩ -- Table 15-17
abbrev BUS_OBJ0_VALID (p : Nat) : Fld := ⟨0x8C21 + 0x400 * p, 13, 13⟩ -- Table 15-17
abbrev BUS_OBJ0_POINT (p : Nat) : Fld := ⟨0x8C21 + 0x400 * p, 11, 0⟩ -- Table 15-17
abbrev BUS_OBJ1 (p : Nat) : Fld := ⟨0x8C22 + 0x400 * p, 17, 0⟩ -- Table 15-18
abbrev BUS_OBJ2 (p : Nat) : Fld := ⟨0x8C23 + 0x400 * p, 17, 0⟩ -- Table 15-18
abbrev BUS_TSEL (p : Nat) : Fld := ⟨0x8C30 + 0x400 * p, 7, 0⟩ -- Table 15-19
abbrev BUS_TENT0_UNIT (p : Nat) : Fld := ⟨0x8C31 + 0x400 * p, 17, 10⟩ -- Table 15-20
abbrev BUS_TENT0_FCI (p : Nat) : Fld := ⟨0x8C31 + 0x400 * p, 9, 7⟩ -- Table 15-20
abbrev BUS_TENT0_DTYPE (p : Nat) : Fld := ⟨0x8C31 + 0x400 * p, 6, 5⟩ -- Table 15-20
abbrev BUS_TENT0_COUNT (p : Nat) : Fld := ⟨0x8C31 + 0x400 * p, 4, 0⟩ -- Table 15-20
abbrev BUS_TENT1 (p : Nat) : Fld := ⟨0x8C32 + 0x400 * p, 15, 0⟩ -- Table 15-21
abbrev BUS_TENT2_VALID (p : Nat) : Fld := ⟨0x8C33 + 0x400 * p, 17, 17⟩ -- Table 15-22
abbrev BUS_TENT2_WMODE (p : Nat) : Fld := ⟨0x8C33 + 0x400 * p, 16, 16⟩ -- Table 15-22
abbrev BUS_TENT2_LOSSACT (p : Nat) : Fld := ⟨0x8C33 + 0x400 * p, 15, 15⟩ -- Table 15-22
abbrev BUS_TENT2_POINT (p : Nat) : Fld := ⟨0x8C33 + 0x400 * p, 11, 0⟩ -- Table 15-22
abbrev BUS_TSTAT_STATUS (p : Nat) : Fld := ⟨0x8C34 + 0x400 * p, 17, 13⟩ -- Table 15-23
abbrev BUS_TSTAT_CLIPW (p : Nat) : Fld := ⟨0x8C34 + 0x400 * p, 12, 12⟩ -- Table 15-23
abbrev BUS_TSTAT_EXC (p : Nat) : Fld := ⟨0x8C34 + 0x400 * p, 7, 0⟩ -- Table 15-23
abbrev BUS_DSEL (p : Nat) : Fld := ⟨0x8C40 + 0x400 * p, 5, 0⟩ -- Table 15-24
abbrev BUS_DSTAT_ONLINE (p : Nat) : Fld := ⟨0x8C41 + 0x400 * p, 17, 17⟩ -- Table 15-25
abbrev BUS_DSTAT_VALID (p : Nat) : Fld := ⟨0x8C41 + 0x400 * p, 16, 16⟩ -- Table 15-25
abbrev BUS_DSTAT_UNIT (p : Nat) : Fld := ⟨0x8C41 + 0x400 * p, 15, 8⟩ -- Table 15-25
abbrev BUS_DSTAT_FAILS (p : Nat) : Fld := ⟨0x8C41 + 0x400 * p, 7, 0⟩ -- Table 15-25
abbrev SCHED_SSEL : Fld := ⟨0x9400, 5, 0⟩ -- Table 12-31
abbrev SCHED_CMD : Fld := ⟨0x9401, 17, 16⟩ -- Table 12-32
abbrev SCHED_RTC0 : Fld := ⟨0x9402, 17, 0⟩ -- Table 12-33
abbrev SCHED_RTC1 : Fld := ⟨0x9403, 13, 0⟩ -- Table 12-33
abbrev SCHED_CAL0_YEAR : Fld := ⟨0x9404, 16, 9⟩ -- Table 12-34
abbrev SCHED_CAL0_MONTH : Fld := ⟨0x9404, 8, 5⟩ -- Table 12-34
abbrev SCHED_CAL0_DAY : Fld := ⟨0x9404, 4, 0⟩ -- Table 12-34
abbrev SCHED_CAL1_TVALID : Fld := ⟨0x9405, 17, 17⟩ -- Table 12-35
abbrev SCHED_CAL1_WDAY : Fld := ⟨0x9405, 13, 11⟩ -- Table 12-35
abbrev SCHED_CAL1_MINUTE : Fld := ⟨0x9405, 10, 0⟩ -- Table 12-35
abbrev SCH_CFG_EN (k : Nat) : Fld := ⟨0x30010 + 0x100 * k, 17, 17⟩ -- Table 12-36
abbrev SCH_CFG_OVREN (k : Nat) : Fld := ⟨0x30010 + 0x100 * k, 16, 16⟩ -- Table 12-36
abbrev SCH_CFG_OUTPT (k : Nat) : Fld := ⟨0x30010 + 0x100 * k, 11, 0⟩ -- Table 12-36
abbrev SCH_DEFAULT (k : Nat) : Fld := ⟨0x30011 + 0x100 * k, 17, 0⟩ -- Table 12-38
abbrev SCH_OVRPT (k : Nat) : Fld := ⟨0x30012 + 0x100 * k, 11, 0⟩ -- Table 12-37
abbrev SCH_OTHR (k : Nat) : Fld := ⟨0x30013 + 0x100 * k, 17, 0⟩ -- Table 12-38
abbrev SCH_VFROM (k : Nat) : Fld := ⟨0x30014 + 0x100 * k, 17, 0⟩ -- Table 12-38
abbrev SCH_VTO (k : Nat) : Fld := ⟨0x30015 + 0x100 * k, 17, 0⟩ -- Table 12-38
abbrev SCH_OREL (k : Nat) : Fld := ⟨0x30016 + 0x100 * k, 7, 0⟩ -- Table 12-39
abbrev SCH_STAT_OVR (k : Nat) : Fld := ⟨0x30017 + 0x100 * k, 17, 17⟩ -- Table 12-40
abbrev SCH_STAT_EXC (k : Nat) : Fld := ⟨0x30017 + 0x100 * k, 16, 16⟩ -- Table 12-40
abbrev SCH_STAT_EXCIDX (k : Nat) : Fld := ⟨0x30017 + 0x100 * k, 15, 11⟩ -- Table 12-40
abbrev SCH_STAT_WDAY (k : Nat) : Fld := ⟨0x30017 + 0x100 * k, 10, 8⟩ -- Table 12-40
abbrev SCH_VAL (k : Nat) : Fld := ⟨0x30018 + 0x100 * k, 17, 0⟩ -- Table 12-41
abbrev SCH_T_V (k i : Nat) : Fld := ⟨0x30040 + 0x100 * k + 0x2 * i, 17, 17⟩ -- Table 12-42
abbrev SCH_T_MINUTE (k i : Nat) : Fld := ⟨0x30040 + 0x100 * k + 0x2 * i, 10, 0⟩ -- Table 12-42
abbrev SCH_V (k i : Nat) : Fld := ⟨0x30041 + 0x100 * k + 0x2 * i, 17, 0⟩ -- Table 12-43
abbrev SCH_X0_EN (k i : Nat) : Fld := ⟨0x300C0 + 0x100 * k + 0x2 * i, 17, 17⟩ -- Table 12-44
abbrev SCH_X0_YEARLY (k i : Nat) : Fld := ⟨0x300C0 + 0x100 * k + 0x2 * i, 16, 16⟩ -- Table 12-44
abbrev SCH_X0_MONTH (k i : Nat) : Fld := ⟨0x300C0 + 0x100 * k + 0x2 * i, 15, 12⟩ -- Table 12-44
abbrev SCH_X0_DAY (k i : Nat) : Fld := ⟨0x300C0 + 0x100 * k + 0x2 * i, 11, 7⟩ -- Table 12-44
abbrev SCH_X0_SUB (k i : Nat) : Fld := ⟨0x300C0 + 0x100 * k + 0x2 * i, 6, 4⟩ -- Table 12-44
abbrev SCH_X1 (k i : Nat) : Fld := ⟨0x300C1 + 0x100 * k + 0x2 * i, 7, 0⟩ -- Table 12-45
abbrev POINT_FNUM : Fld := ⟨0x9800, 11, 0⟩ -- Table 2-4
abbrev POINT_FVAL : Fld := ⟨0x9801, 17, 0⟩ -- Table 2-5
abbrev POINT_FCTL_CMD : Fld := ⟨0x9802, 14, 13⟩ -- Table 2-6
abbrev POINT_FCTL_NFORCED : Fld := ⟨0x9802, 12, 0⟩ -- Table 2-6
abbrev FAB_CFG : Fld := ⟨0x9C00, 4, 0⟩ -- Table 18-10
abbrev FAB_LOADS : Fld := ⟨0x9C01, 9, 0⟩ -- Table 18-11
abbrev FAB_LOADW : Fld := ⟨0x9C02, 9, 0⟩ -- Table 18-11
abbrev FAB_UTILC (i : Nat) : Fld := ⟨0x9C03 + 0x1 * i, 9, 0⟩ -- Table 18-12
abbrev FAB_MAXWC (i : Nat) : Fld := ⟨0x9C07 + 0x1 * i, 17, 0⟩ -- Table 18-13
abbrev FAB_PART_DNPART : Fld := ⟨0x9C0B, 17, 13⟩ -- Table 18-14
abbrev FAB_PART_RDPART : Fld := ⟨0x9C0B, 12, 8⟩ -- Table 18-14
abbrev FAB_PROMO2 : Fld := ⟨0x9C10, 17, 0⟩ -- Table 18-15
abbrev FAB_PROMO3 : Fld := ⟨0x9C11, 17, 0⟩ -- Table 18-15
abbrev FAB_LATEEND : Fld := ⟨0x9C12, 17, 0⟩ -- Table 18-15
abbrev FAB_BABORT : Fld := ⟨0x9C13, 17, 0⟩ -- Table 18-15
abbrev FAB_DOWNREP : Fld := ⟨0x9C14, 17, 0⟩ -- Table 18-15
abbrev FAB_RDISC : Fld := ⟨0x9C15, 17, 0⟩ -- Table 18-15
abbrev FAB_WDLY : Fld := ⟨0x9C16, 17, 0⟩ -- Table 18-15
abbrev AGE_CFG_EN : Fld := ⟨0xA000, 17, 17⟩ -- Table 18-16
abbrev AGE_CFG_THR : Fld := ⟨0xA000, 15, 7⟩ -- Table 18-16
abbrev AGE_CFG_STEP : Fld := ⟨0xA000, 6, 0⟩ -- Table 18-16
abbrev AGE_SCHED_CEILMIN : Fld := ⟨0xA001, 12, 8⟩ -- Table 18-17
abbrev AGE_SCHED_WDAY : Fld := ⟨0xA001, 7, 5⟩ -- Table 18-17
abbrev AGE_SCHED_HOUR : Fld := ⟨0xA001, 4, 0⟩ -- Table 18-17
abbrev AGE_CMD_CMD : Fld := ⟨0xA002, 17, 16⟩ -- Table 18-18
abbrev AGE_CMD_CSTAT : Fld := ⟨0xA002, 15, 11⟩ -- Table 18-18
abbrev AGE_STAT_MSTAT : Fld := ⟨0xA003, 17, 13⟩ -- Table 18-19
abbrev AGE_STAT_PROPK : Fld := ⟨0xA003, 12, 8⟩ -- Table 18-19
abbrev AGE_STAT_PEND : Fld := ⟨0xA003, 7, 7⟩ -- Table 18-19
abbrev AGE_STAT_DUE : Fld := ⟨0xA003, 6, 6⟩ -- Table 18-19
abbrev AGE_REPLAN_RSTAT : Fld := ⟨0xA004, 17, 13⟩ -- Table 18-20
abbrev AGE_REPLAN_REASON : Fld := ⟨0xA004, 12, 7⟩ -- Table 18-20
abbrev AGE_REPLAN_AGEFAIL : Fld := ⟨0xA004, 6, 6⟩ -- Table 18-20
abbrev AGE_SMAX_WORST : Fld := ⟨0xA005, 17, 14⟩ -- Table 18-21
abbrev AGE_SMAX_SMAX : Fld := ⟨0xA005, 13, 0⟩ -- Table 18-21
abbrev AGE_MARGIN : Fld := ⟨0xA006, 17, 0⟩ -- Table 18-22
abbrev AGE_CNT (i : Nat) : Fld := ⟨0xA010 + 0x1 * i, 17, 0⟩ -- Table 18-23

end Sys2Proof.Reg
end

