-- ==== Sys2Proof/Config.lean ====
section
/-! DEFINITION. What an implementation fixes and the spec leaves open: opaque constants, of which nothing can be
proved. Each is marked in the assumption log. -/

namespace Sys2Proof.Config

/-- SYS_ID1 of the die: LETTER and METAL are hardwired (Table 2-15) and the spec gives no numbers (notes/assumptions/1). -/
opaque dieId : Word

/-- A free value for the `n`-th open value a run meets, of the kind `k` (notes/assumptions/1). -/
opaque freeWord (k n : Nat) : Word

/-- A free byte, the `i`-th of the `n`-th open value (notes/assumptions/1). -/
opaque freeByte (n i : Nat) : Byte

/-- A free truth value for the `n`-th open choice (notes/assumptions/1). -/
opaque freeBool (n : Nat) : Bool

/-- A free natural number for the `n`-th open value (notes/assumptions/1). -/
opaque freeNat (n : Nat) : Nat

/-- TRIM after a correction of IOSC from the present TRIM and the measured ERR (R93 gives neither the sense of
TRIM nor the size of one correction beyond its step of 0.02%; notes/assumptions/1). -/
opaque trimAfter (trim err : Nat) : BitVec 8

/-- Words of working RAM: the spec addresses it (R351, R361) and does not say how large it is
(notes/assumptions/86). -/
opaque wramWords : Nat

/-- The bytes of the DEFLATE encoder for an input and the offsets of its flushes: the spec fixes only that they are valid
(R367), so they are taken from here where they decode to the input (notes/assumptions/78). -/
opaque deflate (input : List Byte) (flushes : List Nat) : List Byte

/-- The properties of the Device object for which R323 gives neither a value nor a source, by a number of the model's
own (Protocol_Version, Protocol_Revision, services and object types supported, APDU_Timeout, retries; notes/assumptions/1). -/
opaque deviceProperty (p : Nat) : Nat

/-- The word of label scratch for a provisional label of a frame, counted in the order of their use, or for none (R196, R208
give no encoding; notes/assumptions/86). -/
opaque labelWord (label : Option Nat) : Word

/-- W of R184 where it cannot be formed, as a fraction (numerator, and denominator less 1): the coefficients CVB, CVR and CVF
as their registers hold them, and T as a fraction of 1/512 K (notes/assumptions/21). -/
opaque openRadiance (cvb cvr cvf : Nat) (t : Int × Nat) : Int × Nat

/-- The lane code of ALINK for a number of lanes that R139 gives no code for (notes/assumptions/1). -/
opaque laneCode (lanes : Nat) : BitVec 2

/-- The first window page of the landing buffers, as the loader's placement fixes it (CMP_LBASE, Table 17-14; notes/assumptions/86). -/
opaque landingBase : Nat

/-- The slice that holds the 72-bit word `k` of the pixel store, and its row there (notes/assumptions/86). -/
opaque sliceRow (k : Nat) : Fin 8 × Nat

/-- The loader's placement, for heads of the given pixel counts: rows left free in every slice before the area of head `h`;
`kind` 0 is the area of its state words, 1 that of its map words (notes/assumptions/86). -/
opaque gapRows (pixels : List Nat) (kind h : Nat) : Nat

/-- Which of its rows of words the row `o` of an area holds (notes/assumptions/86). -/
opaque areaRow (pixels : List Nat) (kind h o : Nat) : Nat

/-- A word outside these areas belongs to a raw ring or a scratch (notes/assumptions/86). -/
opaque planeWord (pixels : List Nat) (k : Nat) : Bool

/-- Which of the four 18-bit parts of a 72-bit word, 0 for bits 17:0 to 3 for bits 71:54, the window shows as its `j`-th
(R154 does not say; notes/assumptions/86). -/
opaque partOf (j : Fin 4) : Fin 4

end Sys2Proof.Config
end

