-- ==== Sys2Proof/Machine/State.lean ====
section
/-! DEFINITION. The state of the block, the ways a step can stop, and the state after reset. -/

namespace Sys2Proof.Machine
open Sys2Proof

/-- A step stops with a fault where a factory command is allowed but the spec gives it no effect. -/
inductive Fault where
  /-- Raised by the console's factory set (MEM, TRIM, SCAN, FUSE; R388) and by a JTAG factory instruction (R393) on the
  path on which it is carried out: the spec says when it is allowed and nothing of what it does. Safe: the model stops
  where the hardware goes on (notes/assumptions/4). -/
  | factoryEffectUnstated
  deriving DecidableEq, Repr

/-- A step is refused where the model has no meaning for the command. -/
inductive Refusal where
  /-- Raised by an arm of `exec` whose command has no meaning yet. Safe: the model stops. -/
  | notModelled (mnemonic : String)
  deriving DecidableEq, Repr

/-- The state of the block, part by part; `pending` is the queue of commands, first in, first out. -/
structure State where
  pending : List Instr
  /-- Every register of the register tables, those of windows included (Table 2-13). -/
  regs : Regs
  /-- The assigned points, numbers strictly rising (R36, R37). -/
  points : List (Nat × Point)
  tick : Tick
  balls : Balls
  power : Power
  clock : Clock
  therm : Therm
  boot : BootState
  heads : Vector HeadSt 4
  bursts : BurstQ
  shut : Vector ShutHead 4
  cruise : Cruise
  stat : StatSt
  ctx : CtxSt
  /-- The configured loop slots, numbers strictly rising (R222). -/
  loops : List (Nat × LoopSt)
  /-- The profile generators in use, numbers strictly rising (R252). -/
  prfs : List (Nat × PrfSt)
  traces : Vector TraceSt 4
  /-- Schedules that are not in their first state. -/
  scheds : List (Nat × SchedSt)
  rtc : Rtc
  afe : AfeSt
  act : ActSt
  gpio : GpioBank
  bus : Vector BusSt 2
  flash : FlashSt
  psp : PspSt
  hsp : HspSt
  tally : TallySt
  cmp : CmpSt
  wram : WordMem
  landing : WordMem
  fab : FabSt
  age : AgeSt
  svc : SvcSt
  /-- Fuse bits programmed to 1, rising (R390). -/
  fuses : List Nat
  jtag : JtagSt
  /-- The model's own counter of open values (notes/assumptions/1): no state of the spec. -/
  freeCtr : Nat
  deriving DecidableEq, Repr

/-! ### The parts after reset -/

/-- A sensor of the supervisor before its first sample. -/
def Sensor.init : Sensor := { prev := none, since := 0, lastBad := none }

def Therm.init : Therm :=
  { time := 0, sensors := Vector.replicate 16 Sensor.init, means := [], storeBand := 1, pendBand := none,
    portBand := Vector.replicate 5 1, l3drop := false, causes := [], tripped := false, recorded := false,
    shutdown := false, tripInfo := none, coolSince := none, judged := false }

def BootState.init : BootState :=
  { hdrA := none, hdrB := none, order := [], inForce := none, secFrom := [], loading := true, privImg := false,
    shadow := [], stream := [], streamOpen := false, reload := none, reloadData := [], reloadTabs := none, reloadIdx := 0x7F, reloadFail := none, clusterIn := [], plan := [], entries := [],
    busTabs := [], imaged := false, directSeen := [] }

/-- A sensor port that has no head in service yet. -/
def HeadSt.init : HeadSt :=
  { svc := false, hrst := none, neg := none, attempt := 0, negFt := 0, reneg := false, rx := none, extra := false,
    fsSeen := false, curFrame := 0, curL3 := false, everNeg := false, tlmMiss := 0, fpaSeen := false,
    winOpen := false, change := none, restore := false, restoreTried := false, restoring := false, dropUntil := false, sent := [], ring := [], ringNext := 0,
    px := [], winCap := none, filtReset := false, noBurst := 0, radTab := [[], [], [], []], good := none,
    lastBurst := none, lastPass := none }

def BurstQ.init : BurstQ := { waiting := [], running := none, awake := false, scratch := [] }

def ShutHead.init : ShutHead :=
  { recal := none, final := none, cmd := false, startCmd := false, startAt := none, bref := none, blindCount := 0,
    counting := false, corrected := false, startup := false, lastfPend := false, archNext := 0,
    archTimes := [], gnSums := none }

def OccHead.init : OccHead :=
  { blobs := [], tracks := [], lastId := 0, lastFrame := none, seedNext := false, clearNext := false,
    labels := [] }

def StatSt.init : StatSt :=
  { waiting := [], running := none, heads := Vector.replicate 4 OccHead.init, records := [], stands := [] }

def CtxSt.init : CtxSt := { waiting := [], repeats := [], sending := none, out := none, relink := false, deskews := 0 }

/-- A loop slot after reset: OFF, with nothing kept. -/
def LoopSt.init : LoopSt :=
  { svc := false, i := 0, e1 := 0, e2 := 0, w1 := 0, w2 := 0, x1 := 0, y1 := 0, mark := false, preset := .none, um := none,
    done := false, seen := none, cmd := none, trip := none,
    fromOpen := false, out := none, hold := false, evaluated := false }

def PrfSt.init : PrfSt :=
  { p := 0, v := 0, a := 0, target := none, arrv := 0, cmd := none, out := none }

def TraceSt.init : TraceSt := { ring := [], nodes := [], started := false, cmdTrig := false, after := 0 }

def SchedSt.init : SchedSt := { ovr := false, since := 0, lastVal := none, fresh := false }

def Rtc.init : Rtc := { sec := 0, tvalid := false, staged := none, pend := none }

def SeqSt.init : SeqSt :=
  { conv := none, last := none, redo := [], rpar := false, urgent := [], queue := [], loss := false, cal := none,
    calPend := false, test := false }

def AfeSt.init : AfeSt :=
  { timedAt := none, seqs := Vector.replicate 2 SeqSt.init, slots := Vector.replicate 32 { upCount := 0, settling := false },
    testExc := none }

def FanSt.init : FanSt :=
  { lastCmd := none, cmd := .safe, svcHold := .safe, i := 0, d := 0, step := 0, commIn := none, ang := 0, startT := 0,
    braking := false, zc := [], fg := [], good := 0, lostRot := false, curSum := 0, curN := 0, test := none, cut := false,
    preset := false, starts := 0, levelSum := 0, levelMax := 0, peakSum := 0, peakNow := 0 }

def ValveSt.init : ValveSt :=
  { lastCmd := none, on := false, cyc := 0, cycLen := 0, onLen := 0, reqAt := 0, vgAt := none, ipkAt := none,
    leadUntil := none, vg := false, offNs := none, onSum := 0, periods := 0, svcCmd := none, test := none, up := false, noReq := false, holds := 0,
    dutySum := 0, dutySq := 0 }

def ActSt.init : ActSt :=
  { fans := Vector.replicate 3 FanSt.init, valves := Vector.replicate 8 ValveSt.init,
    hsw := Vector.replicate 2 { waiting := [], high := false },
    dacs := Vector.replicate 6 { lastCmd := none, test := none, svcVal := 0 },
    groups := Vector.replicate 3 { late := false, armed := none }, applied := false, tripped := false }

def GpioBank.init : GpioBank :=
  { pins := Vector.replicate 4 { lastCmd := none, value := none, cand := false, stable := 0 } }

def BDevInfo.empty : BDevInfo :=
  { name := [], vendorName := [], vendorId := 0, model := [], firmware := [], software := [], dbRev := 0 }

/-- A port with no BUS section (R336). -/
def BusSt.init : BusSt :=
  { dev := BDevInfo.empty, objs := [], subs := [], goodRun := 0, badRun := 0, node := .idle, next := 0, poll := 0,
    tokens := 0, retries := 0, sole := false, iAmDue := false, trans := [], devs := [], bauds := [],
    nextTrans := 0, cycling := false, overrun := false, revived := [], attempt := none, sent := [] }

def FlashSt.init : FlashSt :=
  { chips := Vector.replicate 2 (Chip.blank []), openBuf := none, waiting := [], running := none, sent := [],
    wip := false }

def PspSt.init : PspSt := { running := none, waiting := [], out := [] }

def Win.init : Win := { a := none, b := none, lastA := true, fetch := [] }

def HspSt.init : HspSt :=
  { xfer := .none, wins := Vector.replicate 4 Win.init, stage := none, out := 0 }

def TallySt.init : TallySt :=
  { mem := [], running := none, waiting := [], events := [], openBuf := none, counters := Vector.replicate 64 0,
    scanned := false, held := [], batch := Vector.replicate 64 0, begun := none, rcmd := none }

def CmpSt.init : CmpSt := { queue := [], running := none, nextId := 0, results := [] }

/-- The phase accumulator, the sample counter and the frame number start together at 0 (R23). -/
def Tick.init : Tick :=
  { running := true, phase := 0, cycles := 0, staged := none, pend := none, sample := 0, ftCount := 0,
    ftDue := false, frame := 0, liveCount := 0, liveDue := false }

/-- RESET_N and PGOOD high, LIVE low (Table 3-4), no ball forced. -/
def Balls.init : Balls :=
  { resetN := true, pgood := true, live := false, sync := Vector.replicate 4 false, sysoff := false, nvwp := true,
    forced := [], resets := [] }

/-- XIN oscillates, and the RTC crystal has not been judged (R92, R97). -/
def Clock.init : Clock := { xin := true, pendFbk := none, rtcJudged := false }

/-- D0 is ON, every other domain OFF (R82). -/
def Power.init : Power :=
  { doms := (Vector.replicate 30 { st := .off, pend := none }).set 0 { st := .on, pend := none }, aon := true
    railTrip := false }

/-- The VARIANT fuses of an SLZ4860 (Table 18-9: 0x3C in bits 0 to 7), no other fuse programmed.
DESIGN CHOICE: notes/assumptions/5. -/
def fusesAtReset : List Nat := [2, 3, 4, 5]

/-- The block right after reset release: every register at its Reset value (R11), D0 alone powered, the boot sequencer
waiting for the crystal (Table 6-9); no chip of flash or tally store holds anything but 0xFF. -/
def State.reset : State :=
  { pending := []
    regs := { cells := [], seenHsp := [], seenCon := [] }
    points := []
    tick := Tick.init
    balls := Balls.init
    power := Power.init
    clock := Clock.init
    therm := Therm.init
    boot := BootState.init
    heads := Vector.replicate 4 HeadSt.init
    bursts := BurstQ.init
    shut := Vector.replicate 4 ShutHead.init
    cruise := { head := none }
    stat := StatSt.init
    ctx := CtxSt.init
    loops := []
    prfs := []
    traces := Vector.replicate 4 TraceSt.init
    scheds := []
    rtc := Rtc.init
    afe := AfeSt.init
    act := ActSt.init
    gpio := GpioBank.init
    bus := Vector.replicate 2 BusSt.init
    flash := FlashSt.init
    psp := PspSt.init
    hsp := HspSt.init
    tally := TallySt.init
    cmp := CmpSt.init
    wram := { cells := [] }
    landing := { cells := [] }
    fab := { c3Taken := 0, out := [] }
    age := { running := false, pend := none }
    svc := { lines := [], echo := [] }
    fuses := fusesAtReset
    jtag := { reg := .idcode, dr := [], preload := [] }
    freeCtr := 0 }

end Sys2Proof.Machine
end

