-- ==== Sys2Proof/Machine/Ops.lean ====
section
/-! DEFINITION. The named operations over the state that the meanings share: sparse memories, registers and their fields,
statuses and RESULT, engine states, points, events, interrupts, and the footprint of a command. -/

namespace Sys2Proof.Machine
open Sys2Proof

/-! ### Sparse memories -/

/-- What a sparse memory holds at `k`; `d` is what an unlisted place reads as. -/
def cellsGet {α : Type} (d : Nat → α) : List (Nat × α) → Nat → α
  | [], k => d k
  | (a, v) :: t, k => if a = k then v else cellsGet d t k

/-- The memory without an entry at `k`. -/
def cellsDrop {α : Type} (l : List (Nat × α)) (k : Nat) : List (Nat × α) := l.filter (fun c => c.1 != k)

/-- The memory with `v` at `k`, kept canonical: places strictly rising, none at what an unlisted place reads as. -/
def cellsPut {α : Type} [DecidableEq α] (d : Nat → α) : List (Nat × α) → Nat → α → List (Nat × α)
  | [], k, v => if v = d k then [] else [(k, v)]
  | (a, w) :: t, k, v =>
    if k < a then (if v = d k then cellsDrop ((a, w) :: t) k else (k, v) :: (a, w) :: t)
    else if k = a then (if v = d k then cellsDrop t k else (k, v) :: t)
    else (a, w) :: cellsPut d t k v

/-- The canonical form: places strictly rising above `lo`, no entry at its default. -/
def cellsWf {α : Type} [DecidableEq α] (d : Nat → α) : Nat → List (Nat × α) → Bool
  | _, [] => true
  | lo, (a, v) :: t => Nat.ble lo a && !decide (v = d a) && cellsWf d (a + 1) t

/-- The memory with the listed values from `k` on. -/
def cellsPutAll {α : Type} [DecidableEq α] (d : Nat → α) (m : List (Nat × α)) (k : Nat) : List α → List (Nat × α)
  | [] => m
  | v :: vs => cellsPutAll d (cellsPut d m k v) (k + 1) vs

/-- `n` places from `k` on. -/
def cellsRead {α : Type} (d : Nat → α) (m : List (Nat × α)) (k n : Nat) : List α :=
  (List.range n).map (fun i => cellsGet d m (k + i))

/-- An entry of an assigned list (points): none where the number is not listed. -/
def assocGet {α : Type} : List (Nat × α) → Nat → Option α
  | [], _ => none
  | (a, v) :: t, k => if a = k then some v else assocGet t k

/-- The list with `v` at `k`, numbers strictly rising. -/
def assocPut {α : Type} : List (Nat × α) → Nat → α → List (Nat × α)
  | [], k, v => [(k, v)]
  | (a, w) :: t, k, v =>
    if k < a then (k, v) :: (a, w) :: t
    else if k = a then (k, v) :: t
    else (a, w) :: assocPut t k v

/-- A vector with its `i`-th entry changed; unchanged beyond its end. -/
def vmod {α : Type} {n : Nat} (v : Vector α n) (i : Nat) (f : α → α) : Vector α n :=
  if h : i < n then v.set i (f v[i]) h else v

/-! ### Status codes (Table 2-7) -/

namespace Status
abbrev OK : Nat := 0x00
abbrev ILLEGAL_STATE : Nat := 0x01
abbrev BAD_ARG : Nat := 0x02
abbrev DOWN : Nat := 0x03
abbrev REFUSED : Nat := 0x04
abbrev DELAYED : Nat := 0x05
abbrev OUT_OF_SPACE : Nat := 0x06
abbrev NOT_YET : Nat := 0x07
abbrev STALE : Nat := 0x08
abbrev HELD : Nat := 0x09
abbrev CHECK_FAIL : Nat := 0x0A
abbrev TIMEOUT : Nat := 0x0B
abbrev LOCKED : Nat := 0x0C
abbrev IMPLAUSIBLE : Nat := 0x0D
abbrev OVERRUN : Nat := 0x0E
abbrev HOLE : Nat := 0x0F
abbrev EQUAL_SEQ : Nat := 0x10
abbrev DROPPED : Nat := 0x11
abbrev SHORT_FRAME : Nat := 0x12
abbrev LONG_FRAME : Nat := 0x13
abbrev MISSED : Nat := 0x14
abbrev CLIPPED : Nat := 0x15
abbrev FAULT : Nat := 0x16
abbrev BUSY : Nat := 0x17
end Status

/-! ### Registers -/

/-- A register's word. -/
def Regs.get (r : Regs) (k : Nat) : Word := cellsGet resetVal r.cells k

/-- The address in the host's space of a register: windowed registers are seen at their window's address. -/
def seenKey (k : Nat) : Nat :=
  if k < 0x10000 then k
  else if k < 0x20000 then
    (let l := (k - 0x10000) / 0x40
     (if l < 256 then 0x6400 else 0x6800) + 0x210 + k % 0x40)
  else if k < 0x30000 then 0x5401 + k % 8
  else if k < 0x40000 then 0x9400 + k % 0x100
  else k

/-- The register file with a word stored. A changed word is no longer one that a reader has seen (R349). -/
def Regs.put (r : Regs) (k : Nat) (v : Word) : Regs :=
  if r.get k = v then r
  else
    { cells := cellsPut resetVal r.cells k v
      seenHsp := r.seenHsp.filter (fun p => p.1 != seenKey k)
      seenCon := r.seenCon.filter (fun p => p.1 != seenKey k) }

/-- The register file with a word stored by an RC clear, which does not count as a change (R349). -/
def Regs.clear (r : Regs) (k : Nat) (v : Word) : Regs :=
  { cells := cellsPut resetVal r.cells k v
    seenHsp := r.seenHsp.map (fun p => if p.1 = seenKey k then (p.1, v.toNat) else p)
    seenCon := r.seenCon.map (fun p => if p.1 = seenKey k then (p.1, v.toNat) else p) }

/-- A register's word as a number. -/
def State.rdKey (s : State) (k : Nat) : Nat := (s.regs.get k).toNat

/-- A field's value. -/
def State.rd (s : State) (f : Fld) : Nat := bitsOf (s.rdKey f.key) f.hi f.lo

/-- Is a one-bit field 1? -/
def State.rdB (s : State) (f : Fld) : Bool := s.rd f != 0

/-- The state with a register's word stored. -/
def State.wrKey (s : State) (k v : Nat) : State :=
  { s with regs := s.regs.put k (BitVec.ofNat 18 v) }

/-- The state with a field stored. -/
def State.wr (s : State) (f : Fld) (v : Nat) : State := s.wrKey f.key (putBits (s.rdKey f.key) f.hi f.lo v)

def State.wrB (s : State) (f : Fld) (b : Bool) : State := s.wr f (if b then 1 else 0)

/-- A field as a signed number. -/
def State.rdS (s : State) (f : Fld) : Int := toSigned (f.hi + 1 - f.lo) (s.rd f)

/-- A signed field stored. -/
def State.wrS (s : State) (f : Fld) (v : Int) : State := s.wr f (ofSigned (f.hi + 1 - f.lo) v)

/-- A counter field counted up by one, saturating at the field's all-ones value. -/
def State.bump (s : State) (f : Fld) : State :=
  let m := 2 ^ (f.hi + 1 - f.lo) - 1
  if s.rd f < m then s.wr f (s.rd f + 1) else s

/-- A number held in a low register and a high one (R33 pairs): `lo` holds 18 bits. -/
def State.rdPair (s : State) (lo hi : Fld) : Nat := s.rd lo + s.rd hi * 2 ^ 18

def State.wrPair (s : State) (lo hi : Fld) (v : Nat) : State := (s.wr lo (v % 2 ^ 18)).wr hi (v / 2 ^ 18)

/-! ### Blocks and engines -/

/-- STATE.STATE of a block (Table 2-10). -/
def Blk.stateFld (b : Blk) : Fld := ⟨b.base + 0x3FC, 2, 0⟩

/-- STATE.UNLOCKED of a block. -/
def Blk.unlockedFld (b : Blk) : Fld := ⟨b.base + 0x3FC, 3, 3⟩

/-- RESULT.STATUS and RESULT.OFFSET of a block (Table 2-12). -/
def Blk.statusFld (b : Blk) : Fld := ⟨b.base + 0x3FE, 14, 10⟩
def Blk.offsetFld (b : Blk) : Fld := ⟨b.base + 0x3FE, 9, 0⟩

/-- Engine state codes (Table 2-8). -/
abbrev stInService : Nat := 0
abbrev stDrain : Nat := 1
abbrev stDown : Nat := 2
abbrev stLoading : Nat := 3
abbrev stService : Nat := 4

/-- Engine state of a block. -/
def State.blk (s : State) (b : Blk) : Nat := s.rd b.stateFld

def State.unlocked (s : State) (b : Blk) : Bool := s.rdB b.unlockedFld

/-- A block's engine takes a state; a change of state locks the block (R54). -/
def State.setBlk (s : State) (b : Blk) (st : Nat) : State :=
  if s.blk b = st then s else (s.wr b.stateFld st).wrB b.unlockedFld false

def Engine.mainBlk (e : Engine) : Blk := e.blocks.headD .sys

/-- State of an engine. -/
def State.eng (s : State) (e : Engine) : Nat := s.blk e.mainBlk

def State.setEng (s : State) (e : Engine) (st : Nat) : State := e.blocks.foldl (fun s b => s.setBlk b st) s

/-- IN_SERVICE, or SERVICE where no rule names it apart (R50). -/
def State.works (s : State) (e : Engine) : Bool := s.eng e == stInService || s.eng e == stService

/-- The device is in SERVICE (R49). -/
def State.service (s : State) : Bool := s.rdB Reg.SVC_STAT_SVC

/-- RESULT of a block takes an outcome and an offset (R52). -/
def State.result (s : State) (b : Blk) (off st : Nat) : State := (s.wr b.statusFld st).wr b.offsetFld off

/-- The judgement that every command meets first: DOWN once the trip sequence has begun (Table 5-4), ILLEGAL_STATE for
an engine in DRAIN, DOWN or LOADING (R51) and for a locked block where the command needs it unlocked (R54). -/
def State.gate (s : State) (b : Blk) (needUnlock : Bool) : Nat :=
  if s.therm.tripped then Status.DOWN
  else if s.blk b = stDrain ∨ s.blk b = stDown ∨ s.blk b = stLoading then Status.ILLEGAL_STATE
  else if needUnlock && !s.unlocked b then Status.ILLEGAL_STATE
  else Status.OK

/-- A command's outcome goes to its CSTAT field, where it has one, and to RESULT. -/
def State.answer (s : State) (b : Blk) (off : Nat) (cstat : Option Fld) (st : Nat) : State :=
  (match cstat with | some f => s.wr f st | none => s).result b off st

/-! ### Variant and fuses -/

/-- Bit `i` of the fuse array (R390). -/
def State.fuseBit (s : State) (i : Nat) : Bool := memNat i s.fuses

/-- Bits `lo` upwards of a list of programmed bits as a number, least significant bit lowest. -/
def fuseNum (f : List Nat) (lo : Nat) : Nat → Nat
  | 0 => 0
  | n + 1 => (if memNat lo f then 1 else 0) + 2 * fuseNum f (lo + 1) n

/-- A field of the fuse array, `n` bits from `lo`. -/
def State.fuseField (s : State) (lo n : Nat) : Nat := fuseNum s.fuses lo n

/-- A field of the fuse shadow, which step 2 of Table 6-1 fills (R390). The lock fuses and those that the fuse registers show are
read from the array (DEDUCED, notes/assumptions/121). -/
def State.shadowField (s : State) (lo n : Nat) : Nat := fuseNum s.boot.shadow lo n

/-- The variants (Table 18-9); an unrecognised code is taken as the SLZ4820. -/
inductive Variant where
  | slz4860 | slz4840 | slz4820
  deriving DecidableEq, Repr

def State.variant (s : State) : Variant :=
  let c := s.fuseField 0 8
  if c = 0x3C then .slz4860 else if c = 0x5A then .slz4840 else .slz4820

/-- DBGLOCK is in force when any of its four bits is 1. -/
def State.dbgLock (s : State) : Bool := s.fuseField 8 4 != 0

/-- The privacy lock is in force from its fuses or from the image (R214). -/
def State.privLock (s : State) : Bool := s.fuseField 12 4 != 0 || s.boot.privImg

/-- The state of a power domain (Table 4-2). -/
def State.dom (s : State) (d : Nat) : Domain := (s.power.doms[d]?).getD { st := .off, pend := none }

def State.domOn (s : State) (d : Nat) : Bool := decide ((s.dom d).st = .on)

/-! ### Open values -/

/-- A free word, and the counter advanced (notes/assumptions/1). -/
def State.freeW (s : State) (k : Nat) : Word × State :=
  (Config.freeWord k s.freeCtr, { s with freeCtr := s.freeCtr + 1 })

/-- A free number, and the counter advanced. -/
def State.freeN (s : State) : Nat × State := (Config.freeNat s.freeCtr, { s with freeCtr := s.freeCtr + 1 })

/-- A free truth value, and the counter advanced. -/
def State.freeB (s : State) : Bool × State := (Config.freeBool s.freeCtr, { s with freeCtr := s.freeCtr + 1 })

/-! ### Points (Table 2-3) -/

/-- What happens to a point's entry. -/
inductive PTrig where
  /-- A result within range. -/
  | write (v : Word)
  /-- A result outside its range, with the range limit. -/
  | clip (v : Word)
  /-- The source reports a failure; a value where its chapter gives one. -/
  | fail (v : Option Word)
  /-- No result at the due time, or no write for twice the expected interval. -/
  | noResult
  /-- Age exceeds the hold allowance. -/
  | overAge
  deriving DecidableEq, Repr

/-- Quality transitions of an entry that is not FORCED; a pair that Table 2-3 does not list changes nothing (R42). -/
def PVal.trig (p : PVal) (t : PTrig) : PVal :=
  match t, p.quality with
  | _, .forced => p
  | .write v, _ => { value := v, quality := .fresh, age := 0 }
  | .clip v, _ => { value := v, quality := .clipped, age := 0 }
  | .fail _, .fault => p
  | .fail v, _ => { p with value := v.getD p.value, quality := .fault }
  | .noResult, .fresh => { p with quality := .held }
  | .noResult, .clipped => { p with quality := .held }
  | .noResult, _ => p
  | .overAge, .held => { p with quality := .stale }
  | .overAge, _ => p

/-- While a point is FORCED its shadow entry takes what its source does (R46). -/
def Point.trig (p : Point) (t : PTrig) : Point :=
  match p.shadow with
  | some sh => { p with shadow := some (sh.trig t) }
  | none => { p with v := p.v.trig t }

def State.point (s : State) (n : Nat) : Option Point := assocGet s.points n

/-- Quality codes (Table 2-2). -/
def Quality.code : Quality → Nat
  | .fresh => 0 | .held => 1 | .stale => 2 | .forced => 3 | .fault => 4 | .notYet => 5 | .clipped => 6

/-- A point stored. A change of its value or quality is a change for the read tags; one of its age alone is not (R45). -/
def State.putPoint (s : State) (n : Nat) (p : Point) : State :=
  let same : Bool := match s.point n with
    | some q => decide (q.v.value = p.v.value) && decide (q.v.quality = p.v.quality)
    | none => false
  let s := { s with points := assocPut s.points n p }
  if same then s
  else { s with regs := { s.regs with
          seenHsp := s.regs.seenHsp.filter (fun q => q.1 != 0xC000 + n)
          seenCon := s.regs.seenCon.filter (fun q => q.1 != 0xC000 + n) } }

/-- A trigger at a point; an unassigned point holds nothing to change. -/
def State.ptTrig (s : State) (n : Nat) (t : PTrig) : State :=
  match s.point n with
  | some p => s.putPoint n (p.trig t)
  | none => s

/-- A source writes to a point: only the point's own source may; another one's write, and one to a point without a source, is
discarded, and RESULT of the writer's block records REFUSED (R36). -/
def State.srcTrig (s : State) (b : Blk) (src : PSrc) (n : Nat) (t : PTrig) : State :=
  match s.point n with
  | some p =>
    if p.source = src then s.putPoint n (p.trig t)
    else s.wr b.statusFld Status.REFUSED
  | none => s.wr b.statusFld Status.REFUSED

/-- Usable for a reader that has a hold allowance of its own only through the point's quality (Table 2-2). -/
def Quality.usable : Quality → Bool
  | .fresh | .held | .forced | .clipped => true
  | .stale | .fault | .notYet => false

/-! ### Events, interrupts -/

/-- A bit of HSP_IRQ set by an event (Table 16-4). -/
def State.irq (s : State) (bit : Nat) : State := s.wr ⟨0x2006, bit, bit⟩ 1

/-- Three bytes of a number, little-endian. -/
def le3 (v : Nat) : List Nat := [v % 256, v / 256 % 256, v / 65536 % 256]

/-- A batched count (R358, Table 16-11). -/
def State.batch (s : State) (c : Nat) : State :=
  { s with tally := { s.tally with batch := vmod s.tally.batch c (· + 1) } }

/-! ### Footprints -/

/-- The parts of the state. -/
inductive Part where
  | points | tick | balls | power | clock | therm | boot | heads | bursts | shut | cruise | stat | ctx | loops
  | prfs | traces | scheds | rtc | afe | act | gpio | bus | flash | psp | hsp | tally | cmp | wram | landing | fab
  | age | svc | fuses | jtag | freeCtr
  deriving DecidableEq, Repr

/-- The footprint of a command: the ranges of register keys, and the parts of the state, that it may write. -/
structure Footprint where
  /-- First key, and the key after the last. -/
  regs : List (Nat × Nat)
  parts : List Part
  deriving DecidableEq, Repr

def Footprint.holds (f : Footprint) (k : Nat) : Bool := f.regs.any (fun r => Nat.ble r.1 k && Nat.blt k r.2)

def Footprint.has (f : Footprint) (p : Part) : Bool := f.parts.any (fun q => decide (q = p))

/-- The registers of a block. -/
def Blk.range (b : Blk) : Nat × Nat := (b.base, b.base + 0x400)

/-- The register file `new` inside the footprint and `old` outside it. -/
def Regs.confine (f : Footprint) (old new : Regs) : Regs :=
  { cells := (new.cells.filter (fun c => f.holds c.1)).foldr (fun c l => cellsPut resetVal l c.1 c.2)
      (old.cells.filter (fun c => !f.holds c.1))
    seenHsp := new.seenHsp
    seenCon := new.seenCon }

/-- The state after a command: `t` on the command's footprint, `s` elsewhere. What a command leaves unchanged is said
here, once for all of them; the queue is never a command's to change. -/
def State.confine (f : Footprint) (s t : State) : State :=
  { pending := s.pending
    regs := Regs.confine f s.regs t.regs
    points := if f.has .points then t.points else s.points
    tick := if f.has .tick then t.tick else s.tick
    balls := if f.has .balls then t.balls else s.balls
    power := if f.has .power then t.power else s.power
    clock := if f.has .clock then t.clock else s.clock
    therm := if f.has .therm then t.therm else s.therm
    boot := if f.has .boot then t.boot else s.boot
    heads := if f.has .heads then t.heads else s.heads
    bursts := if f.has .bursts then t.bursts else s.bursts
    shut := if f.has .shut then t.shut else s.shut
    cruise := if f.has .cruise then t.cruise else s.cruise
    stat := if f.has .stat then t.stat else s.stat
    ctx := if f.has .ctx then t.ctx else s.ctx
    loops := if f.has .loops then t.loops else s.loops
    prfs := if f.has .prfs then t.prfs else s.prfs
    traces := if f.has .traces then t.traces else s.traces
    scheds := if f.has .scheds then t.scheds else s.scheds
    rtc := if f.has .rtc then t.rtc else s.rtc
    afe := if f.has .afe then t.afe else s.afe
    act := if f.has .act then t.act else s.act
    gpio := if f.has .gpio then t.gpio else s.gpio
    bus := if f.has .bus then t.bus else s.bus
    flash := if f.has .flash then t.flash else s.flash
    psp := if f.has .psp then t.psp else s.psp
    hsp := if f.has .hsp then t.hsp else s.hsp
    tally := if f.has .tally then t.tally else s.tally
    cmp := if f.has .cmp then t.cmp else s.cmp
    wram := if f.has .wram then t.wram else s.wram
    landing := if f.has .landing then t.landing else s.landing
    fab := if f.has .fab then t.fab else s.fab
    age := if f.has .age then t.age else s.age
    svc := if f.has .svc then t.svc else s.svc
    fuses := if f.has .fuses then t.fuses else s.fuses
    jtag := if f.has .jtag then t.jtag else s.jtag
    freeCtr := if f.has .freeCtr then t.freeCtr else s.freeCtr }

/-- ALERT_N is asserted (R70): until the control sections are loaded, in the trip sequence and in shutdown, at L3
(Table 5-2), on a boot alert (R123) and on AGEFAIL (R385). -/
def State.alert (s : State) : Bool :=
  s.boot.loading || s.therm.tripped || s.rd Reg.THM_STAT_LEVEL == 3 || s.rdB Reg.BOOT_ALERT_NOIMAGE ||
  s.rdB Reg.BOOT_ALERT_FALLBACK || s.rdB Reg.BOOT_ALERT_SECDOWN || s.rdB Reg.AGE_REPLAN_AGEFAIL

/-- The assertion of ALERT_N sets its bit of HSP_IRQ, except in reset (Table 16-4). -/
def State.alertEdge (old new : State) : State :=
  if new.alert && !old.alert && new.balls.resetN && new.balls.pgood then new.irq 8 else new

/-- A command acts on its footprint; ALERT_N follows it. -/
abbrev State.settle (f : Footprint) (s t : State) : State := State.alertEdge s (s.confine f t)

/-- D0 is out of reset: VDD_AON is there and RESET_N is high (R61, R79). -/
def State.d0Up (s : State) : Bool := s.power.aon && s.balls.resetN

/-- No domain is held in reset or shut down: RESET_N and PGOOD are high, no rail monitor holds the device, and the trip
sequence has not reached its step 7 (R61, R80, Table 5-4). -/
def State.up (s : State) : Bool := s.d0Up && s.balls.pgood && !s.power.railTrip && !s.therm.shutdown

/-- Registers that D0 holds: the tick generator's, the supervisor's, the schedule engine's, the comparators' FAN_GSTAT, and those marked as held in D0
(R81, R269, R306, 05: THM registers, Tables 4-12, 4-13, 4-16, 4-17). -/
def d0Regs : List (Nat × Nat) :=
  [(0, 0x400), (0x405, 0x406), (0x800, 0x801), (0x803, 0x805), (0xC00, 0x1000), (0x7F04, 0x7F05), (0x9400, 0x9800),
   (0x30000, 0x40000)]

/-- Registers of the AON keep: rail flags, the RTC's two bits of CLK_STAT, IOSC trim, loss counters (R61). -/
def keepRegs : List (Nat × Nat) := [(0x405, 0x406), (0x800, 0x801), (0x803, 0x805)]

/-- Parts of the state that D0 holds, and those of the AON keep (R61). -/
def d0Parts : List Part := [.tick, .balls, .power, .clock, .therm, .scheds, .rtc, .freeCtr]
def keepParts : List Part := [.power, .clock, .rtc, .freeCtr]

/-- The common part of two ranges of registers. -/
def rangeMeet (a b : Nat × Nat) : Nat × Nat := (max a.1 b.1, min a.2 b.2)

/-- A footprint within the given registers and parts. -/
def Footprint.within (f : Footprint) (regs : List (Nat × Nat)) (parts : List Part) : Footprint :=
  { regs := (f.regs.map (fun a => regs.map (rangeMeet a))).flatten
    parts := f.parts.filter (fun p => parts.any (fun q => decide (q = p))) }

/-- A command completes: the next state, held to the command's footprint. While the domains beyond D0 are held in reset or
shut down, it has no effect (R61, R66). -/
def done (f : Footprint) (s t : State) : Host.Outcome State Fault Refusal := .next (if s.up then s.settle f t else s)

/-- An event of D0 completes: while the other domains are held in reset or shut down it acts on what D0 holds, while D0 too
is in reset on the AON keep alone, and without VDD_AON on nothing (R61, R79, R81). -/
def doneHeld (f : Footprint) (s t : State) : Host.Outcome State Fault Refusal :=
  .next (if s.up then s.settle f t
    else if s.d0Up then s.settle (f.within d0Regs d0Parts) t
    else if s.power.aon then s.settle (f.within keepRegs keepParts) t
    else s)

/-- A change of a reset pin or a rail, or a restart, completes. -/
def doneReset (f : Footprint) (s t : State) : Host.Outcome State Fault Refusal := .next (s.settle f t)

/-- Registers that events, tally pulses and interrupts touch: TALLY_STAT, TALLY_RCMD, the tally counters and HSP_IRQ. -/
def fpEvents : List (Nat × Nat) := [(0x1400, 0x1401), (0x1418, 0x141B), (0x2006, 0x2007), (0x1405, 0x1406)]

/-- The balls of GPIO0 to GPIO3: P4, P15, P16 and N12; a ball's number is 16 × row + column − 1. -/
def gpioBall (g : Nat) : Nat := match g with | 0 => 211 | 1 => 222 | 2 => 223 | _ => 203

end Sys2Proof.Machine
end

