-- ==== Sys2Proof/Machine/Operands.lean ====
section
/-! DEFINITION. The operands of commands: which units a variant has (R6, R7), and how memories present bytes and words
(R342, R351, R361). -/

namespace Sys2Proof.Machine
open Sys2Proof

/-! ### Units present (R6, R7, 00_scope: variants) -/

/-- Sensor ports of a variant. -/
def Variant.heads : Variant → Nat
  | .slz4860 => 4 | .slz4840 => 2 | .slz4820 => 1

/-- Loop slots of a variant. -/
def Variant.loops : Variant → Nat
  | .slz4860 => 512 | .slz4840 => 256 | .slz4820 => 128

/-- Resident pixels of a variant. -/
def Variant.pixels : Variant → Nat
  | .slz4860 => 2621440 | .slz4840 => 1310720 | .slz4820 => 655360

def State.headPresent (s : State) (h : Nat) : Bool := Nat.blt h s.variant.heads

def State.loopPresent (s : State) (l : Nat) : Bool := Nat.blt l s.variant.loops

/-- A block whose function the variant has; the registers of the others are unmapped (R6). -/
def State.blkPresent (s : State) (b : Blk) : Bool :=
  match b with
  | .head h => s.headPresent h.val
  | .pe h => s.headPresent h.val
  | .ctl c => s.loopPresent (256 * c.val)
  | _ => true

/-- Engine state of sensor port HRXh. -/
def State.headState (s : State) (h : Nat) : Nat := s.rd ⟨0x33FC + 0x400 * h, 2, 0⟩

/-- A head's descriptor registers hold a profile: it has pixels. -/
def State.headPixels (s : State) (h : Nat) : Nat := s.rd (Reg.HEAD_WIDTH h) * s.rd (Reg.HEAD_HEIGHT h)

/-- A PSP select that the HEAD_CTRL of a configured head names is owned by that head's port (R345). -/
def State.headOwns (s : State) (sel : Nat) : Bool :=
  (List.range 4).any (fun h => s.headPresent h && s.headPixels h != 0 && s.rd (Reg.HEAD_CTRL_PCS h) == sel)

/-- The port of head `h` sets its select to SPI mode 0 and to a clock of at most `mhz` MHz, PDIV from 60 to 3,000
(R137, R345). -/
def State.pspOwn (s : State) (h mhz : Nat) : State :=
  let sel := s.rd (Reg.HEAD_CTRL_PCS h)
  (s.wr (Reg.PSP_SCFG_MODE sel) 0).wr (Reg.PSP_SCFG_PDIV sel) (max 60 (min 3000 ((3000 + mhz - 1) / (max 1 mhz))))

/-! ### Bytes and words -/

/-- Two bytes a word, the earlier one in bits 7:0 (R342, R361). -/
def bytesOfWords : List Word → List Byte
  | [] => []
  | w :: ws => BitVec.ofNat 8 w.toNat :: BitVec.ofNat 8 (w.toNat / 256) :: bytesOfWords ws

def wordsOfBytes : List Byte → List Word
  | [] => []
  | [a] => [BitVec.ofNat 18 a.toNat]
  | a :: b :: t => BitVec.ofNat 18 (a.toNat + 256 * b.toNat) :: wordsOfBytes t

/-! ### Working RAM and landing -/

/-- What a word of working RAM or landing that nothing has written reads as (DESIGN CHOICE, notes/assumptions/7). -/
def wordBlank (_ : Nat) : Word := 0#18

/-- Landing buffers in words (R372). -/
abbrev landingWords : Nat := 932064

def WordMem.get (m : WordMem) (a : Nat) : Word := cellsGet wordBlank m.cells a

def WordMem.read (m : WordMem) (a n : Nat) : List Word := cellsRead wordBlank m.cells a n

def WordMem.putAll (m : WordMem) (a : Nat) (ws : List Word) : WordMem := { cells := cellsPutAll wordBlank m.cells a ws }

/-- A word of the resident store of head `h`: pixel `i`, with its four state fields and its map word (Tables 8-2, 8-3). -/
def State.px (s : State) (h : Nat) : List Px := match s.heads[h]? with | some hd => hd.px | none => []

end Sys2Proof.Machine
end

