-- ==== Sys2Proof/Machine/Capacity.lean ====
section
/-! DEFINITION. The capacity check (R34, R35, Table 1-10), with the figures that it reports: loop load (R247), fabric
shares (R377), and the margin of CAP_BURST (R385). Quantities are exact fractions. -/

namespace Sys2Proof.Machine
open Sys2Proof

/-- A non-negative fraction; `den` is not 0. -/
structure Frac where
  num : Nat
  den : Nat
  deriving DecidableEq, Repr

namespace Frac
def ofNat (n : Nat) : Frac := ⟨n, 1⟩
def add (a b : Frac) : Frac := ⟨a.num * b.den + b.num * a.den, a.den * b.den⟩
def mul (a b : Frac) : Frac := ⟨a.num * b.num, a.den * b.den⟩
def div (a b : Frac) : Frac := ⟨a.num * b.den, a.den * b.num⟩
def le (a b : Frac) : Bool := Nat.ble (a.num * b.den) (b.num * a.den)
def max (a b : Frac) : Frac := if a.le b then b else a
/-- `a - b`, 0 when negative. -/
def sub (a b : Frac) : Frac := ⟨a.num * b.den - b.num * a.den, a.den * b.den⟩
def sum (l : List Frac) : Frac := l.foldl add ⟨0, 1⟩
/-- Rounded up. -/
def ceil (a : Frac) : Nat := (a.num + a.den - 1) / a.den
def floor (a : Frac) : Nat := a.num / a.den
end Frac

/-- The ST rate in Hz (R16). -/
def stRate (stinc : Nat) : Frac := ⟨25000000 * stinc, 2 ^ 40⟩

/-- The FT period in ns (R21). -/
def ftPeriodNs (stinc n : Nat) : Frac := ⟨n * 40 * 2 ^ 40, stinc⟩

/-- Multiples of 150 MHz of the burst clock at a throttle level and under a ceiling (R35). -/
def burstMult (level ceilk : Nat) : Nat := min (match level with | 2 => 10 | 3 => 5 | _ => 20) ceilk

/-- Nanoseconds that `c` burst cycles take at `k` × 150 MHz. -/
def burstNs (k : Nat) (c : Frac) : Frac := c.mul ⟨1000, 150 * k⟩

/-- The heads of the image: those with pixels. -/
def State.imageHeads (s : State) : List Nat := (List.range 4).filter (fun h => s.headPixels h != 0)

/-- Resident pixels of all heads. -/
def State.sumP (s : State) : Nat := (s.imageHeads.map s.headPixels).foldl (· + ·) 0

/-- The latest declared end-of-frame time in µs. -/
def State.tfeMax (s : State) : Nat := (s.imageHeads.map (fun h => s.rd (Reg.HEAD_TFE h))).foldl max 0

/-- Heads and bonding of the variant (R8, R131). -/
def State.capHeads (s : State) : Bool :=
  let heads := s.imageHeads
  let bonds := (List.range 4).filter (fun h => s.rdB (Reg.HEAD_LINKCFG_BOND h) && memNat h heads)
  heads.all s.headPresent && bonds.all (fun h => h % 2 == 0 && s.headPresent (h + 1) && !memNat (h + 1) heads)

/-- Resources of the variant (R8): heads, bonding, shutter channels (R169). -/
def State.capResource (s : State) : Bool :=
  let shut := (List.range 4).filter (fun h => s.rdB (Reg.SHUT_CFG_EN h))
  let vlv := fun (h : Nat) => s.rd (Reg.SHUT_CFG_VLV h)
  s.capHeads &&
  shut.all (fun h => s.rdB (Reg.VLV_CFG_EN (vlv h)) && s.rdB (Reg.VLV_CFG_SHUT (vlv h)) &&
    s.rd (Reg.VLV_CFG_SHHEAD (vlv h)) == h && (shut.filter (fun g => vlv g == vlv h)).length == 1)

/-- Pixel-rate budget: the resident budget at 120 Hz (R155). -/
def State.rateBudget (s : State) : Nat := 120 * s.variant.pixels

/-- 90 bits a pixel of state and map, the raw ring and the landing buffers within 40 MiB. -/
def State.capMemory (s : State) : Bool :=
  Nat.ble (100 * 90 * s.sumP + 18 * 103 * s.sumP + 100 * 2 * 8388608) (100 * 40 * 8388608)

/-- Burst clock, FT period of the heads, and what the bursts and passes take. -/
structure CapCtx where
  stinc : Nat
  n : Nat
  level : Nat
  /-- f_B in units of 150 MHz. -/
  k : Nat
  deriving DecidableEq, Repr

def CapCtx.tH (c : CapCtx) : Frac := (ftPeriodNs c.stinc c.n).mul (Frac.ofNat (if c.level = 3 then 2 else 1))

/-- The limit T_H − 100 µs. -/
def CapCtx.limit (c : CapCtx) : Frac := c.tH.sub (Frac.ofNat 100000)

/-- t_FEmax + 13.8 µs + 0.9375 × ΣP / f_B in ns. -/
def State.burstTime (s : State) (c : CapCtx) : Frac :=
  (Frac.ofNat (s.tfeMax * 1000 + 13800)).add (burstNs c.k ⟨15 * s.sumP, 16⟩)

/-! ### CAP_EXPORT (R220) -/

def State.exporting (s : State) : List Nat :=
  s.imageHeads.filter (fun h => s.rdB (Reg.CTX_HCFG_EXPIMG h) || s.rdB (Reg.CTX_HCFG_EXPSTAT h) ||
    s.rdB (Reg.CTX_HCFG_EXPOCC h))

/-- t_line of `b` payload bytes in ns; the link carries lanes × RATE × 10 Mbit/s. -/
def State.lineTime (s : State) (b : Nat) : Frac :=
  let lanes := 2 ^ s.rd Reg.CTX_LINK_LANES
  (⟨(b + 6) * 8 * 1000, lanes * s.rd Reg.CTX_LINK_RATE * 10⟩ : Frac).add (Frac.ofNat 200)

/-- Bytes of an image line of head `h`. -/
def State.imageLineBytes (s : State) (h : Nat) : Nat :=
  let w := s.rd (Reg.HEAD_WIDTH h)
  if s.rdB (Reg.CTX_HCFG_DT h) then 2 * w else 9 * ((w + 3) / 4)

/-- t_ro(h); `img` says whether image lines are sent. -/
def State.readOut (s : State) (h : Nat) (img : Bool) : Frac :=
  let base := (Frac.ofNat 10000).add (s.lineTime 36)
  if img then base.add ((Frac.ofNat (s.rd (Reg.HEAD_HEIGHT h))).mul (s.lineTime (s.imageLineBytes h))) else base

/-- Lines of `n` records of `bytes` each, at most `per` to a line. -/
def State.recTime (s : State) (n per bytes : Nat) : Frac :=
  ((Frac.ofNat (n / per)).mul (s.lineTime (per * bytes))).add
    (if n % per = 0 then Frac.ofNat 0 else s.lineTime (n % per * bytes))

/-- Enabled stands of head `h`. -/
def State.standsOf (s : State) (h : Nat) : List Nat :=
  (List.range 1024).filter (fun st => s.rdB (Reg.STAND_SCFG0_EN st) && s.rd (Reg.STAND_SCFG0_HEAD st) == h)

/-- t_rec(h). -/
def State.records (s : State) (h : Nat) : Frac :=
  let a := if s.rdB (Reg.CTX_HCFG_EXPSTAT h) then s.recTime (s.standsOf h).length 24 84 else Frac.ofNat 0
  if s.rdB (Reg.CTX_HCFG_EXPOCC h) then a.add (s.recTime 256 62 33) else a

def State.exportTime (s : State) (c : CapCtx) : Frac :=
  let xs := s.exporting
  let ro := Frac.sum (xs.map (fun h => s.readOut h (s.rdB (Reg.CTX_HCFG_EXPIMG h) && !s.privLock)))
  let rec_ := Frac.sum (xs.map s.records)
  let bursts := (Frac.ofNat (s.tfeMax * 1000 + 13800)).add (burstNs c.k ⟨5 * s.sumP, 8⟩)
  ((bursts.add ro).max (s.burstTime c)).add rec_

/-! ### CAP_LOOPS (R224, R247) -/

/-- The configured slots of a cluster with their K and PHASE. -/
def State.clusterLoops (s : State) (c : Nat) : List (Nat × Nat) :=
  (List.range 256).filterMap (fun i =>
    let l := 256 * c + i
    if s.rdB (Reg.CTL_OUTPT_OUTEN l) then
      some (s.rd (Reg.CTL_MODE_K l), s.rd (Reg.CTL_PHASE l) + 2 ^ 18 * s.rd (Reg.CTL_MODE_PHASE l))
    else none)

/-- The largest number of loops due at one value of the sample counter: those of rate ST/2^d, and the better half of the
others by the next bit of the counter. -/
def maxDue : Nat → Nat → List (Nat × Nat) → Nat
  | 0, _, ls => ls.length
  | _, _, [] => 0
  | f + 1, d, ls =>
    let here := ls.filter (fun l => Nat.ble l.1 d)
    let rest := ls.filter (fun l => Nat.blt d l.1)
    let half := fun (b : Nat) => rest.filter (fun l => l.2 / 2 ^ d % 2 == b)
    here.length + max (maxDue f (d + 1) (half 0)) (maxDue f (d + 1) (half 1))

def State.dueMax (s : State) (c : Nat) : Nat := maxDue 21 0 (s.clusterLoops c)

/-- Share of the ST period in 0.1%, rounded up and held to the field. -/
def utilOf (due stinc : Nat) : Nat :=
  min 1023 (((Frac.ofNat ((48 * due + 64) * 1000)).mul (stRate stinc)).div (Frac.ofNat 750000000)).ceil

def loopsFit (due stinc : Nat) : Bool :=
  ((Frac.ofNat (48 * due + 64)).mul (stRate stinc)).le ⟨85 * 750000000, 100⟩

/-! ### CAP_FABRIC (R377) -/

/-- The data rates of Table 13-3, as decimations of 6.25 MHz. -/
def afeDecim (rate : Nat) : Nat :=
  [200, 400, 800, 1600, 3125, 6250, 12500, 25000, 62500, 125000, 250000, 312500, 625000, 1250000, 2500000].getD rate 2500000

/-- t_conv of a slot in ns (R277). -/
def State.afeConvNs (s : State) (i : Nat) : Nat :=
  let ns := match s.rd (Reg.AFE_SLOTCFG2_FILT i) with | 0 => 1 | 1 => 3 | _ => 4
  2560 + 1000 * s.rd (Reg.AFE_EXSET i) + ns * 160 * afeDecim (s.rd (Reg.AFE_SLOTCFG2_RATE i))

/-- The enabled NORMAL slots of a sequencer. -/
def State.afeNormal (s : State) (q : Nat) : List Nat :=
  (List.range 32).filter (fun i => s.rdB (Reg.AFE_SLOTCFG0_EN i) && s.rd (Reg.AFE_SLOTCFG0_SEQ i) == q &&
    !s.rdB (Reg.AFE_SLOTCFG0_URG i))

/-- The round time T_R of a sequencer in ns (R278). -/
def State.afeRoundNs (s : State) (q : Nat) : Nat :=
  ((s.afeNormal q).map (fun i => (if s.rdB (Reg.AFE_SLOTCFG0_ALT i) then 2 else 1) * s.afeConvNs i)).foldl (· + ·) 0

/-- AFE results a second: one per slot and round, and those of timed urgent slots. -/
def State.afeResults (s : State) (stinc : Nat) : Frac :=
  let normal := (List.range 2).map (fun q =>
    let t := s.afeRoundNs q
    if t = 0 then Frac.ofNat 0 else (⟨(s.afeNormal q).length * 1000000000, t⟩ : Frac))
  let urgent := ((List.range 32).filter (fun i => s.rdB (Reg.AFE_SLOTCFG0_EN i) && s.rdB (Reg.AFE_SLOTCFG0_URG i) &&
    s.rdB (Reg.AFE_URGCFG_UTIM i))).map (fun i => (stRate stinc).div (Frac.ofNat (2 ^ s.rd (Reg.AFE_URGCFG_UK i))))
  Frac.sum (normal ++ urgent)

/-- Actuator samples a second: a valve with a command point and a DAC once an ST edge, a fan once a PWM period
(notes/assumptions/30). -/
def State.actSamples (s : State) (stinc : Nat) : Frac :=
  let v := ((List.range 8).filter (fun i => s.rdB (Reg.VLV_CFG_EN i) && !s.rdB (Reg.VLV_CFG_SHUT i))).length
  let d := ((List.range 6).filter (fun i => s.rdB (Reg.DAC_CFG_EN i))).length
  let f := ((List.range 3).filter (fun i => s.rdB (Reg.FAN_CFG_EN i))).map (fun i =>
    (⟨93750000, max 1 (s.rd (Reg.FAN_PWM i))⟩ : Frac))
  Frac.sum (((stRate stinc).mul (Frac.ofNat (v + d))) :: f)

/-- Taken frames of the heads a second. -/
def CapCtx.frameRate (c : CapCtx) : Frac := (Frac.ofNat 1000000000).div c.tH

/-- Bits a second that the slice ports carry. -/
def CapCtx.sliceBits (c : CapCtx) : Frac := Frac.ofNat (576 * 150000000 * c.k)

/-- Share of the slice ports: C1, C2 and C3 (R377). -/
def State.sliceShare (s : State) (c : CapCtx) (c3shr : Nat) : Frac :=
  let pix := fun (hs : List Nat) => (hs.map s.headPixels).foldl (· + ·) 0
  let img := s.imageHeads.filter (fun h => s.rdB (Reg.CTX_HCFG_EXPIMG h))
  let c12 := (Frac.ofNat (540 * s.sumP + 90 * pix img)).mul c.frameRate
  (c12.div c.sliceBits).add ⟨c3shr, 100⟩

/-- Share of the working-RAM port: C0 (R377). -/
def State.wramShare (s : State) (c : CapCtx) : Frac :=
  let evals := Frac.sum (((List.range 2).map s.clusterLoops).flatten.map (fun l => ⟨1, 2 ^ l.1⟩))
  let steps := Frac.sum (((List.range 64).filter (fun g => s.rdB (Reg.PRF_CFG_EN g))).map (fun g =>
    (⟨1, 2 ^ s.rd (Reg.PRF_CFG_K g)⟩ : Frac)))
  let st := stRate c.stinc
  let cyc := (((Frac.ofNat 12).mul (evals.mul st)).add ((Frac.ofNat 4).mul (steps.mul st))).add
    (((Frac.ofNat 2).mul (s.afeResults c.stinc)).add (s.actSamples c.stinc))
  cyc.div (Frac.ofNat 3000000000)

/-- A share in 0.1%, rounded up and held to its field. -/
def tenths (f : Frac) : Nat := min 1023 (f.mul (Frac.ofNat 1000)).ceil

def State.fabricFits (s : State) (c : CapCtx) (c3shr : Nat) : Bool :=
  (s.sliceShare c c3shr).le ⟨80, 100⟩ && (s.wramShare c).le ⟨25, 100⟩

/-! ### The checks in order -/

/-- The context of a check: tick values, and the clocks in force. -/
def State.capCtx (s : State) (stinc n : Nat) : CapCtx :=
  let level := s.rd Reg.THM_STAT_LEVEL
  { stinc := stinc, n := n, level := level, k := burstMult level (s.rd Reg.CLK_FB_CEILK) }

def State.capRate (s : State) (c : CapCtx) : Bool :=
  ((Frac.ofNat (s.sumP * 1000000000)).div (ftPeriodNs c.stinc c.n)).le (Frac.ofNat s.rateBudget)

/-- The reason code of the first check that fails, 0 where all pass (R34, Table 6-6). The state holds the image in its
registers. -/
def State.capacity (s : State) (stinc n : Nat) : Nat :=
  let c := s.capCtx stinc n
  if !s.capResource then 1
  else if s.variant.pixels < s.sumP then 2
  else if !s.capMemory then 3
  else if !s.capRate c then 4
  else if !(s.burstTime c).le c.limit then 5
  else if !(s.exportTime c).le c.limit then 6
  else if !(loopsFit (s.dueMax 0) stinc && loopsFit (s.dueMax 1) stinc) then 7
  else if !s.fabricFits c (s.rd Reg.FAB_CFG) then 8
  else 0

/-- The STINC and N in force (the registers hold them). -/
def State.stinc (s : State) : Nat := s.rd Reg.SYS_STINC0 + 2 ^ 18 * s.rd Reg.SYS_STINC1
def State.ftdiv (s : State) : Nat := s.rd Reg.SYS_FTDIV

/-- What a check reports whatever its outcome: the loops' load and the two fabric shares. -/
def State.reportShares (s : State) (stinc n : Nat) : State :=
  let c := s.capCtx stinc n
  (s.wr Reg.FAB_LOADS (tenths (s.sliceShare c (s.rd Reg.FAB_CFG)))).wr Reg.FAB_LOADW (tenths (s.wramShare c))

/-- CTL_LOAD and CTL_UTIL of a cluster, at the ST rate in force (R247). -/
def State.reportLoad (s : State) (c : Nat) : State :=
  (s.wr (Reg.CTL_LOAD c) (s.dueMax c)).wr (Reg.CTL_UTIL c) (utilOf (s.dueMax c) s.stinc)

/-- UTIL alone, at new tick values (R247). -/
def State.reportUtil (s : State) (c : Nat) : State := s.wr (Reg.CTL_UTIL c) (utilOf (s.rd (Reg.CTL_LOAD c)) s.stinc)

end Sys2Proof.Machine
end

