-- ==== Sys2Proof/Machine/Points.lean ====
section
/-! DEFINITION. The point table (R36 to R46): its commands and time-driven changes, and the operations on points that the
other families use. -/

namespace Sys2Proof.Machine
open Sys2Proof

/-- The value of a point as a number: signed for FRAC, unsigned for every other format (Table 2-1). -/
def formatValue (f : PFormat) (v : Word) : Int :=
  match f with
  | .frac => toSigned 18 v.toNat
  | _ => v.toNat

/-- The limits of a format (Table 2-1). -/
def formatLo : PFormat → Int
  | .frac => -131072
  | _ => 0

def formatHi : PFormat → Int
  | .frac => 131071
  | _ => 262143

/-- A number written to a point of a format: within range, or limited and CLIPPED (R42). -/
def formatWrite (f : PFormat) (x : Int) : PTrig :=
  if x < formatLo f then .clip (BitVec.ofNat 18 (ofSigned 18 (formatLo f)))
  else if formatHi f < x then .clip (BitVec.ofNat 18 (ofSigned 18 (formatHi f)))
  else .write (BitVec.ofNat 18 (ofSigned 18 x))

/-- Value and quality that a reader finds at a point; an unassigned one reads 0x3_FFFF, NOT_YET (R37). -/
def State.readPoint (s : State) (n : Nat) : Word × Quality :=
  match s.point n with
  | some p => (p.v.value, p.v.quality)
  | none => (BitVec.ofNat 18 0x3FFFF, .notYet)

/-- Usable under R292 and Table 2-2: a HELD point while its own hold allowance is not exceeded. -/
def State.ptUsable (s : State) (n : Nat) : Bool :=
  match s.point n with
  | some p => p.v.quality.usable
  | none => false

/-- Points sourced by an engine go HELD when it leaves IN_SERVICE (Table 2-9, R42). -/
def State.holdPoints (s : State) (owns : PSrc → Bool) : State :=
  s.points.foldl (fun s c => if owns c.2.source then s.ptTrig c.1 .noResult else s) s

/-- The number of points now FORCED (Table 2-6). -/
def State.nForced (s : State) : Nat := (s.points.filter (fun c => c.2.shadow.isSome)).length

/-- The point table's commands write POINT_RESULT with the offset of POINT_FCTL (R46). -/
def fpPoint : Footprint := { regs := [Blk.range .point], parts := [.points] }

/-- The 1 kHz time base advances an entry's age, saturating at 65,535; a FORCED point keeps age 0 (R40, R46). -/
def PVal.older (p : PVal) : PVal := if p.age < 65535 then { p with age := p.age + 1 } else p

def Point.older (p : Point) : Point :=
  match p.shadow with
  | some sh => { p with shadow := some sh.older }
  | none => { p with v := p.v.older }

/-- POINT_AGE_TICK (R40, R43). -/
def execPointAgeTick (s : State) : Host.Outcome State Fault Refusal :=
  done { regs := [], parts := [.points] } s
    { s with points := s.points.map (fun c => (c.1, c.2.older)) }

/-- The entry that the source writes: the shadow entry of a FORCED point, else the point itself. -/
def Point.live (p : Point) : PVal := p.shadow.getD p.v

/-- An event-sourced point has no expected interval (R41). -/
def PSrc.eventSourced : PSrc → Bool
  | .sched _ | .host | .bacnet _ _ | .valve _ | .gpio _ => true
  | _ => false

/-- POINT_STALE: a HELD entry whose age exceeds the hold allowance goes STALE (Table 2-3). -/
def execPointStale (n : Fin 4096) (s : State) : Host.Outcome State Fault Refusal :=
  done { regs := [], parts := [.points] } s
    (match s.point n with
     | some p => if p.live.quality = .held ∧ p.hold < p.live.age then s.ptTrig n .overAge else s
     | none => s)

/-- POINT_WINDOW_WRITE (R45); in the trip sequence it is refused with DOWN (Table 5-4). -/
def execPointWindowWrite (n : Fin 4096) (v : Word) (s : State) : Host.Outcome State Fault Refusal :=
  done fpPoint s
    (if s.therm.tripped then s.result .point 0x3FF Status.DOWN
     else match s.point n with
     | some p =>
       if p.source = .host then (s.ptTrig n (.write v)).result .point 0x3FF Status.OK
       else s.result .point 0x3FF Status.REFUSED
     | none => s.result .point 0x3FF Status.REFUSED)

/-- A point is forced: the shadow entry takes its value, quality and age, unless it is FORCED already (R46). -/
def Point.force (p : Point) (v : Word) : Point :=
  { p with
    v := { value := v, quality := .forced, age := 0 }
    shadow := some (p.shadow.getD p.v) }

/-- A release gives the point its shadow entry's value, quality and age (R46). -/
def Point.release (p : Point) : Point :=
  match p.shadow with
  | some sh => { p with v := sh, shadow := none }
  | none => p

/-- POINT_FORCE: a FORCE command in POINT_FCTL (R46). -/
def execPointForce (s : State) : Host.Outcome State Fault Refusal :=
  let n := s.rd Reg.POINT_FNUM
  let st := s.gate .point true
  done fpPoint s
    (if st ≠ Status.OK then s.result .point 2 st
     else match s.point n with
       | some p => (s.putPoint n (p.force (BitVec.ofNat 18 (s.rd Reg.POINT_FVAL)))).result .point 2 Status.OK
       | none => s.result .point 2 Status.BAD_ARG)

/-- POINT_RELEASE: a RELEASE command of point NUM (R46). -/
def execPointRelease (s : State) : Host.Outcome State Fault Refusal :=
  let n := s.rd Reg.POINT_FNUM
  let st := s.gate .point true
  done fpPoint s
    (if st ≠ Status.OK then s.result .point 2 st
     else match s.point n with
       | some p => (s.putPoint n p.release).result .point 2 Status.OK
       | none => s.result .point 2 Status.BAD_ARG)

/-- Every forced point is released. -/
def State.releaseAll (s : State) : State :=
  s.points.foldl (fun s c => if c.2.shadow.isSome then s.putPoint c.1 c.2.release else s) s

/-- POINT_RELEASE_ALL: RELEASE of all forced points (R46). -/
def execPointReleaseAll (s : State) : Host.Outcome State Fault Refusal :=
  let st := s.gate .point true
  done fpPoint s (if st ≠ Status.OK then s.result .point 2 st else s.releaseAll.result .point 2 Status.OK)

end Sys2Proof.Machine
end

