-- ==== Sys2Proof/Machine/Afe.lean ====
section
/-! DEFINITION. The analog front end: the two sequencers, results, urgent requests, voids, ranges, queues and system
calibration (R270 to R290). -/

namespace Sys2Proof.Machine
open Sys2Proof

def fpAfe : Footprint :=
  { regs := [Blk.range .afe, Blk.range .adc], parts := [.afe, .points, .freeCtr] }

/-- The register of sequencer B that stands `d` addresses behind that of A. -/
def Fld.plus (f : Fld) (d : Nat) : Fld := { f with key := f.key + d }

def State.seq (s : State) (q : Nat) : SeqSt := if h : q < 2 then s.afe.seqs[q] else s.afe.seqs[0]

def State.setSeq (s : State) (q : Nat) (f : SeqSt → SeqSt) : State :=
  { s with afe := { s.afe with seqs := vmod s.afe.seqs q f } }

def State.aslot (s : State) (i : Nat) : AfeSlot := if h : i < 32 then s.afe.slots[i] else s.afe.slots[0]

def State.setAslot (s : State) (i : Nat) (f : AfeSlot → AfeSlot) : State :=
  { s with afe := { s.afe with slots := vmod s.afe.slots i f } }

/-- The sequencer that a slot belongs to. -/
def State.seqOf (s : State) (i : Nat) : Nat := s.rd (Reg.AFE_SLOTCFG0_SEQ i)

/-- Stage of a sequencer's calibration: 0 IDLE, 1 ZERO, 2 ZWAIT, 3 FULL (Table 13-24). -/
def State.calStage (s : State) (q : Nat) : Nat := s.rd (Reg.ADC_CALCTLA_CSTAGE.plus q)

def State.adcCalRuns (s : State) (q : Nat) : Bool := s.calStage q == 1 || s.calStage q == 3

/-- LEVEL and QRDY follow the queue (R285). -/
def State.queueSync (s : State) (q : Nat) : State :=
  let n := (s.seq q).queue.length
  let thr := if q = 0 then s.rd Reg.ADC_QTHR_THRA else s.rd Reg.ADC_QTHR_THRB
  (s.wr (Reg.ADC_QSTATA_LEVEL.plus q) n).wrB (Reg.ADC_QSTATA_QRDY.plus q) (thr != 0 && Nat.ble thr n)

/-- SSTAT shows what a sequencer does (Table 13-21). -/
def State.seqShow (s : State) (q : Nat) : State :=
  let x := s.seq q
  let st := if x.test then 3 else if !s.works .conv then 0 else if s.adcCalRuns q && !x.calPend then 2 else 1
  let s := (s.wr (Reg.ADC_SSTATA_SEQST.plus q) st).wrB (Reg.ADC_SSTATA_RPAR.plus q) x.rpar
  match x.conv with
  | some c => ((s.wr (Reg.ADC_SSTATA_SLOT.plus q) c.slot).wrB (Reg.ADC_SSTATA_URGRUN.plus q) c.urgent).wrB
      (Reg.ADC_SSTATA_HALF.plus q) c.posHalf.isSome
  | none => (s.wrB (Reg.ADC_SSTATA_URGRUN.plus q) false).wrB (Reg.ADC_SSTATA_HALF.plus q) false

/-- The gain a conversion of a slot starts with (R283). A range that new limits enforce is a change of gain too, whose first
conversion settles (notes/assumptions/116). -/
def State.startGain (s : State) (i : Nat) : State :=
  if s.rdB (Reg.AFE_SLOTCFG0_AUTO i) then
    let cur := s.rd (Reg.AFE_SLOTSTAT_CURGAIN i)
    let g := max (s.rd (Reg.AFE_SLOTCFG2_GMIN i)) (min (s.rd (Reg.AFE_SLOTCFG2_GMAX i)) cur)
    if g = cur then s
    else (s.setAslot i (fun _ => { upCount := 0, settling := true })).wr (Reg.AFE_SLOTSTAT_CURGAIN i) g
  else s.wr (Reg.AFE_SLOTSTAT_CURGAIN i) (s.rd (Reg.AFE_SLOTCFG0_GAIN i))

/-- What a slot's fields make of the crosspoint (R271, R274). -/
def State.slotPins (s : State) (i : Nat) : AfePins :=
  { pos := s.rd (Reg.AFE_SLOTCFG0_PPIN i), neg := s.rd (Reg.AFE_SLOTCFG0_NPIN i), src := s.rd (Reg.AFE_SLOTCFG1_EXCP i)
    ret := s.rd (Reg.AFE_SLOTCFG1_EXCN i), bias := s.rd (Reg.AFE_SLOTCFG1_BIAS i), ext := s.rd (Reg.AFE_SLOTCFG1_EXTYPE i)
    mag := s.rd (Reg.AFE_SLOTCFG1_EXMAG i), ref := s.rdB (Reg.AFE_SLOTCFG0_REFSEL i) }

/-- What a pin does: nothing where it is off, with all its switches open (R271). -/
inductive PinRole where
  | positive
  | negative
  | reference
  /-- A current or a voltage source drives it, with a magnitude code of Table 13-2. -/
  | source (volt : Bool) (mag : Nat)
  /-- Connected to AGND as the return. -/
  | agnd
  /-- Held at 0.9 V (R272). -/
  | bias
  deriving DecidableEq, Repr

/-- The roles that a running conversion gives a pin. The source is off with EXTYPE 0, and as soon as the engine is no longer in
service (R274). -/
def State.convRoles (s : State) (p : AfePins) (pin : Nat) : List PinRole :=
  (if p.pos = pin then [PinRole.positive] else []) ++ (if p.neg = pin then [PinRole.negative] else []) ++
  (if p.ref && (pin == 12 || pin == 13) then [PinRole.reference] else []) ++
  (if p.src = pin ∧ p.ext ≠ 0 ∧ s.works .conv then [PinRole.source (p.ext == 2) p.mag] else []) ++
  (if p.ret = pin then [PinRole.agnd] else []) ++ (if p.bias = pin then [PinRole.bias] else [])

/-- The roles of AIN0 to AIN11, REFP and REFN, pins 0 to 13: those of the running conversions and of a console test; at reset and
while the engine is DOWN none has any (R271, R290). -/
def State.pinRoles (s : State) (pin : Nat) : List PinRole :=
  (s.afe.seqs.toList.map (fun x => match x.conv with | some c => s.convRoles c.pins pin | none => [])).flatten ++
  (match s.afe.testExc with | some (_, p, mag, volt) => if p = pin then [PinRole.source volt mag] else [] | none => [])

/-- A conversion of slot `i` starts. -/
def State.convStart (s : State) (q i : Nat) : State :=
  let cal := s.adcCalRuns q && !(s.seq q).calPend
  let s := if cal then s else s.startGain i
  let c : Conv := { slot := i, urgent := s.rdB (Reg.AFE_SLOTCFG0_URG i) && !cal, pins := s.slotPins i, posHalf := none
                    void := false }
  (s.setSeq q (fun x => { x with conv := some c })).seqShow q

/-- A slot is to be converted again before the round moves on (R281), in the order in which the slots fell due
(notes/assumptions/115). -/
def State.redoAdd (s : State) (q i : Nat) : State :=
  s.setSeq q (fun x => { x with redo := if memNat i x.redo then x.redo else x.redo ++ [i] })

/-- The slot after `last` in ascending order, and whether the round wraps (R277). -/
def nextSlot (slots : List Nat) (last : Option Nat) : Option (Nat × Bool) :=
  match last with
  | none => slots.head?.map (fun i => (i, false))
  | some l =>
    match slots.find? (fun i => Nat.blt l i) with
    | some i => some (i, false)
    | none => slots.head?.map (fun i => (i, true))

/-- The sequencer chooses its next conversion: a calibration's, a pending urgent request, a slot to be converted again,
or the next NORMAL slot (R277, R281, R287). -/
def State.seqNext (s : State) (q : Nat) : State :=
  let x := s.seq q
  let idle := fun (s : State) => (s.setSeq q (fun x => { x with conv := none })).seqShow q
  if !s.works .conv || x.test then idle s
  else if s.adcCalRuns q then
    match x.cal with
    | some c => (s.setSeq q (fun x => { x with calPend := false })).convStart q c.slot
    | none => idle s
  else match x.urgent with
    | u :: us => ((s.setSeq q (fun x => { x with urgent := us })).wrB (Reg.AFE_SLOTSTAT_PEND u) false).convStart q u
    | [] =>
      match x.redo with
      | i :: is => (s.setSeq q (fun x => { x with redo := is })).convStart q i
      | [] =>
        match nextSlot (s.afeNormal q) x.last with
        | some (i, wrap) =>
          (s.setSeq q (fun x => { x with last := some i, rpar := if wrap then !x.rpar else x.rpar })).convStart q i
        | none => idle s

/-! ### Results (R279, R283, R284) -/

def afeSat (x : Int) : Int := clampInt (-131072) 131071 x

/-- The raw code r of a conversion (R279, R283): ±(2^17 − 1) where the converter clips, and within those limits where it does not
(notes/assumptions/114). -/
def rawCode (code : Int) (clip : Bool) : Int :=
  if clip then (if code < 0 then -131071 else 131071) else clampInt (-131071) 131071 code

/-- Steps 3 and 4 of R279: y2 of x_c, and whether step 3 saturated. -/
def State.afeLinear (s : State) (i : Nat) (xc : Int) : Int × Bool :=
  let osh := s.rd (Reg.AFE_OSH i)
  let h : Int := if osh = 0 then 0 else ((2 ^ (osh - 1) : Nat) : Int)
  let raw := (xc * s.rdS (Reg.AFE_OSCL i) + h) / ((2 ^ osh : Nat) : Int)
  let y1 := afeSat raw
  let t := s.rd (Reg.AFE_SLOTCFG2_LIN i)
  let y2 :=
    if t = 0 ∨ 4 < t then y1
    else
      let a := (y1 + 131072).toNat
      let k := a / 8192
      let f := a % 8192
      let l := fun (j : Nat) => toSigned 18 (s.rdKey (0x7600 + 0x40 * (t - 1) + j))
      l k + ((l (k + 1) - l k) * f + 4096) / 8192
  (y2, raw != y1)

/-- COFS of a slot, signed 26 bits. -/
def State.afeCofs (s : State) (i : Nat) : Int :=
  toSigned 26 (s.rd (Reg.AFE_COFS0 i) + 2 ^ 18 * s.rd (Reg.AFE_COFS1 i))

/-- x_n of a raw code at a gain code (R279). -/
def afeNorm (r : Int) (g : Nat) : Int := r * ((2 ^ (7 - g) : Nat) : Int)

/-- Format of a slot's value: that of its point, FRAC where there is none (notes/assumptions/34). -/
def State.afeFormat (s : State) (i : Nat) : PFormat :=
  match s.point (s.rd (Reg.AFE_OUTPT_POINT i)) with
  | some p => p.format
  | none => .frac

/-- The point value of a raw code: the trigger of the point (R279, Table 13-4). -/
def State.afeValue (s : State) (i : Nat) (r : Int) (g : Nat) (clip : Bool) : PTrig :=
  let xc := ((afeNorm r g - s.afeCofs i) * s.rd (Reg.AFE_CGAIN i) + 65536) / 131072
  let (y2, sat) := s.afeLinear i xc
  let f := s.afeFormat i
  let t := formatWrite f (y2 + formatValue f (s.regs.get (Reg.AFE_OOFS i).key))
  match t with
  | .write v => if clip || sat then .clip v else .write v
  | t => t

/-- A result joins the queue of its converter, or is lost to a full one (R284, R286). -/
def State.queueResult (s : State) (q i : Nat) (v : Word) (urg : Bool) (st : Nat) : State :=
  if !s.rdB (Reg.AFE_SLOTCFG0_QEN i) then s
  else
    let x := s.seq q
    if 128 ≤ x.queue.length then
      ((s.bump (Reg.ADC_QOVFA.plus q)).wrB (Reg.ADC_QSTATA_OVR.plus q) true).setSeq q (fun x => { x with loss := true })
    else
      let st' := if x.loss && st == 0 then 3 else st
      let tag := i + (if urg then 32 else 0) + (if x.rpar then 64 else 0)
      (s.setSeq q (fun x => { x with queue := x.queue ++ [{ value := v, tag := tag, st := st' }], loss := false })).queueSync q

/-- A result: the point, the queue, LAST (Table 13-4). -/
def State.afeResult (s : State) (q i : Nat) (urg : Bool) (r : Int) (g : Nat) (clip fault : Bool) : State :=
  let out := s.rdB (Reg.AFE_OUTPT_OUTEN i)
  let pt := s.rd (Reg.AFE_OUTPT_POINT i)
  let t := if fault then PTrig.fail none else s.afeValue i r g clip
  let s := if out then s.srcTrig .afe (.afe i) pt t else s
  match t with
  | .write v => (s.wr (Reg.AFE_SLOTSTAT_LAST i) 0).queueResult q i v urg 0
  | .clip v => (s.wr (Reg.AFE_SLOTSTAT_LAST i) 1).queueResult q i v urg 1
  | _ =>
    let s := (s.wr (Reg.AFE_SLOTSTAT_LAST i) 2).bump Reg.ADC_FAULT
    -- the value of a FAULT entry is that of the point, which keeps it; without a point it is open
    if out then s.queueResult q i (s.readPoint pt).1 urg 2
    else
      let (w, s) := s.freeW i
      s.queueResult q i w urg 2

/-- The gain for the slot's next conversion (R283). -/
def State.afeRange (s : State) (i : Nat) (mag : Nat) (clip : Bool) : State :=
  if !s.rdB (Reg.AFE_SLOTCFG0_AUTO i) then s
  else
    let g := s.rd (Reg.AFE_SLOTSTAT_CURGAIN i)
    let lo := s.rd (Reg.AFE_SLOTCFG2_GMIN i)
    let hi := s.rd (Reg.AFE_SLOTCFG2_GMAX i)
    let low := Nat.blt mag 49152
    let n := if low then min 4 ((s.aslot i).upCount + 1) else 0
    let g' := if clip then max (g - 3) lo
      else if 114688 < mag then max (g - 1) lo
      else if n = 4 then min (g + 1) hi
      else g
    if g' = g then s.setAslot i (fun a => { a with upCount := n })
    else (s.setAslot i (fun _ => { upCount := 0, settling := true })).wr (Reg.AFE_SLOTSTAT_CURGAIN i) g'

/-- A conversion or a pair has ended with the code `r` (R279, R283). -/
def State.convResult (s : State) (q : Nat) (c : Conv) (r : Int) (mag : Nat) (clip fault : Bool) : State :=
  let i := c.slot
  if (s.aslot i).settling then
    -- converted again at once, after a pause that is due, and not at all once the engine leaves service
    let s := (s.setAslot i (fun a => { a with settling := false })).bump (Reg.ADC_RANGEA.plus q)
    if s.works .conv && !(s.seq q).calPend then s.convStart q i else (s.redoAdd q i).seqNext q
  else
    let g := s.rd (Reg.AFE_SLOTSTAT_CURGAIN i)
    ((s.afeResult q i c.urgent r g clip fault).afeRange i mag clip).seqNext q

/-! ### System calibration (R287, R288) -/

/-- A calibration ends with RES; the sequencer goes on. -/
def State.adcCalEnd (s : State) (q res : Nat) : State :=
  let s := match (s.seq q).cal with
    | some c => s.wr (Reg.ADC_CALRESA_RSLOT.plus q) c.slot
    | none => s
  ((s.wr (Reg.ADC_CALRESA_RES.plus q) res).wr (Reg.ADC_CALCTLA_CSTAGE.plus q) 0).setSeq q (fun x =>
    { x with cal := none, calPend := false })

/-- Z and F give new coefficients where they are plausible (R288). -/
def State.calCompute (s : State) (q i : Nat) (z f : Int) : State :=
  let gc := s.rd (Reg.AFE_SLOTCFG0_GAIN i)
  let span := s.rd (Reg.AFE_CALFS i) * 2 ^ (7 - gc)
  let g := F64.div (F64.ofInt span) (F64.ofInt (f - z))
  let d := g.sub (F64.ofInt 1)
  let near := (F64.le d (F64.ofFrac 1 20)) && (F64.le (F64.ofFrac (-1) 20) d)
  -- |Z| ≤ 0.02 × 2^24 / G
  let small := decide (50 * (if z < 0 then -z else z) * ((2 ^ gc : Nat) : Int) ≤ 2 ^ 24)
  if 0 < f - z && near && small then
    let u := ofSigned 26 z
    let cg := (F64.mul g (F64.ofInt 131072)).round
    (((s.wr (Reg.AFE_COFS0 i) (u % 2 ^ 18)).wr (Reg.AFE_COFS1 i) (u / 2 ^ 18)).wr (Reg.AFE_CGAIN i) cg.toNat).adcCalEnd q
      Status.OK
  else s.adcCalEnd q Status.IMPLAUSIBLE

/-- A calibration conversion has ended (Table 13-5). -/
def State.calStep (s : State) (q : Nat) (c : CalSt) (r : Int) (clip fault : Bool) : State :=
  if fault then (s.adcCalEnd q Status.FAULT).seqNext q
  else if clip then (s.adcCalEnd q Status.IMPLAUSIBLE).seqNext q
  else
    let c := { c with sum := c.sum + afeNorm r (s.rd (Reg.AFE_SLOTCFG0_GAIN c.slot)), done := c.done + 1 }
    if c.done < 16 then (s.setSeq q (fun x => { x with cal := some c })).convStart q c.slot
    else
      let m := (c.sum + 8) / 16
      match s.calStage q, c.z with
      | 1, _ => ((s.setSeq q (fun x => { x with cal := some { c with sum := 0, done := 0, z := some m } })).wr
          (Reg.ADC_CALCTLA_CSTAGE.plus q) 2).seqNext q
      | _, some z => (s.calCompute q c.slot z m).seqNext q
      | _, none => (s.adcCalEnd q Status.IMPLAUSIBLE).seqNext q

/-- ADC_CONVERSION_END: the running conversion of sequencer `q` ends with a raw code, a clip and an excitation fault, which only a
conversion with a source can have (R274). -/
def execAdcConversionEnd (q : Fin 2) (code : Int) (clip fault : Bool) (s : State) : Host.Outcome State Fault Refusal :=
  let q := q.val
  let r := rawCode code clip
  done fpAfe s
    (match (s.seq q).conv with
     | none => s
     | some c =>
       let x := s.seq q
       let fault := fault && c.pins.ext != 0
       match (if s.adcCalRuns q && !x.calPend then x.cal else none) with
       | some k =>
         if c.void then (s.bump (Reg.ADC_VOIDA.plus q)).convStart q c.slot
         else s.calStep q k r clip fault
       | none =>
         if c.void then ((s.bump (Reg.ADC_VOIDA.plus q)).redoAdd q c.slot).seqNext q
         else match s.rdB (Reg.AFE_SLOTCFG0_ALT c.slot), c.posHalf with
           | true, none =>
             if s.adcCalRuns q then (s.redoAdd q c.slot).seqNext q
             else (s.setSeq q (fun x => { x with conv := some { c with
               posHalf := some (r, clip, fault), pins := c.pins.swap } })).seqShow q
           | true, some (p, pc, pf) =>
             s.convResult q c ((p - r + 1) / 2) (max p.natAbs r.natAbs) (clip || pc) (fault || pf)
           | false, _ => s.convResult q c r r.natAbs clip fault)

/-! ### Urgent requests (R280, R281) -/

/-- A request joins the pending ones; a running NORMAL conversion is aborted, unless it calibrates. A pause for a calibration that
waits for the end of that conversion then begins, and the request waits for it (R280, notes/assumptions/115). -/
def State.urgentAdd (s : State) (i : Nat) : State :=
  let q := s.seqOf i
  let x := s.seq q
  if memNat i x.urgent then s
  else
    let s := (s.setSeq q (fun x => { x with urgent := x.urgent ++ [i] })).wrB (Reg.AFE_SLOTSTAT_PEND i) true
    if s.adcCalRuns q && !x.calPend then s
    else match x.conv with
      | none => s.seqNext q
      | some c => if c.urgent then s else ((s.bump (Reg.ADC_ABORTA.plus q)).redoAdd q c.slot).seqNext q

def State.urgentSlot (s : State) (i : Nat) : Bool :=
  s.rdB (Reg.AFE_SLOTCFG0_EN i) && s.rdB (Reg.AFE_SLOTCFG0_URG i)

/-- The slots whose timed request is due at the latest ST edge, in ascending order: all arrive in one clock (R280). -/
def State.timedDue (s : State) : List Nat :=
  if !s.works .conv || s.afe.timedAt == some s.tick.sample.toNat then []
  else (List.range 32).filter (fun i => s.urgentSlot i && s.rdB (Reg.AFE_URGCFG_UTIM i) && !(s.seq (s.seqOf i)).test &&
    s.tick.sample.toNat % 2 ^ s.rd (Reg.AFE_URGCFG_UK i) == 0)

/-- URGENT_TIMED_REQUEST: at an ST edge with the sample counter a multiple of 2^UK (R280). The first such command after an edge
makes all the requests of that edge. -/
def execUrgentTimedRequest (slot : Fin 32) (s : State) : Host.Outcome State Fault Refusal :=
  done fpAfe s
    (if memNat slot.val s.timedDue then
      s.timedDue.foldl State.urgentAdd { s with afe := { s.afe with timedAt := some s.tick.sample.toNat } }
     else s)

/-- URGENT_REQUEST: a REQUEST command (R280). One that is rejected leaves SLOT as it was (R51). -/
def execUrgentRequest (slot : Fin 32) (s : State) : Host.Outcome State Fault Refusal :=
  let i := slot.val
  let q := s.seqOf i
  let st := s.gate .adc false
  let st := if st ≠ Status.OK then st
    else if !s.urgentSlot i then Status.BAD_ARG
    else if (s.seq q).test then Status.ILLEGAL_STATE
    else if s.adcCalRuns q && !(s.seq q).calPend then Status.DELAYED
    else Status.OK
  done fpAfe s
    ((if st = Status.OK ∨ st = Status.DELAYED then (s.urgentAdd i).wr Reg.ADC_URGCMD_SLOT i else s).answer .adc 0x004
      (some Reg.ADC_URGCMD_CSTAT) st)

/-- ADC_QHEAD_READ: the oldest entry is removed, and its value captured (R285). -/
def execAdcQheadRead (q : Fin 2) (s : State) : Host.Outcome State Fault Refusal :=
  let q := q.val
  done fpAfe s
    (match (s.seq q).queue with
     | [] => (s.wrKey (0x7810 + 2 * q) 0).wrKey (0x7811 + 2 * q) 0
     | e :: es =>
       (((s.setSeq q (fun x => { x with queue := es })).wrKey (0x7810 + 2 * q) (2 ^ 17 + e.tag * 2 ^ 8 + e.st * 2 ^ 5)).wrKey
         (0x7811 + 2 * q) e.value.toNat).queueSync q)

/-! ### Calibration commands (Table 13-5) -/

/-- The judgement that the three commands share: unlocked, in service, not under test, a slot of this sequencer. -/
def State.calGate (s : State) (q i : Nat) : Nat :=
  let st := s.gate .adc true
  if st ≠ Status.OK then st
  else if (s.seq q).test then Status.ILLEGAL_STATE
  else if !s.rdB (Reg.AFE_SLOTCFG0_EN i) || s.seqOf i != q then Status.BAD_ARG
  else Status.OK

/-- A command's outcome; one that is rejected leaves SLOT as it was (R51). -/
def State.calAnswer (s : State) (q i st : Nat) : State :=
  (if st = Status.OK then s.wr (Reg.ADC_CALCTLA_SLOT.plus q) i else s).answer .adc (0x005 + q) (some (Reg.ADC_CALCTLA_CSTAT.plus q)) st

/-- A step of a calibration starts: the sequencer pauses at the end of its running conversion. -/
def State.calPause (s : State) (q stage : Nat) : State :=
  let s := s.wr (Reg.ADC_CALCTLA_CSTAGE.plus q) stage
  if (s.seq q).conv.isSome then (s.setSeq q (fun x => { x with calPend := true })).seqShow q
  else s.seqNext q

/-- CAL_ZERO. -/
def execCalZero (q : Fin 2) (slot : Fin 32) (s : State) : Host.Outcome State Fault Refusal :=
  let q := q.val
  let st := s.calGate q slot.val
  let st := if st = Status.OK ∧ s.calStage q ≠ 0 then Status.ILLEGAL_STATE else st
  done fpAfe s
    ((if st = Status.OK then
        (s.setSeq q (fun x => { x with cal := some { slot := slot.val, sum := 0, done := 0, z := none } })).calPause q 1
      else s).calAnswer q slot.val st)

/-- CAL_FS. -/
def execCalFs (q : Fin 2) (slot : Fin 32) (s : State) : Host.Outcome State Fault Refusal :=
  let q := q.val
  let st := s.calGate q slot.val
  let st := if st ≠ Status.OK then st
    else if s.calStage q ≠ 2 then Status.ILLEGAL_STATE
    else match (s.seq q).cal with
      | some c => if c.slot = slot.val then Status.OK else Status.BAD_ARG
      | none => Status.ILLEGAL_STATE
  done fpAfe s ((if st = Status.OK then s.calPause q 3 else s).calAnswer q slot.val st)

/-- A calibration in progress ends DOWN: by ABORT, or as the engine leaves IN_SERVICE and SERVICE. A sequencer that was paused for
it goes on, if it still runs (Table 13-5). -/
def State.calLeave (s : State) (q : Nat) : State :=
  if s.calStage q = 0 then s
  else
    let paused := s.adcCalRuns q && !(s.seq q).calPend
    let s := s.adcCalEnd q Status.DOWN
    if paused then s.seqNext q else s.seqShow q

/-- CAL_ABORT. -/
def execCalAbort (q : Fin 2) (slot : Fin 32) (s : State) : Host.Outcome State Fault Refusal :=
  let q := q.val
  let st := s.calGate q slot.val
  let st := if st = Status.OK ∧ s.calStage q = 0 then Status.ILLEGAL_STATE else st
  done fpAfe s ((if st = Status.OK then s.calLeave q else s).calAnswer q slot.val st)

/-- CAL_ZWAIT_TIMEOUT: 600 s in ZWAIT without an FS command. -/
def execCalZwaitTimeout (q : Fin 2) (s : State) : Host.Outcome State Fault Refusal :=
  let q := q.val
  done fpAfe s (if s.calStage q = 2 then s.adcCalEnd q Status.TIMEOUT else s)

/-! ### Start, stop, test, voids (R282, R290) -/

/-- ADC_ROUND of both sequencers: T_R in ms, rounded up, saturating (R278). -/
def State.afeRounds (s : State) : State :=
  (List.range 2).foldl (fun s q =>
    s.wr (Reg.ADC_ROUNDA.plus q) (min (2 ^ 18 - 1) ((s.afeRoundNs q + 999999) / 1000000))) s

/-- A sequencer starts at its lowest NORMAL slot. -/
def State.seqRestart (s : State) (q : Nat) : State :=
  (s.setSeq q (fun x => { x with conv := none, last := none, redo := [], urgent := [], test := false })).seqNext q

/-- The engine enters IN_SERVICE: both sequencers start, RPAR is 0, the queues are empty, gains at GAIN (R290). -/
def State.afeStart (s : State) : State :=
  let s := (List.range 32).foldl (fun s i =>
    ((s.setAslot i (fun _ => { upCount := 0, settling := false })).wr (Reg.AFE_SLOTSTAT_CURGAIN i)
      (s.rd (Reg.AFE_SLOTCFG0_GAIN i))).wrB (Reg.AFE_SLOTSTAT_PEND i) false) s
  (List.range 2).foldl (fun s q =>
    ((s.setSeq q (fun x => { x with rpar := false, queue := [], loss := false })).queueSync q).seqRestart q) s.afeRounds

/-- The engine leaves IN_SERVICE and SERVICE: conversions stop, queued entries are discarded and counted, a calibration
ends DOWN, no excitation (R290, Table 13-5). -/
def State.afeStop (s : State) : State :=
  let s := { s with afe := { s.afe with testExc := none, timedAt := none } }
  (List.range 2).foldl (fun s q =>
    let x := s.seq q
    let s := if s.calStage q ≠ 0 then s.adcCalEnd q Status.DOWN else s
    let s := s.wr Reg.ADC_QDISC (min (2 ^ 18 - 1) (s.rd Reg.ADC_QDISC + x.queue.length))
    let s := (List.range 32).foldl (fun s i => s.wrB (Reg.AFE_SLOTSTAT_PEND i) false) s
    ((s.setSeq q (fun x =>
      { x with conv := none, urgent := [], redo := [], queue := [], loss := false, test := false })).queueSync q).seqShow q) s

/-- The running conversions that `hit` names are void (R282). -/
def State.voidWhere (s : State) (hit : Conv → Bool) : State :=
  (List.range 2).foldl (fun s q =>
    s.setSeq q (fun x => { x with conv := x.conv.map (fun c => if hit c then { c with void := true } else c) })) s

/-- The console's excitation moves, or ends: the running conversions that use a pin whose switches change are void (R282). -/
def State.excMove (s : State) (e : Option (Nat × Nat × Nat × Bool)) : State :=
  let pin := fun (e : Option (Nat × Nat × Nat × Bool)) => e.map (fun x => x.2.1)
  let was := pin s.afe.testExc
  let s := { s with afe := { s.afe with testExc := e } }
  if was = pin e then s
  else s.voidWhere (fun c => (was.toList ++ (pin e).toList).any (fun p => c.pins.uses p))

/-- A test takes a sequencer (R290): it stops, its points follow R42, its calibration ends. -/
def State.testSeq (s : State) (q pin mag : Nat) (volt : Bool) : State :=
  let s := if s.calStage q ≠ 0 then s.adcCalEnd q Status.DOWN else s
  let s := (s.setSeq q (fun x => { x with test := true, conv := none, urgent := [], redo := [] })).seqShow q
  let s := (List.range 32).foldl (fun s i =>
    if s.seqOf i = q then s.wrB (Reg.AFE_SLOTSTAT_PEND i) false else s) s
  s.excMove (some (q, pin, mag, volt))

/-- A test ends: its excitation ends, and the sequencer restarts at its lowest NORMAL slot (R290). -/
def State.testSeqEnd (s : State) (q : Nat) : State :=
  if !(s.seq q).test then s
  else
    let s := match s.afe.testExc with
      | some (p, _, _, _) => if p = q then s.excMove none else s
      | none => s
    s.seqRestart q

end Sys2Proof.Machine
end

