-- ==== Sys2Proof/Machine/BusLink.lean ====
section
/-! DEFINITION. Building bus ports, the MS/TP data link (R317 to R321): frames, tokens, polls for masters and rate
detection. The master node's state machine is that of ANSI/ASHRAE 135 clause 9, which R320 names and does not print
(PRESUMED, notes/assumptions/70). -/

namespace Sys2Proof.Machine
open Sys2Proof

/-- A port's state, and a change of it. -/
def State.port (s : State) (p : Fin 2) : BusSt := s.bus[p]

def State.setPort (s : State) (p : Fin 2) (b : BusSt) : State := { s with bus := s.bus.set p.val b p.isLt }

/-- LSTATE codes (Table 15-13). -/
abbrev lsIdle : Nat := 0
abbrev lsDetect : Nat := 1
abbrev lsNegotiate : Nat := 2
abbrev lsRun : Nat := 3

/-- The port's engine works, and PROTO names the protocol. -/
def State.busProto (s : State) (p : Fin 2) (proto : Nat) : Bool :=
  s.works (.bus p) && s.rd (Reg.BUS_CFG_PROTO p.val) == proto

/-- An MS/TP port in RUN. -/
def State.mstpRun (s : State) (p : Fin 2) : Bool :=
  s.busProto p 1 && s.rd (Reg.BUS_LSTAT_LSTATE p.val) == lsRun

/-- A Modbus port in RUN. -/
def State.modbusRun (s : State) (p : Fin 2) : Bool :=
  s.busProto p 2 && s.rd (Reg.BUS_LSTAT_LSTATE p.val) == lsRun

/-- Port counters (Table 15-15). -/
def State.busCount (s : State) (p : Fin 2) (i : Nat) : State := s.bump (Reg.BUS_COUNTERS p.val i)

/-- What a command of a port may write: its registers, its state, and points. -/
def fpBus (p : Fin 2) : Footprint :=
  { regs := [Blk.range (.bus p)], parts := [.bus, .points] }

/-- The port sends on the line: each item is a frame, counted in 0x012. -/
def State.busSend (s : State) (p : Fin 2) (out : List BusOut) : State :=
  let s := out.foldl (fun s _ => s.busCount p 2) s
  s.setPort p { s.port p with sent := out }

/-- More frames of the same step. -/
def State.busSendMore (s : State) (p : Fin 2) (out : List BusOut) : State :=
  let s := out.foldl (fun s _ => s.busCount p 2) s
  s.setPort p { s.port p with sent := (s.port p).sent ++ out }

/-- Entry to RUN on MS/TP (R321, Table 15-3): an I-Am is due at the first token. -/
def State.enterMstpRun (s : State) (p : Fin 2) (rate : Nat) : State :=
  let s := ((s.wr (Reg.BUS_LSTAT_LSTATE p.val) lsRun).wr (Reg.BUS_LSTAT_BAUDIN p.val) rate).wrB
    (Reg.BUS_LSTAT_TOKEN p.val) false
  let mac := s.rd (Reg.BUS_MSTP_MAC p.val)
  s.setPort p { s.port p with
    goodRun := 0, badRun := 0, node := .idle, next := mac, poll := mac, tokens := 50, retries := 0, sole := false,
    iAmDue := true }

/-- Entry to DETECT (R321): no transmission, the sweep starts at 115,200 bit/s. -/
def State.enterDetect (s : State) (p : Fin 2) : State :=
  let s := (((s.wr (Reg.BUS_LSTAT_LSTATE p.val) lsDetect).wr (Reg.BUS_LSTAT_BAUDIN p.val) 5).wrB
    (Reg.BUS_LSTAT_SOLE p.val) false).wrB (Reg.BUS_LSTAT_TOKEN p.val) false
  s.setPort p { s.port p with goodRun := 0, badRun := 0, node := .idle, sole := false }

/-- The next rate of the sweep, from 115,200 down to 9,600, and then again. -/
def nextRate (r : Nat) : Nat := if r = 0 then 5 else r - 1

/-- The station after `a`, wrapping past Max_Master. -/
def nextStation (maxMaster a : Nat) : Nat := if maxMaster ≤ a then 0 else a + 1

/-- The I-Am of the port's Device object. -/
def State.devInst (s : State) (p : Fin 2) : Nat := s.rdPair (Reg.BUS_DEVINST0 p.val) (Reg.BUS_DEVINST1 p.val)

/-- Reliability of a point as Table 15-4 gives it. -/
def qualityRel (f : PFormat) (v : Word) : Quality → BRel
  | .fresh | .held | .forced => .noFault
  | .clipped => if formatValue f v = formatHi f then .overRange else .underRange
  | .stale => .commFailure
  | .fault => .unreliableOther
  | .notYet => .noSensor

/-- Status_Flags of a point (Table 15-4); IN_ALARM and OUT_OF_SERVICE are FALSE. -/
def qualityFlags : Quality → BVal
  | .fresh | .held => .flags false false false false
  | .forced => .flags false false true false
  | .clipped | .stale | .fault | .notYet => .flags false true false false

/-- Present_Value of an object from its point's value (R324). -/
def presentValue (o : BObj) (f : PFormat) (v : Word) : BVal :=
  match o.otype with
  | .bv => .enum (if v = 0 then 0 else 1)
  | .msv => .uint v.toNat
  | _ => .real ((F64.ofInt (formatValue f v)).mul o.scale |>.add o.offset |>.toF32)

/-- The object's point as one indivisible read: format, value, quality (R15, R324). -/
def State.objPoint (s : State) (o : BObj) : PFormat × Word × Quality :=
  match s.point o.point with
  | some q => (q.format, q.v.value, q.v.quality)
  | none => (.ucnt, BitVec.ofNat 18 0x3FFFF, .notYet)

/-- Present_Value and Status_Flags as they stand. -/
def State.objNow (s : State) (o : BObj) : BVal × BVal :=
  let r := s.objPoint o
  (presentValue o r.1 r.2.1, qualityFlags r.2.2)

/-- Sends due notifications, at most `n`, with the values as they stand (R328). -/
def State.sendNotifications (p : Fin 2) : Nat → List CovSub → State → List CovSub × State
  | _, [], s => ([], s)
  | 0, subs, s => (subs, s)
  | n + 1, c :: cs, s =>
    if c.due then
      match (s.port p).objs[c.obj]? with
      | some o =>
        let now := s.objNow o
        let s := (s.busSendMore p [.msg c.addr (.notify c.addr c.proc (.obj o.otype o.inst) now.1 now.2)]).busCount p 6
        let r := State.sendNotifications p n cs s
        ({ c with due := false, last := some now } :: r.1, r.2)
      | none =>
        let r := State.sendNotifications p n cs s
        ({ c with due := false } :: r.1, r.2)
    else
      let r := State.sendNotifications p (n + 1) cs s
      (c :: r.1, r.2)

/-- The port uses the token: I-Am if it is due, then due notifications, within Max_Info_Frames (R320, R328). -/
def State.useToken (s : State) (p : Fin 2) : State :=
  let limit := s.rd (Reg.BUS_MSTP_MAXINFO p.val) + 1
  let b := s.port p
  let iam := b.iAmDue
  let s := if iam then (s.setPort p { b with iAmDue := false }).busSendMore p [.msg .all (.iAm (s.devInst p))] else s
  let r := State.sendNotifications p (if iam then limit - 1 else limit) b.subs s
  r.2.setPort p { r.2.port p with subs := r.1 }

/-- The port is done with the token: it passes it, polls for a master every N_poll tokens, or, alone, keeps it. -/
def State.doneWithToken (s : State) (p : Fin 2) : State :=
  let b := s.port p
  let mac := s.rd (Reg.BUS_MSTP_MAC p.val)
  let mx := s.rd (Reg.BUS_MSTP_MAXMASTER p.val)
  if b.tokens + 1 < 50 then
    if b.sole then s.setPort p { b with tokens := b.tokens + 1, node := .idle }
    else
      let s := (s.busSendMore p [.token b.next]).wrB (Reg.BUS_LSTAT_TOKEN p.val) false
      s.setPort p { s.port p with tokens := b.tokens + 1, retries := 0, node := .passToken }
  else
    let q := nextStation mx b.poll
    if q = b.next ∧ b.next ≠ mac then
      -- every station up to the next one has been polled
      let s := (s.busSendMore p [.token b.next]).wrB (Reg.BUS_LSTAT_TOKEN p.val) false
      s.setPort p { s.port p with poll := mac, tokens := 1, retries := 0, node := .passToken }
    else if q = mac then
      -- nobody else has answered: sole master
      s.setPort p { b with poll := mac, tokens := 1, sole := true, node := .idle }
    else
      let s := s.busSendMore p [.poll q]
      s.setPort p { s.port p with poll := q, node := .pollForMaster }

/-- A token reaches the port's MAC. -/
def State.takeToken (s : State) (p : Fin 2) : State :=
  let s := s.wrB (Reg.BUS_LSTAT_TOKEN p.val) true
  let s := s.setPort p { s.port p with sole := false, node := .idle, sent := [] }
  (s.useToken p).doneWithToken p

/-- A valid frame in RUN, as the node handles it. -/
def State.linkFrame (s : State) (p : Fin 2) (f : MstpFrame) : State :=
  let b := s.port p
  let mac := s.rd (Reg.BUS_MSTP_MAC p.val)
  match f.ftype with
  | .token => if f.dst = mac then s.takeToken p else s.setPort p { b with node := .idle, sole := false }
  | .pollForMaster =>
    if f.dst = mac then (s.setPort p { b with node := .idle, sole := false }).busSend p [.replyToPoll f.src]
    else s.setPort p { b with node := .idle, sole := false }
  | .replyToPfm =>
    if f.dst = mac ∧ b.node = .pollForMaster then
      let s := (s.busSend p [.token f.src]).wrB (Reg.BUS_LSTAT_TOKEN p.val) false
      s.setPort p { s.port p with
        sole := false, next := f.src, poll := mac, tokens := 0, retries := 0, node := .passToken }
    else s.setPort p { b with node := .idle }
  | .dataExpectingReply | .dataNotExpectingReply | .otherFrame =>
    s.setPort p { b with node := .idle }

/-- A frame that fails its header CRC or framing (R321). -/
def State.badFrame (s : State) (p : Fin 2) : State :=
  let s := s.busCount p 1
  let b := s.port p
  if s.rd (Reg.BUS_LSTAT_LSTATE p.val) = lsDetect then s.setPort p { b with goodRun := 0 }
  else if s.rd (Reg.BUS_LSTAT_LSTATE p.val) = lsRun ∧ s.rdB (Reg.BUS_CFG_AUTOBAUD p.val) then
    (if b.badRun + 1 = 32 then s.enterDetect p else s.setPort p { b with badRun := b.badRun + 1 })
  else s

/-- A frame with a valid header CRC in DETECT: the second in a row locks the rate (R321). -/
def State.detectFrame (s : State) (p : Fin 2) : State :=
  let b := s.port p
  if b.goodRun + 1 = 2 then s.enterMstpRun p (s.rd (Reg.BUS_LSTAT_BAUDIN p.val))
  else s.setPort p { b with goodRun := b.goodRun + 1 }

/-- A frame whose header CRC is right but which is dropped: in DETECT it counts towards the lock. -/
def State.dropFrame (s : State) (p : Fin 2) : State :=
  if s.rd (Reg.BUS_LSTAT_LSTATE p.val) = lsDetect then s.detectFrame p else s

/-- A valid frame: in DETECT it counts towards the lock, in RUN it goes to the node. -/
def State.goodFrame (s : State) (p : Fin 2) (f : MstpFrame) : State :=
  let s := s.busCount p 0
  let b := s.port p
  if s.rd (Reg.BUS_LSTAT_LSTATE p.val) = lsDetect then s.detectFrame p
  else if s.rd (Reg.BUS_LSTAT_LSTATE p.val) = lsRun then (s.setPort p { b with badRun := 0 }).linkFrame p f
  else s

/-- MSTP_FRAME_RECEIVED (R318, R320, R321). A frame of more than 501 octets is discarded and stands in no counter
(notes/assumptions/120); one whose data CRC fails is counted in 0x011 and dropped. -/
def execMstpFrameReceived (p : Fin 2) (f : MstpFrame) (s : State) : Host.Outcome State Fault Refusal :=
  done (fpBus p) s
    (if !s.busProto p 1 then s
     else if !f.hdrOk then s.badFrame p
     else if 501 < f.len then s.dropFrame p
     else if !f.dataOk then (s.busCount p 1).dropFrame p
     else s.goodFrame p f)

/-- MSTP_FRAME_ABORT: T_frame_abort of silence drops a partly received frame (R320), which counts as failed framing. -/
def execMstpFrameAbort (p : Fin 2) (s : State) : Host.Outcome State Fault Refusal :=
  done (fpBus p) s (if s.busProto p 1 then s.badFrame p else s)

/-- MSTP_NO_TOKEN: the token is lost, and the port generates it by polling for masters after its own MAC (R320). -/
def execMstpNoToken (p : Fin 2) (s : State) : Host.Outcome State Fault Refusal :=
  done (fpBus p) s
    (if s.mstpRun p && !s.rdB (Reg.BUS_LSTAT_TOKEN p.val) then
      let mac := s.rd (Reg.BUS_MSTP_MAC p.val)
      let mx := s.rd (Reg.BUS_MSTP_MAXMASTER p.val)
      let q := nextStation mx mac
      let s := (s.busCount p 3).wrB (Reg.BUS_LSTAT_TOKEN p.val) true
      let s := s.busSend p [.poll q]
      s.setPort p { s.port p with next := mac, poll := q, tokens := 0, retries := 0, node := .pollForMaster }
    else s)

/-- MSTP_USAGE_TIMEOUT: the token that was passed is not used; it is sent once more (N_retry_token), then a new successor
is sought (R320). -/
def execMstpUsageTimeout (p : Fin 2) (s : State) : Host.Outcome State Fault Refusal :=
  done (fpBus p) s
    (let b := s.port p
     if s.mstpRun p && decide (b.node = .passToken) then
      if b.retries < 1 then
        let s := s.busSend p [.token b.next]
        s.setPort p { s.port p with retries := b.retries + 1 }
      else
        let mac := s.rd (Reg.BUS_MSTP_MAC p.val)
        let q := nextStation (s.rd (Reg.BUS_MSTP_MAXMASTER p.val)) b.next
        let s := (s.busSend p [.poll q]).wrB (Reg.BUS_LSTAT_TOKEN p.val) true
        s.setPort p { s.port p with next := mac, poll := q, tokens := 0, retries := 0, node := .pollForMaster }
     else s)

/-- MSTP_SLOT_TIMEOUT: no station answers the poll for masters (R320). -/
def execMstpSlotTimeout (p : Fin 2) (s : State) : Host.Outcome State Fault Refusal :=
  done (fpBus p) s
    (let b := s.port p
     let mac := s.rd (Reg.BUS_MSTP_MAC p.val)
     let q := nextStation (s.rd (Reg.BUS_MSTP_MAXMASTER p.val)) b.poll
     if s.mstpRun p && decide (b.node = .pollForMaster) then
      if b.sole then
        ((s.setPort p { b with node := .idle, tokens := 1, sent := [] }).useToken p)
      else if b.next ≠ mac then
        let s := (s.busSend p [.token b.next]).wrB (Reg.BUS_LSTAT_TOKEN p.val) false
        s.setPort p { s.port p with tokens := 1, retries := 0, node := .passToken }
      else if q ≠ mac then
        let s := s.busSend p [.poll q]
        s.setPort p { s.port p with poll := q }
      else
        ((s.setPort p { b with sole := true, node := .idle, tokens := 1, sent := [] }).useToken p)
     else s)

/-- AUTOBAUD_DWELL: after 1 s at a rate in DETECT the port moves to the next one (R321). -/
def execAutobaudDwell (p : Fin 2) (s : State) : Host.Outcome State Fault Refusal :=
  done (fpBus p) s
    (if s.busProto p 1 && s.rd (Reg.BUS_LSTAT_LSTATE p.val) == lsDetect then
      let s := s.wr (Reg.BUS_LSTAT_BAUDIN p.val) (nextRate (s.rd (Reg.BUS_LSTAT_BAUDIN p.val)))
      s.setPort p { s.port p with goodRun := 0 }
    else s)

/-- AUTOBAUD_TIMEOUT: LISTENMAX seconds without a lock; the port takes BAUD, sets SOLE and enters RUN (R321). -/
def execAutobaudTimeout (p : Fin 2) (s : State) : Host.Outcome State Fault Refusal :=
  done (fpBus p) s
    (if s.busProto p 1 && s.rd (Reg.BUS_LSTAT_LSTATE p.val) == lsDetect then
      (s.enterMstpRun p (s.rd (Reg.BUS_CFG_BAUD p.val))).wrB (Reg.BUS_LSTAT_SOLE p.val) true
    else s)

/-- BUS_REDETECT: REDETECT on MS/TP, RENEGOTIATE on Modbus (Table 15-14, R321, R335). -/
def execBusRedetect (p : Fin 2) (s : State) : Host.Outcome State Fault Refusal :=
  let st := s.gate (.bus p) true
  let st := if st ≠ Status.OK then st
    else if s.rd (Reg.BUS_LSTAT_LSTATE p.val) ≠ lsRun ∨ !s.rdB (Reg.BUS_CFG_AUTOBAUD p.val) then Status.ILLEGAL_STATE
    else Status.OK
  let t := if st ≠ Status.OK then s
    else if s.rd (Reg.BUS_CFG_PROTO p.val) = 1 then s.enterDetect p
    else (s.wr (Reg.BUS_LSTAT_LSTATE p.val) lsNegotiate).setPort p
      { s.port p with attempt := none, cycling := false, overrun := false }
  done (fpBus p) s (t.answer (.bus p) 9 (some (Reg.BUS_CMD_CSTAT p.val)) st)

end Sys2Proof.Machine
end

