-- ==== Sys2Proof/Machine/BusApp.lean ====
section
/-! DEFINITION. Building bus ports, the BACnet application layer (R322 to R328): services, properties, writes, change of
value. Requests and answers are typed; their octets follow ANSI/ASHRAE 135, which the spec names and does not print
(notes/assumptions/72). -/

namespace Sys2Proof.Machine
open Sys2Proof

/-- Properties of the Device object (R323), in the order of the list. -/
def deviceProps : List BProp :=
  [.objectIdentifier, .objectName, .objectType, .systemStatus, .vendorName, .vendorIdentifier, .modelName,
   .firmwareRevision, .applicationSoftwareVersion, .protocolVersion, .protocolRevision,
   .protocolServicesSupported, .protocolObjectTypesSupported, .objectList, .maxApduLengthAccepted,
   .segmentationSupported, .apduTimeout, .numberOfApduRetries, .maxMaster, .maxInfoFrames,
   .deviceAddressBinding, .databaseRevision]

/-- The object's point has this port and this object as its source: it is writable, and so commandable (R326). -/
def State.objWritable (s : State) (p : Fin 2) (i : Nat) (o : BObj) : Bool :=
  match s.point o.point with
  | some q => decide (q.source = .bacnet p.val i)
  | none => false

def OType.analog : OType → Bool
  | .ai | .ao | .av => true
  | .bv | .msv => false

/-- The properties that an object supports (R323). -/
def objProps (o : BObj) (commandable : Bool) : List BProp :=
  [.objectIdentifier, .objectName, .objectType, .presentValue, .statusFlags, .eventState, .reliability,
   .outOfService] ++
  (if o.otype.analog then [.units, .covIncrement] else []) ++
  (if o.otype = .msv then [.numberOfStates] else []) ++
  (if commandable then [.priorityArray, .relinquishDefault] else [])

/-- The properties that ANSI/ASHRAE 135 makes optional for an object type (PRESUMED, notes/assumptions/72). -/
def objOptional (o : BObj) : BProp → Bool
  | .reliability | .covIncrement => true
  | .priorityArray | .relinquishDefault => !decide (o.otype = .ao)
  | _ => false

/-- An array value, or one entry of it: index 0 is its size. -/
def arrayValue (vals : List BVal) (index : Option Nat) : List BVal × Option BErr :=
  match index with
  | none => (vals, none)
  | some 0 => ([.uint vals.length], none)
  | some (n + 1) =>
    match vals[n]? with
    | some v => ([v], none)
    | none => ([], some .invalidArrayIndex)

/-- A property that is no array takes no index. -/
def scalarValue (v : List BVal) (index : Option Nat) : List BVal × Option BErr :=
  match index with
  | none => (v, none)
  | some _ => ([], some .invalidArrayIndex)

/-- Reliability of an object, with the rule of MSV objects (R324). -/
def objReliability (o : BObj) (f : PFormat) (v : Word) (q : Quality) : BRel :=
  if o.otype = .msv ∧ (v.toNat = 0 ∨ o.nstates < v.toNat) then .multiStateFault else qualityRel f v q

/-- A property of an object of the table, from one read of its point. -/
def State.objProp (s : State) (p : Fin 2) (i : Nat) (o : BObj) (prop : BProp) (index : Option Nat) :
    List BVal × Option BErr :=
  let r := s.objPoint o
  if !(objProps o (s.objWritable p i o)).any (fun q => decide (q = prop)) then ([], some .unknownProperty)
  else match prop with
    | .objectIdentifier => scalarValue [.oid (.obj o.otype o.inst)] index
    | .objectName => scalarValue [.str o.name] index
    | .objectType => scalarValue [.otype (some o.otype)] index
    | .presentValue => scalarValue [presentValue o r.1 r.2.1] index
    | .statusFlags => scalarValue [qualityFlags r.2.2] index
    | .eventState => scalarValue [.enum 0] index
    | .reliability => scalarValue [.rel (objReliability o r.1 r.2.1 r.2.2)] index
    | .outOfService => scalarValue [.bool false] index
    | .units => scalarValue [.enum o.units] index
    | .covIncrement => scalarValue [.real o.covInc.toF32] index
    | .numberOfStates => scalarValue [.uint o.nstates] index
    | .priorityArray => arrayValue o.prio index
    | .relinquishDefault => scalarValue [o.relinquish] index
    | _ => ([], some .unknownProperty)

/-- A property of the Device object (R323, R327). -/
def State.devProp (s : State) (p : Fin 2) (prop : BProp) (index : Option Nat) : List BVal × Option BErr :=
  let b := s.port p
  match prop with
  | .objectIdentifier => scalarValue [.oid (.device (s.devInst p))] index
  | .objectName => scalarValue [.str b.dev.name] index
  | .objectType => scalarValue [.otype none] index
  -- OPERATIONAL 0, OPERATIONAL_READ_ONLY 1
  | .systemStatus => scalarValue [.enum (if s.service then 1 else 0)] index
  | .vendorName => scalarValue [.str b.dev.vendorName] index
  | .vendorIdentifier => scalarValue [.uint b.dev.vendorId] index
  | .modelName => scalarValue [.str b.dev.model] index
  | .firmwareRevision => scalarValue [.str b.dev.firmware] index
  | .applicationSoftwareVersion => scalarValue [.str b.dev.software] index
  | .protocolVersion => scalarValue [.uint (Config.deviceProperty 0)] index
  | .protocolRevision => scalarValue [.uint (Config.deviceProperty 1)] index
  | .protocolServicesSupported => scalarValue [.uint (Config.deviceProperty 2)] index
  | .protocolObjectTypesSupported => scalarValue [.uint (Config.deviceProperty 3)] index
  | .objectList =>
    arrayValue (.oid (.device (s.devInst p)) :: b.objs.map (fun o => .oid (.obj o.otype o.inst))) index
  | .maxApduLengthAccepted => scalarValue [.uint 480] index
  -- NO_SEGMENTATION
  | .segmentationSupported => scalarValue [.enum 3] index
  | .apduTimeout => scalarValue [.uint (Config.deviceProperty 4)] index
  | .numberOfApduRetries => scalarValue [.uint (Config.deviceProperty 5)] index
  | .maxMaster => scalarValue [.uint (s.rd (Reg.BUS_MSTP_MAXMASTER p.val))] index
  | .maxInfoFrames => scalarValue [.uint (s.rd (Reg.BUS_MSTP_MAXINFO p.val) + 1)] index
  | .deviceAddressBinding => scalarValue [] index
  | .databaseRevision => scalarValue [.uint b.dev.dbRev] index
  | _ => ([], some .unknownProperty)

/-- The first object of a list with a type and an instance, counted from `i`. -/
def findObj (t : OType) (inst : Nat) : Nat → List BObj → Option (Nat × BObj)
  | _, [] => none
  | i, o :: os => if o.otype = t ∧ o.inst = inst then some (i, o) else findObj t inst (i + 1) os

/-- One property of the object that a request names. -/
def State.readProp (s : State) (p : Fin 2) (id : BObjId) (prop : BProp) (index : Option Nat) : PropRes :=
  let mk := fun (r : List BVal × Option BErr) =>
    ({ obj := id, prop := prop, index := index, vals := r.1, err := r.2 } : PropRes)
  match id with
  | .device n => if n = s.devInst p then mk (s.devProp p prop index) else mk ([], some .unknownObject)
  | .obj t n =>
    match findObj t n 0 (s.port p).objs with
    | some (i, o) => mk (s.objProp p i o prop index)
    | none => mk ([], some .unknownObject)
  | .unsupported _ _ => mk ([], some .unknownObject)

/-- An answer to a confirmed request, to its sender or, where it carries a source network address, through the router that
delivered it (R322): counted in 0x014, and in 0x015 if it is an Error, a Reject or an Abort
(DEDUCED, notes/assumptions/73). -/
def State.busReply (s : State) (p : Fin 2) (dst : BAddr) (m : BMsg) : State :=
  let s := (s.busSend p [.msg dst m]).busCount p 4
  match m with
  | .error _ | .reject | .abort => s.busCount p 5
  | _ => s

/-- WHO_IS: I-Am when the instance lies within the range, or when no range is given (Table 15-3). It is sent with the
next token, or at once by a port that holds it. -/
def execWhoIs (p : Fin 2) (range : Option (Nat × Nat)) (s : State) : Host.Outcome State Fault Refusal :=
  let n := s.devInst p
  let hit : Bool := match range with
    | none => true
    | some (lo, hi) => Nat.ble lo n && Nat.ble n hi
  done (fpBus p) s
    (if s.mstpRun p && hit then
      let s := (s.busCount p 4).setPort p { s.port p with iAmDue := true, sent := [] }
      if s.rdB (Reg.BUS_LSTAT_TOKEN p.val) then s.useToken p else s
    else s)

/-- READ_PROPERTY (R322 to R325). -/
def execReadProperty (p : Fin 2) (src : BAddr) (obj : BObjId) (prop : BProp) (index : Option Nat) (s : State) :
    Host.Outcome State Fault Refusal :=
  let r := s.readProp p obj prop index
  done (fpBus p) s
    (if s.mstpRun p then
      match r.err with
      | some e => s.busReply p src (.error e)
      | none => s.busReply p src (.readAck r)
    else s)

/-- Octets of a number in an encoded value: as many as it needs, at least one. -/
def uintOctets (n : Nat) : Nat := if n < 256 then 1 else if n < 65536 then 2 else if n < 16777216 then 3 else 4

/-- Octets of an encoded value: tag and content (PRESUMED, notes/assumptions/72). -/
def valOctets : BVal → Nat
  | .null => 1
  | .real _ => 5
  | .enum n | .uint n => 1 + uintOctets n
  | .bool _ => 1
  | .flags _ _ _ _ => 3
  | .rel _ => 2
  | .str s => (if s.length + 1 < 5 then 1 else if s.length + 1 < 254 then 2 else 4) + 1 + s.length
  | .oid _ => 5
  | .otype _ => 2

/-- Octets of one property's result within a ReadPropertyMultiple answer. -/
def resOctets (r : PropRes) : Nat :=
  2 + (match r.index with | some n => 1 + uintOctets n | none => 0) +
  (match r.err with
   | some _ => 6
   | none => 2 + (r.vals.map valOctets).foldl (· + ·) 0)

/-- The properties that one request item stands for. -/
def State.expandRef (s : State) (p : Fin 2) (id : BObjId) (r : PropRef) : List (BProp × Option Nat) :=
  let props : List (BProp × Bool) := match id with
    | .obj t n =>
      (match findObj t n 0 (s.port p).objs with
       | some (i, o) => (objProps o (s.objWritable p i o)).map (fun q => (q, objOptional o q))
       | none => [(.objectIdentifier, false)])
    | .device n =>
      if n = s.devInst p then
        deviceProps.map (fun q => (q, decide (q = .maxMaster) || decide (q = .maxInfoFrames)))
      else [(.objectIdentifier, false)]
    | .unsupported _ _ => [(.objectIdentifier, false)]
  match r with
  | .one q i => [(q, i)]
  | .all => props.map (fun q => (q.1, none))
  | .required => (props.filter (fun q => !q.2)).map (fun q => (q.1, none))
  | .optional => (props.filter (fun q => q.2)).map (fun q => (q.1, none))

/-- Every result of a ReadPropertyMultiple request, object by object. -/
def State.readMultiple (s : State) (p : Fin 2) (specs : List (BObjId × List PropRef)) : List (List PropRes) :=
  specs.map (fun sp =>
    (sp.2.map (fun r => (s.expandRef p sp.1 r).map (fun q => s.readProp p sp.1 q.1 q.2))).foldr (· ++ ·) [])

/-- Octets of a ReadPropertyMultiple answer. -/
def multiOctets (rs : List (List PropRes)) : Nat :=
  3 + (rs.map (fun l => 7 + (l.map resOctets).foldl (· + ·) 0)).foldl (· + ·) 0

/-- READ_PROPERTY_MULTIPLE: a result that would exceed 480 octets is answered with Abort (Table 15-3). -/
def execReadPropertyMultiple (p : Fin 2) (src : BAddr) (specs : List (BObjId × List PropRef)) (s : State) :
    Host.Outcome State Fault Refusal :=
  let rs := s.readMultiple p specs
  done (fpBus p) s
    (if s.mstpRun p then
      if 480 < multiOctets rs then s.busReply p src .abort
      else s.busReply p src (.multiAck (rs.foldr (· ++ ·) []))
    else s)

/-- A written value as a point value: none where the datatype is wrong; the number may lie outside the format. -/
def writeValue (o : BObj) (v : BVal) : Option (Option Int) :=
  match o.otype, v with
  | .bv, .enum n => some (if n = 0 then some 0 else if n = 1 then some 1 else none)
  | .msv, .uint n => some (if n = 0 ∨ o.nstates < n then none else some n)
  | .bv, _ => none
  | .msv, _ => none
  | _, .real x => some ((x.sub o.offset).div o.scale).roundAway
  | _, _ => none

/-- The highest-priority entry that is not NULL, or the default (R326). -/
def effective (dflt : BVal) : List BVal → BVal
  | [] => dflt
  | .null :: vs => effective dflt vs
  | v :: _ => v

/-- The effective value written to the point, FRESH, when it differs from the value last written (R326 rules 2 to 4). -/
def State.writeEffective (s : State) (p : Fin 2) (i : Nat) (o : BObj) : BObj × State :=
  let f := (s.objPoint o).1
  match writeValue o (effective o.relinquish o.prio) with
  | some (some x) =>
    let w := BitVec.ofNat 18 (ofSigned 18 (clampInt (formatLo f) (formatHi f) x))
    if o.lastWritten = some w then (o, s)
    else ({ o with lastWritten := some w }, s.srcTrig (.bus p) (.bacnet p.val i) o.point (.write w))
  | _ => (o, s)

def setObj (os : List BObj) (i : Nat) (o : BObj) : List BObj := os.set i o

/-- A write of Present_Value of a writable object. -/
def State.writeObj (s : State) (p : Fin 2) (i : Nat) (o : BObj) (v : BVal) (prio : Nat) : Option BErr × State :=
  let f := (s.objPoint o).1
  let apply := fun (_ : Unit) =>
    (let o := { o with prio := o.prio.set prio v }
     let r := s.writeEffective p i o
     (none, r.2.setPort p { r.2.port p with objs := setObj (r.2.port p).objs i r.1 }))
  if v = .null then apply ()
  else match writeValue o v with
    | none => (some .invalidDataType, s)
    | some none => (some .valueOutOfRange, s)
    | some (some x) => if x < formatLo f ∨ formatHi f < x then (some .valueOutOfRange, s) else apply ()

/-- WRITE_PROPERTY (R322, R326, R327). Priority 8 is used when the request gives none. -/
def execWriteProperty (p : Fin 2) (src : BAddr) (obj : BObjId) (prop : BProp) (value : BVal) (prio : Option (Fin 16))
    (s : State) : Host.Outcome State Fault Refusal :=
  let r : Option BErr × State :=
    if s.service then (some .operationalProblem, s)
    else match obj with
      | .device n => if n = s.devInst p then (some .writeAccessDenied, s) else (some .unknownObject, s)
      | .unsupported _ _ => (some .unknownObject, s)
      | .obj t n =>
        match findObj t n 0 (s.port p).objs with
        | none => (some .unknownObject, s)
        | some (i, o) =>
          if prop = .presentValue ∧ s.objWritable p i o then
            s.writeObj p i o value (match prio with | some k => k.val | none => 7)
          else (some .writeAccessDenied, s)
  done (fpBus p) s
    (if s.mstpRun p then
      match r.1 with
      | some e => r.2.busReply p src (.error e)
      | none => r.2.busReply p src .simpleAck
    else s)

/-- The subscription of a subscriber, a process and an object. -/
def CovSub.same (c : CovSub) (addr : BAddr) (proc obj : Nat) : Bool := c.addr == addr && c.proc == proc && c.obj == obj

/-- SUBSCRIBE_COV (R327, R328). -/
def execSubscribeCov (p : Fin 2) (src : BAddr) (proc : Nat) (obj : BObjId) (cancel confirmed : Bool) (life : Nat)
    (s : State) : Host.Outcome State Fault Refusal :=
  let b := s.port p
  let found : Option (Nat × BObj) := match obj with
    | .obj t n => findObj t n 0 b.objs
    | _ => none
  let r : Option BErr × List CovSub :=
    if s.service then (some .operationalProblem, b.subs)
    else match found with
      | none => (some .unknownObject, b.subs)
      | some (i, _) =>
        if cancel then (none, b.subs.filter (fun c => !c.same src proc i))
        else if confirmed then (some .optionalFunctionalityNotSupported, b.subs)
        else if 28800 < life then (some .valueOutOfRange, b.subs)
        else if b.subs.any (fun c => c.same src proc i) then
          (none, b.subs.map (fun c => if c.same src proc i then { c with life := life, due := true } else c))
        else if 32 ≤ b.subs.length then (some .noSpaceToAddListElement, b.subs)
        else (none, b.subs ++ [{ addr := src, proc := proc, obj := i, life := life, last := none, due := true }])
  done (fpBus p) s
    (if s.mstpRun p then
      match r.1 with
      | some e => (s.busReply p src (.error e)).busCount p 7
      | none => (s.setPort p { b with subs := r.2 }).busReply p src .simpleAck
    else s)

/-- UNRECOGNIZED_SERVICE: a confirmed request is rejected, an unconfirmed one ignored (R322). -/
def execUnrecognizedService (p : Fin 2) (src : BAddr) (confirmed : Bool) (s : State) :
    Host.Outcome State Fault Refusal :=
  done (fpBus p) s (if s.mstpRun p && confirmed then s.busReply p src .reject else s)

/-- A notification falls due (R328): the value has moved by COV_Increment or more, or has changed; or the flags have. -/
def covDue (o : BObj) (last now : BVal × BVal) : Bool :=
  !decide (last.2 = now.2) ||
  (match last.1, now.1 with
   | .real a, .real b =>
     let d := b.sub a
     o.covInc.le (if d.isNeg then d.negate else d)
   | x, y => !decide (x = y))

/-- COV_SCAN: every 100 ms each subscribed object is compared with what was last notified (R328); a port that keeps the
token sends what is due. -/
def execCovScan (p : Fin 2) (s : State) : Host.Outcome State Fault Refusal :=
  let b := s.port p
  let subs := b.subs.map (fun c =>
    match c.last, b.objs[c.obj]? with
    | some l, some o => if covDue o l (s.objNow o) then { c with due := true } else c
    | _, _ => c)
  done (fpBus p) s
    (if s.mstpRun p then
      let t := s.setPort p { b with subs := subs, sent := [] }
      if s.rdB (Reg.BUS_LSTAT_TOKEN p.val) then t.useToken p else t
    else s)

/-- COV_EXPIRY: a subscription whose lifetime ends is removed (R328); one without expiry stays. -/
def execCovExpiry (p : Fin 2) (sub : Nat) (s : State) : Host.Outcome State Fault Refusal :=
  let b := s.port p
  done (fpBus p) s
    (match b.subs[sub]? with
     | some c => if c.life = 0 then s else s.setPort p { b with subs := b.subs.eraseIdx sub }
     | none => s)

end Sys2Proof.Machine
end

