-- ==== Sys2Proof/Machine/BusModbus.lean ====
section
/-! DEFINITION. Building bus ports, the Modbus RTU client (R329 to R335), the selectors of the windows (R338) and the
start of a port (R326, R336). Frames are the bytes from the unit address to the last data byte; the CRC is the line's. -/

namespace Sys2Proof.Machine
open Sys2Proof

/-- Read transactions: function codes 01 to 04 (Table 15-5). -/
def MbTrans.reads (t : MbTrans) : Bool := Nat.blt t.fci 4

/-- Bits rather than registers. -/
def MbTrans.bits (t : MbTrans) : Bool := t.fci == 0 || t.fci == 1 || t.fci == 4 || t.fci == 6

/-- Function code (Table 15-5). -/
def MbTrans.fcode (t : MbTrans) : Nat :=
  match t.fci with
  | 0 => 1 | 1 => 2 | 2 => 3 | 3 => 4 | 4 => 5 | 5 => 6 | 6 => 15 | _ => 16

/-- 32-bit types take two registers a value (Table 15-5). -/
def MbTrans.wide (t : MbTrans) : Bool := t.dtype == 2 || t.dtype == 3

/-- Values of a transaction, which are its points. -/
def MbTrans.values (t : MbTrans) : Nat :=
  if t.fci = 4 ∨ t.fci = 5 then 1 else if t.bits then t.count else if t.wide then t.count / 2 else t.count

/-- (x × M + h) >> sh with h = 2^(sh − 1), 0 when sh is 0 (R331). -/
def mulShift (x m : Int) (sh : Nat) : Int :=
  (x * m + (if sh = 0 then 0 else 2 ^ (sh - 1))) / (2 ^ sh : Nat)

/-- Raw range of a data type. -/
def rawLo (d : Nat) : Int := match d with | 1 => -32768 | 3 => -2147483648 | _ => 0
def rawHi (d : Nat) : Int := match d with | 0 => 65535 | 1 => 32767 | 2 => 4294967295 | _ => 2147483647

/-- The value of a read raw number as its point takes it (R331). -/
def mbReadTrig (t : MbTrans) (f : PFormat) (raw : Int) : PTrig :=
  if t.bits then .write (BitVec.ofNat 18 raw.toNat)
  else formatWrite f (mulShift raw t.mscl t.msh + t.mofs)

/-- The raw number of a written value, and whether it saturated (R331). -/
def mbWriteRaw (t : MbTrans) (v : Int) : Int × Bool :=
  if t.bits then (if v = 0 then 0 else 1, false)
  else
    let x := mulShift (v - t.mofs) t.wscl t.wsh
    let y := clampInt (rawLo t.dtype) (rawHi t.dtype) x
    (y, decide (x ≠ y))

/-- Two bytes, high first. -/
def be2 (v : Nat) : List Byte := [BitVec.ofNat 8 (v / 256), BitVec.ofNat 8 v]

/-- A number from two bytes, high first. -/
def ofBe2 (a b : Byte) : Nat := a.toNat * 256 + b.toNat

/-- Registers of a raw value, high word first. -/
def rawWords (t : MbTrans) (raw : Int) : List Nat :=
  let u := ofSigned 32 raw
  if t.wide then [u / 65536, u % 65536] else [ofSigned 16 raw]

/-- The byte of bits 8i to 8i + 7 of a list, first in bit 0. -/
def packByte (l : List Bool) (i : Nat) : Byte :=
  BitVec.ofNat 8 (((List.range 8).map (fun j => if l[8 * i + j]? = some true then 2 ^ j else 0)).foldl (· + ·) 0)

/-- Bits packed eight to a byte, first in bit 0. -/
def packBits (l : List Bool) : List Byte := (List.range ((l.length + 7) / 8)).map (packByte l)

/-- Bit `i` of packed bytes. -/
def packedBit (bs : List Byte) (i : Nat) : Bool :=
  match bs[i / 8]? with
  | some b => b.toNat / 2 ^ (i % 8) % 2 == 1
  | none => false

/-- The request of a transaction, with the raw numbers of a write (R329). -/
def mbRequest (t : MbTrans) (raws : List Int) : List Byte :=
  let head := [BitVec.ofNat 8 t.unit, BitVec.ofNat 8 t.fcode] ++ be2 t.start
  match t.fci with
  | 0 | 1 | 2 | 3 => head ++ be2 t.count
  | 4 => head ++ be2 (if raws.headD 0 = 0 then 0 else 0xFF00)
  | 5 => head ++ be2 (ofSigned 16 (raws.headD 0))
  | 6 =>
    let bs := packBits (raws.map (fun r => !decide (r = 0)))
    head ++ be2 t.count ++ [BitVec.ofNat 8 bs.length] ++ bs
  | _ =>
    let ws := (raws.map (rawWords t)).foldr (· ++ ·) []
    head ++ be2 t.count ++ [BitVec.ofNat 8 (2 * ws.length)] ++ (ws.map be2).foldr (· ++ ·) []

/-- The raw values of a read response's data bytes. -/
def mbRaws (t : MbTrans) (data : List Byte) : List Int :=
  let reg (i : Nat) : Nat := ofBe2 (data.getD (2 * i) 0) (data.getD (2 * i + 1) 0)
  (List.range t.values).map (fun k =>
    if t.bits then (if packedBit data k then 1 else 0)
    else match t.dtype with
      | 0 => (reg k : Int)
      | 1 => toSigned 16 (reg k)
      | 2 => ((reg (2 * k) * 65536 + reg (2 * k + 1) : Nat) : Int)
      | _ => toSigned 32 (reg (2 * k) * 65536 + reg (2 * k + 1)))

/-- How a response frame is judged (R332). -/
inductive MbAnswer where
  | valid (data : List Byte)
  | exception (code : Nat)
  | bad
  deriving DecidableEq, Repr

/-- The response's unit, function and length are checked against the request (R332). -/
def mbJudge (t : MbTrans) (bytes : List Byte) (checkOk : Bool) : MbAnswer :=
  if !checkOk then .bad
  else match bytes with
    | u :: f :: rest =>
      if u.toNat ≠ t.unit then .bad
      else if f.toNat = t.fcode + 128 then
        (match rest with | [c] => .exception c.toNat | _ => .bad)
      else if f.toNat ≠ t.fcode then .bad
      else if t.reads then
        (match rest with
         | n :: data =>
           let want := if t.bits then (t.count + 7) / 8 else 2 * t.count
           if n.toNat = want ∧ data.length = want then .valid data else .bad
         | [] => .bad)
      else if rest.length = 4 ∧ rest.take 2 = be2 t.start then .valid [] else .bad
    | _ => .bad

/-- The transaction and the device of a port changed. -/
def BusSt.modTrans (b : BusSt) (i : Nat) (f : MbTrans → MbTrans) : BusSt := { b with trans := b.trans.modify i f }

def BusSt.modDev (b : BusSt) (unit : Nat) (f : MbDev → MbDev) : BusSt :=
  { b with devs := b.devs.map (fun d => if d.unit = unit then f d else d) }

def BusSt.devOf (b : BusSt) (unit : Nat) : Option MbDev := b.devs.find? (fun d => d.unit == unit)

/-- The first transaction of a unit in table order: the probe of an OFFLINE device (R333). -/
def firstOf (unit : Nat) : Nat → List MbTrans → Option Nat
  | _, [] => none
  | i, t :: ts => if t.unit = unit then some i else firstOf unit (i + 1) ts

/-- A point's value for a write, and whether it is usable (R292, R334). -/
def State.mbPoint (s : State) (n : Nat) : Option Word := if s.ptUsable n then some (s.readPoint n).1 else none

/-- What a write transaction sends now: nothing (with a status), or its values (R334). -/
inductive MbPlan where
  | skip (status : Option Nat)
  | send (vals : List Word)
  deriving DecidableEq, Repr

/-- The values of a write, its LOSSACT applied, and WMODE judged (R334). The second component is the transaction with its
last usable values brought up to date. -/
def State.mbPlan (s : State) (t : MbTrans) : MbPlan × MbTrans :=
  let now := (List.range t.values).map (fun k => s.mbPoint (t.point + k))
  let kept := (List.range t.values).map (fun k =>
    match now.getD k none with | some v => some v | none => t.usable.getD k none)
  let t := { t with usable := kept }
  let vals : Option (List Word) :=
    if now.all Option.isSome then some (now.filterMap id)
    else if t.lossLast && kept.all Option.isSome then some (kept.filterMap id)
    else none
  match vals with
  | none => (.skip (some Status.STALE), t)
  | some vs =>
    if t.wmode && !t.force && decide (t.sentVals = some vs) then (.skip none, t) else (.send vs, t)

/-- The raw numbers of a write's values. -/
def State.mbRawsOut (s : State) (t : MbTrans) (vals : List Word) : List (Int × Bool) :=
  (List.range vals.length).map (fun k =>
    let f := match s.point (t.point + k) with | some p => p.format | none => .ucnt
    mbWriteRaw t (formatValue f (vals.getD k 0)))

/-- The request of an attempt goes on the line; its first attempt counts as a transaction sent (Table 15-15). -/
def State.mbSend (s : State) (p : Fin 2) (i : Nat) (t : MbTrans) (vals : List Word) (attempt : Nat) (probe : Bool) :
    State :=
  let raws := s.mbRawsOut t vals
  let s := s.busSend p [.modbus (mbRequest t (raws.map (·.1)))]
  let s := if attempt = 1 then s.busCount p 4 else s
  s.setPort p { s.port p with
    attempt := some { trans := i, attempt := attempt, wait := true, probe := probe, vals := vals,
                      clipw := raws.any (·.2) } }

/-- The cycle ends; one that is overdue starts at once (R330). -/
def State.mbEndCycle (s : State) (p : Fin 2) : State :=
  let b := s.port p
  s.setPort p { b with cycling := b.overrun, overrun := false, nextTrans := 0, revived := [] }

/-- The next transaction of the cycle that is to be sent, skipping those that are not; `fuel` bounds the table. -/
def State.mbNext (p : Fin 2) : Nat → State → State
  | 0, s => s.mbEndCycle p
  | fuel + 1, s =>
    let b := s.port p
    match b.trans[b.nextTrans]? with
    | none => s.mbEndCycle p
    | some t =>
      let i := b.nextTrans
      let skip := fun (s : State) => State.mbNext p fuel (s.setPort p { s.port p with nextTrans := i + 1 })
      let offline := match b.devOf t.unit with | some d => !d.online | none => false
      if b.revived.any (fun u => u == t.unit) then skip s
      else if offline && !decide (firstOf t.unit 0 b.trans = some i) then
        skip (s.setPort p (b.modTrans i (fun t => { t with status := Status.DOWN })))
      else if t.reads then s.mbSend p i t [] 1 offline
      else
        let r := s.mbPlan t
        let s := s.setPort p (b.modTrans i (fun _ => r.2))
        match r.1 with
        | .send vals => s.mbSend p i r.2 vals 1 offline
        | .skip none => skip s
        | .skip (some st) => skip (s.setPort p ((s.port p).modTrans i (fun t => { t with status := st })))

/-- MODBUS_CYCLE_START: CYCLE ms after the start of the previous cycle; one that has not ended is overrun (R330). -/
def execModbusCycleStart (p : Fin 2) (s : State) : Host.Outcome State Fault Refusal :=
  done (fpBus p) s
    (if s.modbusRun p then
      let b := s.port p
      if b.cycling then (s.setPort p { b with overrun := true }).busCount p 7
      else s.setPort p { b with cycling := true, overrun := false, nextTrans := 0, revived := [] }
    else s)

/-- MODBUS_REQUEST: the next transaction's request, or the retry of a failed attempt (R330, R332, R334). -/
def execModbusRequest (p : Fin 2) (s : State) : Host.Outcome State Fault Refusal :=
  let b := s.port p
  done (fpBus p) s
    (if s.modbusRun p && b.cycling then
      match b.attempt with
      | some a =>
        if a.wait then s
        else match b.trans[a.trans]? with
          | some t => s.mbSend p a.trans t a.vals a.attempt a.probe
          | none => s
      | none => State.mbNext p (b.trans.length + 1) s
    else s)

/-- The transaction of the attempt is over. -/
def State.mbTransEnd (s : State) (p : Fin 2) (i : Nat) : State :=
  let b := s.port p
  let s := s.setPort p { b with attempt := none, nextTrans := i + 1 }
  if b.trans.length ≤ i + 1 then s.mbEndCycle p else s

/-- TSTAT of every transaction of an OFFLINE device but its first reads DOWN (R333). -/
def BusSt.downTrans (b : BusSt) (unit : Nat) : BusSt :=
  (List.range b.trans.length).foldl (fun b i =>
    match b.trans[i]? with
    | some t =>
      if t.unit = unit ∧ firstOf unit 0 b.trans ≠ some i then b.modTrans i (fun t => { t with status := Status.DOWN }) else b
    | none => b) b

/-- Every point of a device's read transactions goes FAULT (R333). -/
def State.mbDevFault (s : State) (p : Fin 2) (unit : Nat) : State :=
  let ts := (s.port p).trans
  (List.range ts.length).foldl (fun s i =>
    match ts[i]? with
    | some t =>
      if t.unit = unit ∧ t.reads then
        (List.range t.values).foldl (fun s k =>
          s.srcTrig (.bus p) (.modbus p.val i k) (t.point + k) (.fail none)) s
      else s
    | none => s) s

/-- A failed attempt: it is repeated up to RETRY times; then the transaction fails (R332, R333). -/
def State.mbFail (s : State) (p : Fin 2) (a : MbAttempt) (st : Nat) : State :=
  let s := s.busCount p 3
  let b := s.port p
  if !a.probe && Nat.ble a.attempt (s.rd (Reg.BUS_MBTIME_RETRY p.val)) then
    s.setPort p { b with attempt := some { a with attempt := a.attempt + 1, wait := false } }
  else
    let s := s.busCount p 5
    match b.trans[a.trans]? with
    | none => s.mbTransEnd p a.trans
    | some t =>
      let b := (s.port p).modTrans a.trans (fun t => { t with status := st, force := true, exc := 0 })
      let d := match b.devOf t.unit with | some d => d | none => { unit := t.unit, online := true, fails := 0 }
      let fails := if d.fails < 255 then d.fails + 1 else 255
      let off := d.online && Nat.ble (s.rd (Reg.BUS_MBTIME_DOWNCNT p.val)) fails
      let s := s.setPort p (b.modDev t.unit (fun d => { d with fails := fails, online := d.online && !off }))
      let s := if off then
          let s := s.setPort p ((s.port p).downTrans t.unit)
          (s.mbDevFault p t.unit).wr (Reg.BUS_LSTAT_NOFF p.val) (s.rd (Reg.BUS_LSTAT_NOFF p.val) + 1)
        else s
      s.mbTransEnd p a.trans

/-- A valid response, exception responses included, returns an OFFLINE device to ONLINE; its normal polling resumes with
the next cycle, and its writes are sent then (R333, R334). -/
def State.mbAlive (s : State) (p : Fin 2) (unit : Nat) : State :=
  let b := s.port p
  match b.devOf unit with
  | none => s
  | some d =>
    let b := b.modDev unit (fun d => { d with fails := 0, online := true })
    if d.online then s.setPort p b
    else
      let b := { b with
        revived := unit :: b.revived
        trans := b.trans.map (fun t => if t.unit = unit then { t with force := true } else t) }
      (s.setPort p b).wr (Reg.BUS_LSTAT_NOFF p.val) (s.rd (Reg.BUS_LSTAT_NOFF p.val) - 1)

/-- The values of a read response go to their points in one clock, in the order of k (R331, R332). -/
def State.mbApply (s : State) (p : Fin 2) (i : Nat) (t : MbTrans) (raws : List Int) : State :=
  (List.range raws.length).foldl (fun s k =>
    let f := match s.point (t.point + k) with | some q => q.format | none => .ucnt
    s.srcTrig (.bus p) (.modbus p.val i k) (t.point + k) (mbReadTrig t f (raws.getD k 0))) s

/-- MODBUS_RESPONSE: a frame closes and is counted; it is judged where a response is awaited (R331 to R333). -/
def execModbusResponse (p : Fin 2) (bytes : List Byte) (checkOk : Bool) (s : State) :
    Host.Outcome State Fault Refusal :=
  let b := s.port p
  let s' := if s.modbusRun p then s.busCount p (if checkOk then 0 else 1) else s
  done (fpBus p) s
    (match b.attempt with
     | some a =>
       (match b.trans[a.trans]? with
        | some t =>
          if !(s.modbusRun p && a.wait) then s'
          else
            let s := s'
            match mbJudge t bytes checkOk with
            | .bad => s.mbFail p a Status.CHECK_FAIL
            | .exception code =>
              let s := (s.busCount p 6).mbAlive p t.unit
              let s := s.setPort p ((s.port p).modTrans a.trans (fun t =>
                { t with status := Status.FAULT, exc := code, force := true }))
              let s := if t.reads then (List.range t.values).foldl (fun s k =>
                  s.srcTrig (.bus p) (.modbus p.val a.trans k) (t.point + k) (.fail none)) s else s
              s.mbTransEnd p a.trans
            | .valid data =>
              let s := s.mbAlive p t.unit
              let s := s.setPort p ((s.port p).modTrans a.trans (fun t =>
                if t.reads then { t with status := Status.OK, exc := 0 }
                else { t with status := Status.OK, exc := 0, clipw := a.clipw, sentVals := some a.vals,
                              force := false }))
              let s := if t.reads then s.mbApply p a.trans t (mbRaws t data) else s
              s.mbTransEnd p a.trans
        | none => s')
     | none => s')

/-- MODBUS_RESPONSE_TIMEOUT: no complete frame within RTO (R332). -/
def execModbusResponseTimeout (p : Fin 2) (s : State) : Host.Outcome State Fault Refusal :=
  let b := s.port p
  done (fpBus p) s
    (match b.attempt with
     | some a => if s.modbusRun p && a.wait then s.mbFail p a Status.TIMEOUT else s
     | none => s)

/-- The rate of the negotiation: the first at which every device answered, else the one at which most did, the higher on a
tie (R335). `replies` lists the units that answered at each rate of the baud list; the answer is rate, units, all. -/
def bestRate (units : List Nat) : List Nat → List (List Nat) → Option (Nat × List Nat) → Option (Nat × List Nat × Bool)
  | r :: rs, u :: us, best =>
    let ok := units.filter (fun x => memNat x u)
    if ok.length = units.length then some (r, ok, true)
    else
      let better := match best with | some (_, o) => Nat.blt o.length ok.length | none => true
      bestRate units rs us (if better then some (r, ok) else best)
  | _, _, best => best.map (fun b => (b.1, b.2, false))

/-- The request that the negotiation sends to a device: one attempt of its first transaction; none for a write that its LOSSACT
holds back (R334, R335). -/
def State.negRequest (s : State) (p : Fin 2) (unit : Nat) : Option (List Byte) :=
  match firstOf unit 0 (s.port p).trans with
  | none => none
  | some i =>
    match (s.port p).trans[i]? with
    | none => none
    | some t =>
      if t.reads then some (mbRequest t [])
      else match (s.mbPlan { t with force := true }).1 with
        | .send vals => some (mbRequest t ((s.mbRawsOut t vals).map (·.1)))
        | .skip _ => none

/-- The rates tried: up to the first at which every device answered. -/
def triedRates (units : List Nat) : List (List Nat) → List (List Nat)
  | [] => []
  | u :: us => if units.all (fun x => memNat x u) then [u] else u :: triedRates units us

/-- The attempts of the negotiation go on the line, each device's in turn at each rate tried; answers count in 0x010, attempts
without one in 0x013 (notes/assumptions/120). -/
def State.negSend (s : State) (p : Fin 2) (units : List Nat) (tried : List (List Nat)) : State :=
  let reqs := units.filterMap (fun u => (s.negRequest p u).map (fun q => (u, q)))
  let s := s.busSend p ((tried.map (fun _ => reqs.map (fun r => BusOut.modbus r.2))).flatten)
  tried.foldl (fun s u => reqs.foldl (fun s r => s.busCount p (if memNat r.1 u then 0 else 3)) s) s

/-- MODBUS_NEGOTIATION: the port has probed the rates of the baud list; `replies` lists, for each, the units that gave a valid
response (R335). A device that was sent nothing gives none. -/
def execModbusNegotiation (p : Fin 2) (replies : List (List Nat)) (s : State) : Host.Outcome State Fault Refusal :=
  let b := s.port p
  let units := b.devs.map (·.unit)
  done (fpBus p) s
    (if s.busProto p 2 && s.rd (Reg.BUS_LSTAT_LSTATE p.val) == lsNegotiate then
      let heard := (List.range b.bauds.length).map (fun k =>
        (replies.getD k []).filter (fun u => (s.negRequest p u).isSome))
      let r := (bestRate units b.bauds heard none).getD (s.rd (Reg.BUS_CFG_BAUD p.val), [], false)
      let devs := b.devs.map (fun d => { d with online := memNat d.unit r.2.1, fails := 0 })
      let s := s.negSend p units (triedRates units heard)
      let s := s.setPort p { s.port p with devs := devs, attempt := none, cycling := false, overrun := false }
      let s := s.setPort p ((devs.filter (fun d => !d.online)).foldl (fun b d => b.downTrans d.unit) (s.port p))
      (((s.wr (Reg.BUS_LSTAT_LSTATE p.val) lsRun).wr (Reg.BUS_LSTAT_BAUDIN p.val) r.1).wrB
        (Reg.BUS_LSTAT_NEGFAIL p.val) (!r.2.2)).wr (Reg.BUS_LSTAT_NOFF p.val)
        (devs.filter (fun d => !d.online)).length
    else s)

/-! ### The windows (R338) -/

def OType.code : OType → Nat
  | .ai => 0 | .ao => 1 | .av => 2 | .bv => 3 | .msv => 4

/-- BUS_OSEL captures an object: a selection beyond the table reads VALID = 0 and every other field 0. -/
def State.captureObj (s : State) (p : Fin 2) (i : Nat) : State :=
  let b := s.port p
  let k := (Reg.BUS_OBJ1 p.val).key
  match b.objs[i]? with
  | some o =>
    let subs := (b.subs.filter (fun c => c.obj == i)).length
    ((s.wrKey (k - 1) (o.otype.code * 2 ^ 15 + (if s.objWritable p i o then 2 ^ 14 else 0) + 2 ^ 13 + o.point)).wrKey k
      (o.inst % 2 ^ 18)).wrKey (k + 1) (subs * 2 ^ 4 + o.inst / 2 ^ 18)
  | none => ((s.wrKey (k - 1) 0).wrKey k 0).wrKey (k + 1) 0

/-- BUS_TSEL captures a transaction. -/
def State.captureTrans (s : State) (p : Fin 2) (i : Nat) : State :=
  let k := (Reg.BUS_TENT1 p.val).key
  match (s.port p).trans[i]? with
  | some t =>
    (((s.wrKey (k - 1) (t.unit * 2 ^ 10 + t.fci * 2 ^ 7 + t.dtype * 2 ^ 5 + (t.count - 1))).wrKey k t.start).wrKey
      (k + 1) (2 ^ 17 + (if t.wmode then 2 ^ 16 else 0) + (if t.lossLast then 2 ^ 15 else 0) + t.point)).wrKey (k + 2)
      (t.status * 2 ^ 13 + (if t.clipw then 2 ^ 12 else 0) + t.exc)
  | none => (((s.wrKey (k - 1) 0).wrKey k 0).wrKey (k + 1) 0).wrKey (k + 2) 0

/-- BUS_DSEL captures a field device. -/
def State.captureDev (s : State) (p : Fin 2) (i : Nat) : State :=
  let k := (Reg.BUS_DSTAT_VALID p.val).key
  match (s.port p).devs[i]? with
  | some d => s.wrKey k ((if d.online then 2 ^ 17 else 0) + 2 ^ 16 + d.unit * 2 ^ 8 + d.fails)
  | none => s.wrKey k 0

/-- BUS_SEL_WRITE: a write of BUS_OSEL, BUS_TSEL or BUS_DSEL captures the entry (R338). OBJ 511 is out of range. -/
def execBusSelWrite (p : Fin 2) (off : Fin 3) (v : Word) (s : State) : Host.Outcome State Fault Refusal :=
  let st := s.gate (.bus p) false
  let o : Nat := match off with | 0 => 0x20 | 1 => 0x30 | 2 => 0x40
  let f := match off with | 0 => Reg.BUS_OSEL p.val | 1 => Reg.BUS_TSEL p.val | 2 => Reg.BUS_DSEL p.val
  let i := bitsOf v.toNat f.hi f.lo
  let st := if st = Status.OK ∧ off = 0 ∧ i = 511 then Status.BAD_ARG else st
  done (fpBus p) s
    (if st ≠ Status.OK then s.result (.bus p) o st
     else
      let s := s.wr f i
      (match off with
       | 0 => s.captureObj p i
       | 1 => s.captureTrans p i
       | 2 => s.captureDev p i).result (.bus p) o Status.OK)

/-! ### What a section may hold -/

/-- An object that the table may hold (R323). -/
def BObj.ok (o : BObj) : Bool :=
  Nat.ble o.inst 4194302 && Nat.blt o.point 4096 && (!decide (o.otype = .msv) || (Nat.ble 1 o.nstates && Nat.ble o.nstates 16))

/-- A transaction that the table may hold: unit 1 to 247, one value for a single write, 1 to 32 bits or registers else, an even
number for 32-bit values, and its points in the table (Table 15-5, R329 to R331). -/
def MbTrans.ok (t : MbTrans) : Bool :=
  Nat.ble 1 t.unit && Nat.ble t.unit 247 && Nat.blt t.fci 8 && Nat.blt t.dtype 4 && Nat.ble 1 t.count && Nat.ble t.count 32 &&
  (!(t.fci == 4 || t.fci == 5) || t.count == 1) && (!(t.wide && !t.bits) || t.count % 2 == 0) && Nat.blt t.start 65536 &&
  Nat.ble (t.point + t.values) 4096 && decide (-131072 ≤ t.mscl ∧ t.mscl < 131072 ∧ -131072 ≤ t.wscl ∧ t.wscl < 131072) &&
  Nat.ble t.msh 31 && Nat.ble t.wsh 31

/-- The rates of a baud list, highest first: those of Table 15-1 that Modbus allows. -/
def baudsOk : List Nat → Bool
  | [] => true
  | a :: t => (a == 0 || a == 1 || a == 2 || a == 3 || a == 5) && (match t with | b :: _ => Nat.blt b a | [] => true) && baudsOk t

/-- Tables within the limits of R323, R329 and R330; a section whose tables are not fails with SEC_CONTENT
(notes/assumptions/71). -/
def BusTables.ok (b : BusTables) : Bool :=
  Nat.ble b.objs.length 511 && b.objs.all BObj.ok && Nat.ble b.trans.length 256 && b.trans.all MbTrans.ok &&
  Nat.ble (b.trans.map (·.unit)).eraseDups.length 64 && baudsOk b.bauds

/-! ### Start and stop of a port (R326, R336) -/

/-- Devices in order of first appearance in the poll table (Table 15-24). -/
def devsOf : List MbTrans → List MbDev → List MbDev
  | [], acc => acc.reverse
  | t :: ts, acc =>
    if acc.any (fun d => d.unit == t.unit) then devsOf ts acc
    else devsOf ts ({ unit := t.unit, online := true, fails := 0 } :: acc)

/-- The port starts with the tables of its BUS section: every Priority_Array NULL, each Relinquish_Default written FRESH,
then DETECT or NEGOTIATE if AUTOBAUD is set, and RUN after that (R326, R335, R336). -/
def State.startPort (s : State) (p : Fin 2) (tb : BusTables) : State :=
  let objs := tb.objs.map (fun o => { o with prio := List.replicate 16 BVal.null, lastWritten := none })
  let trans := tb.trans.map (fun t =>
    { t with status := Status.NOT_YET, clipw := false, exc := 0, sentVals := none, usable := [], force := true })
  let s := s.setPort p { BusSt.init with
    dev := tb.dev, objs := objs, trans := trans, devs := devsOf trans [], bauds := tb.bauds }
  let s := (List.range objs.length).foldl (fun s i =>
    match (s.port p).objs[i]? with
    | some o =>
      if s.objWritable p i o then
        (let r := s.writeEffective p i o
         r.2.setPort p { r.2.port p with objs := setObj (r.2.port p).objs i r.1 })
      else s
    | none => s) s
  let s := ((s.wrKey (Reg.BUS_LSTAT_LSTATE p.val).key 0)).wr (Reg.BUS_LSTAT_BAUDIN p.val) (s.rd (Reg.BUS_CFG_BAUD p.val))
  let auto := s.rdB (Reg.BUS_CFG_AUTOBAUD p.val)
  match s.rd (Reg.BUS_CFG_PROTO p.val) with
  | 1 => if auto then s.enterDetect p else s.enterMstpRun p (s.rd (Reg.BUS_CFG_BAUD p.val))
  | 2 => s.wr (Reg.BUS_LSTAT_LSTATE p.val) (if auto then lsNegotiate else lsRun)
  | _ => s

/-- The tables that a port's section gave, as the register shadow keeps them (R82). -/
def State.portTables (s : State) (p : Fin 2) : BusTables :=
  let b := s.port p
  { dev := b.dev, objs := b.objs, trans := b.trans, bauds := b.bauds }

/-- The port stops at once: nothing is sent, subscriptions, token and poll position are lost (R328, R336, Table 4-2). -/
def State.stopPort (s : State) (p : Fin 2) : State :=
  let tb := s.portTables p
  (s.setPort p { BusSt.init with dev := tb.dev, objs := tb.objs, trans := tb.trans, bauds := tb.bauds }).wrKey
    (Reg.BUS_LSTAT_LSTATE p.val).key 0

end Sys2Proof.Machine
end

