-- ==== Sys2Proof/Machine/Flash.lean ====
section
/-! DEFINITION. The flash port (R339 to R344): negotiation of a chip, the window's program buffers, programs and erases; and
the peripheral serial port (R345). -/

namespace Sys2Proof.Machine
open Sys2Proof

/-- What an erased or never programmed byte of flash reads as. DESIGN CHOICE for the delivered chip: notes/assumptions/6. -/
def flashBlank (_ : Nat) : Byte := 0xFF#8

def State.flashByte (s : State) (chip : Nat) (a : Nat) : Byte :=
  match s.flash.chips[chip]? with
  | some c => cellsGet flashBlank c.mem a
  | none => 0xFF#8

/-- Density of a chip in bytes: 0 for one that is absent or not yet negotiated. -/
def State.flashSize (s : State) (chip : Nat) : Nat :=
  let st := s.rd (Reg.FLW_CHIP_NSTAT chip)
  if st = Status.OK ∨ st = Status.CHECK_FAIL then 2 ^ (s.rd (Reg.FLW_CHIP_DENS chip) + 16) else 0

/-- The first of the modes 1-4-4, 1-1-4, 1-2-2, 1-1-2, 1-1-1 that the table lists; quad modes only with QE (R340). -/
def pickRead (reads : List FastRead) (quad : Bool) : FastRead :=
  let at' := fun (m : Nat) => reads.find? (fun r => r.mode == m)
  (((((if quad then at' 4 else none).or (if quad then at' 3 else none)).or (at' 2)).or (at' 1)).or (at' 0)).getD .plain

/-- A chip's outcome of the negotiation (R340, Table 16-12). With BOOTSEL = 0b01 the port stays at 1-1-1. -/
def State.negotiateChip (s : State) (i : Nat) (sf : Sfdp) (plain : Bool) : State :=
  let set := fun (st a4 dens page : Nat) (read : FastRead) (erases : List (Nat × Nat)) =>
    (let mask := ((List.range 3).map (fun c => if erases.any (fun e => e.1 == c) then 2 ^ c else 0)).foldl (· + ·) 0
     let s := (((((s.wr (Reg.FLW_CHIP_NSTAT i) st).wr (Reg.FLW_CHIP_MODE i) read.mode).wr (Reg.FLW_CHIP_ADDR4 i) a4).wr
        (Reg.FLW_CHIP_DENS i) dens).wr (Reg.FLW_CHIP_ERMASK i) mask)
     { s with flash := { s.flash with
         chips := vmod s.flash.chips i (fun c => { c with page := page, read := read, erases := erases }) } })
  if sf.capable then
    let read := if plain then (sf.reads.find? (fun r => r.mode == 0)).getD .plain
      else pickRead sf.reads (sf.quadMethod && sf.quadReadsBack)
    let big := Nat.blt 24 sf.dens
    let a4 := big && sf.entry4 != 0
    set Status.OK (if a4 then 1 else 0) ((if big && !a4 then 24 else sf.dens) - 16) (sf.page.getD 256) read sf.erases
  else if i = 0 then set Status.CHECK_FAIL 0 8 256 .plain [(0, 0x20), (2, 0xD8)]
  else set Status.HOLE 0 0 256 .plain []

/-- The extent of the copy used for the last full load: FCS0_N, while COPY reads 0b00 or 0b01 (R344). -/
def State.imageExtent (s : State) : Option (Nat × Nat) :=
  match s.boot.inForce with
  | some (src, h) =>
    if s.rd Reg.BOOT_STAT_COPY < 2 then
      (let base := match src with | .copyB => s.flashSize 0 / 2 | _ => 0
       some (base, base + h.total))
    else none
  | none => none

/-- A program or an erase that would touch the extent (R344). -/
def State.touchesImage (s : State) (chip lo n : Nat) : Bool :=
  chip == 0 && (match s.imageExtent with
    | some (a, b) => Nat.blt lo b && Nat.blt a (lo + n)
    | none => false)

/-- Window program buffers in use: the open one, the waiting ones, the running one. -/
def FlashSt.used (f : FlashSt) : Nat :=
  let n := (f.waiting.filter (fun o => match o with | .program _ _ _ => true | .erase _ _ _ => false)).length
  (if f.openBuf.isSome then 1 else 0) + n + (match f.running with | some (.program _ _ _) => 1 | _ => 0)

/-- WFREE and PROG follow the buffers (Table 16-15). -/
def State.flashSync (s : State) : State :=
  (s.wr Reg.FLW_WSTAT_WFREE (2 - s.flash.used)).wrB Reg.FLW_WSTAT_PROG
    (match s.flash.running with | some (.program _ _ _) => true | _ => false)

/-- An address as the chip takes it: three bytes, or four in 4-byte mode, the most significant first (R340). -/
def State.flashAddr (s : State) (chip a : Nat) : List Byte :=
  (if s.rdB (Reg.FLW_CHIP_ADDR4 chip) then [BitVec.ofNat 8 (a / 2 ^ 24)] else []) ++
    [BitVec.ofNat 8 (a / 2 ^ 16), BitVec.ofNat 8 (a / 2 ^ 8), BitVec.ofNat 8 a]

/-- What starts a program or an erase: write enable, then the instruction with its address, and a program's bytes (R343). -/
def State.flashSends (s : State) : FOp → List (List Byte)
  | .program chip a bytes => [[0x06#8], 0x02#8 :: s.flashAddr chip a ++ bytes]
  | .erase chip a n =>
    let code := if n = 4096 then 0 else if n = 32768 then 1 else 2
    let instr := match s.flash.chips[chip]? with
      | some c => (match c.erases.find? (fun e => e.1 == code) with | some e => e.2 | none => 0)
      | none => 0
    [[0x06#8], BitVec.ofNat 8 instr :: s.flashAddr chip a]

/-- The next program or erase starts when none runs and no window fetch waits for the bus, in the order of their arrival
(R341). -/
def State.flashStart (s : State) : State :=
  match s.flash.running, s.flash.waiting with
  | none, o :: os =>
    if s.hsp.wins[2].fetch.isEmpty then
      { s with flash := { s.flash with running := some o, waiting := os, wip := true, sent := s.flashSends o } }
    else s
  | _, _ => s

/-- A chip that is programming or erasing: a read of it waits (R341). -/
def State.chipBusy (s : State) (chip : Nat) : Bool :=
  match s.flash.running with
  | some (.program c _ _) | some (.erase c _ _) => c == chip
  | none => false

/-- The open buffer closes: it is programmed in its turn, or refused if it would touch the image (R343, R344). -/
def State.flashClose (s : State) : State :=
  match s.flash.openBuf with
  | none => s
  | some (chip, a, bytes) =>
    let s := { s with flash := { s.flash with openBuf := none } }
    if s.touchesImage chip a bytes.length then s.wr Reg.FLW_WSTAT_WRES Status.REFUSED
    else ({ s with flash := { s.flash with waiting := s.flash.waiting ++ [FOp.program chip a bytes] } }).flashStart

def fpFlash : Footprint :=
  { regs := [Blk.range .flw, (0x2004, 0x2005), (0x2006, 0x2007)], parts := [.flash, .hsp, .freeCtr] }

/-- The window's write outcome as the HSP shows it (Table 16-24). -/
def State.winResult (s : State) (st : Nat) : State := s.wr Reg.HSP_WSTAT_WRES st

/-- A write through a window to its memory empties the window's two buffers (R351). -/
def State.winEmpty (s : State) (w : Nat) : State :=
  { s with hsp := { s.hsp with wins := vmod s.hsp.wins w (fun x => { x with a := none, b := none }) } }

/-- A word of the flash window: two bytes at window offset `a` (R342, R343). -/
def State.flashWindowWrite (s : State) (a : Nat) (v : Word) : State :=
  let chip := s.rd Reg.FLW_WIN_CS
  let addr := s.rd Reg.FLW_WIN_BASE * 16777216 + a
  if s.therm.tripped then s.winResult Status.DOWN
  else if !s.rdB Reg.FLW_WIN_WEN then s.winResult Status.ILLEGAL_STATE
  else if s.flashSize chip ≤ addr + 1 then s.winResult Status.REFUSED
  else
    let two : List Byte := [BitVec.ofNat 8 v.toNat, BitVec.ofNat 8 (v.toNat / 256)]
    let page := match s.flash.chips[chip]? with | some c => c.page | none => 256
    let cont : Bool := match s.flash.openBuf with
      | some (c, b, bytes) => c == chip && b + bytes.length == addr && b / page == addr / page && Nat.blt bytes.length 256
      | none => false
    let s := if cont then s else s.flashClose
    if !cont && Nat.ble 2 s.flash.used then
      (((s.bump Reg.FLW_WDISC).wr Reg.FLW_WSTAT_WRES Status.OVERRUN).winResult Status.OK).flashSync
    else
      let buf := match s.flash.openBuf with
        | some (c, b, bytes) => (c, b, bytes ++ two)
        | none => (chip, addr, two)
      let s := { s with flash := { s.flash with openBuf := some buf } }
      let full := (addr + 2) % page == 0 || buf.2.2.length == 256
      ((if full then s.flashClose else s).flashSync.winEmpty 2).winResult Status.OK

/-- FLASH_WINDOW_WRITE (R343). -/
def execFlashWindowWrite (a : Nat) (v : Word) (s : State) : Host.Outcome State Fault Refusal :=
  done fpFlash s (s.flashWindowWrite a v)

/-- FLASH_STATUS_POLL: the status of the running program or erase is read every 20 µs (R341, R343). -/
def execFlashStatusPoll (wip : Bool) (s : State) : Host.Outcome State Fault Refusal :=
  done fpFlash s (if s.flash.running.isSome then { s with flash := { s.flash with wip := wip } } else s)

/-- A chip's bytes changed from `a` on. -/
def State.flashStore (s : State) (chip a : Nat) (bytes : List Byte) : State :=
  { s with flash := { s.flash with
      chips := vmod s.flash.chips chip (fun c => { c with mem := cellsPutAll flashBlank c.mem a bytes }) } }

/-- Programming clears bits: a byte becomes its old value AND the byte sent (PRESUMED, notes/assumptions/74). -/
def State.flashProgrammed (s : State) (chip a : Nat) (bytes : List Byte) : List Byte :=
  (List.range bytes.length).map (fun i => s.flashByte chip (a + i) &&& bytes.getD i 0)

/-- Bytes that an operation cut short left behind are open (notes/assumptions/1). -/
def State.flashScramble (s : State) (chip a n : Nat) : State :=
  let k := s.freeCtr
  { s.flashStore chip a ((List.range n).map (Config.freeByte k)) with freeCtr := k + 1 }

/-- The running operation is over; the next one starts. -/
def State.flashNext (s : State) : State :=
  ({ s with flash := { s.flash with running := none } }).flashStart.flashSync

/-- FLASH_PROGRAM_DONE: WIP has cleared, or has not within 5 ms; with VERIFY set the bytes are read back (R343). -/
def execFlashProgramDone (timeout mismatch : Bool) (s : State) : Host.Outcome State Fault Refusal :=
  done fpFlash s
    (match s.flash.running with
     | some (.program chip a bytes) =>
       if timeout then
         ((s.flashScramble chip a bytes.length).wr Reg.FLW_WSTAT_WRES Status.TIMEOUT).flashNext.irq 4
       else if s.flash.wip then s
       else
         let new := s.flashProgrammed chip a bytes
         let bad := s.rdB Reg.FLW_WIN_VERIFY && (mismatch || !decide (new = bytes))
         let s := s.flashStore chip a new
         let s := if bad then (s.bump Reg.FLW_VFAIL).wr Reg.FLW_WSTAT_WRES Status.CHECK_FAIL
           else s.wr Reg.FLW_WSTAT_WRES Status.OK
         s.flashNext.irq 4
     | _ => s)

/-- FLASH_BUFFER_TIMEOUT: 50 µs after the last write a buffer closes, that of the flash window here; the tally window
coalesces in the same way (R357) and has its own buffer (`execFlashBufferTimeout` in Tally). -/
def State.flashBufferTimeout (s : State) : State := s.flashClose.flashSync

/-- FLASH_FLUSH: FLUSH closes the open buffer (R343, Table 16-16). -/
def execFlashFlush (s : State) : Host.Outcome State Fault Refusal :=
  let st := s.gate .flw false
  done fpFlash s (if st ≠ Status.OK then s.result .flw 5 st else s.flashClose.flashSync.result .flw 5 Status.OK)

/-- Size of an erase by its SIZE code. -/
def eraseSize (c : Nat) : Nat := match c with | 0 => 4096 | 1 => 32768 | _ => 65536

/-- FLASH_ERASE (R344). While ESTAT reads BUSY it keeps doing so and RESULT alone records ILLEGAL_STATE (DEDUCED,
notes/assumptions/75). -/
def execFlashErase (s : State) : Host.Outcome State Fault Refusal :=
  let chip := s.rd Reg.FLW_ECMD_CS
  let code := s.rd Reg.FLW_ECMD_SIZE
  let addr := s.rdPair Reg.FLW_EADDR0 Reg.FLW_EADDR1
  let n := eraseSize code
  let busy := s.rd Reg.FLW_ESTAT == Status.BUSY
  let st := s.gate .flw true
  let st := if st ≠ Status.OK then st
    else if busy then Status.ILLEGAL_STATE
    else if code = 3 ∨ s.flashSize chip ≤ addr ∨ addr % n ≠ 0 ∨ bitsOf (s.rd (Reg.FLW_CHIP_ERMASK chip)) code code = 0
      then Status.BAD_ARG
    else if s.touchesImage chip addr n then Status.REFUSED
    else Status.OK
  done fpFlash s
    (if st = Status.OK then
      let s := { s with flash := { s.flash with waiting := s.flash.waiting ++ [FOp.erase chip addr n] } }
      ((s.flashStart.flashSync.wr Reg.FLW_ESTAT Status.BUSY).result .flw 5 Status.OK)
    else (if busy then s else s.wr Reg.FLW_ESTAT st).result .flw 5 st)

/-- FLASH_ERASE_DONE: the erase completes (R344). -/
def execFlashEraseDone (s : State) : Host.Outcome State Fault Refusal :=
  done fpFlash s
    (match s.flash.running with
     | some (.erase chip a n) =>
       if s.flash.wip then s
       else
         let s := { s with flash := { s.flash with
           chips := vmod s.flash.chips chip (fun c =>
             { c with mem := c.mem.filter (fun x => Nat.blt x.1 a || Nat.ble (a + n) x.1) }) } }
         ((s.wr Reg.FLW_ESTAT Status.OK).flashNext).irq 4
     | _ => s)

/-- FLASH_ERASE_TIMEOUT: not complete after 10 s (R344); what the block then holds is open. -/
def execFlashEraseTimeout (s : State) : Host.Outcome State Fault Refusal :=
  done fpFlash s
    (match s.flash.running with
     | some (.erase chip a n) => (((s.flashScramble chip a n).wr Reg.FLW_ESTAT Status.TIMEOUT).flashNext).irq 4
     | _ => s)

/-! ### Peripheral serial port (R345) -/

def fpPsp : Footprint := { regs := [Blk.range .psp, (0x2006, 0x2007)], parts := [.psp] }

/-- The class of a transaction: setting changes first, then other head transactions, then host and console ones. -/
def PspReq.cls : PspReq → Nat
  | .setting _ => 0
  | .head _ => 1
  | .host _ _ => 2

/-- The first waiting transaction of the lowest class, and the others. -/
def pspPick : List PspReq → Option (PspReq × List PspReq)
  | [] => none
  | r :: rs =>
    match pspPick rs with
    | none => some (r, [])
    | some (q, others) => if q.cls < r.cls then some (q, r :: others) else some (r, rs)

/-- A waiting transaction starts when none runs. -/
def State.pspStart (s : State) : State :=
  match s.psp.running with
  | some _ => s
  | none =>
    match pspPick s.psp.waiting with
    | some (r, rs) =>
      let out := match r with | .host _ bytes => bytes | _ => s.psp.out
      { s with psp := { running := some r, waiting := rs, out := out } }
    | none => s

/-- A transaction joins the port's queue. -/
def State.pspRequest (s : State) (r : PspReq) : State :=
  ({ s with psp := { s.psp with waiting := s.psp.waiting ++ [r] } }).pspStart

/-- The bytes of PSP_TXD, byte 0 first. -/
def State.pspTx (s : State) (n : Nat) : List Byte :=
  (List.range n).map (fun i =>
    BitVec.ofNat 8 (if i % 2 = 0 then s.rd (Reg.PSP_TXD_BYTE0 (i / 2)) else s.rd (Reg.PSP_TXD_BYTE1 (i / 2))))

/-- PSP_START: a START command (R345, Table 16-21). While a host transaction is queued or running it is answered BUSY. -/
def execPspStart (s : State) : Host.Outcome State Fault Refusal :=
  let sel := s.rd Reg.PSP_HSEL_SEL
  let len := s.rd Reg.PSP_HSEL_LEN
  let st := s.gate .psp true
  let st := if st ≠ Status.OK then st
    else if s.rd Reg.PSP_HCMD_CSTAT = Status.BUSY then Status.BUSY
    else if 5 < sel ∨ len = 0 ∨ 64 < len then Status.BAD_ARG
    else if s.headOwns sel then Status.REFUSED
    else Status.OK
  done fpPsp s
    (if st = Status.OK then
      (((s.pspRequest (.host sel (s.pspTx len))).wr Reg.PSP_HCMD_CSTAT Status.BUSY).result .psp 0x11 Status.OK)
    else s.answer .psp 0x11 (some Reg.PSP_HCMD_CSTAT) st)

/-- Received bytes go to PSP_RXD, byte 0 first. -/
def State.pspRx (s : State) (n : Nat) (rx : List Byte) : State :=
  (List.range n).foldl (fun s i =>
    let b := (rx.getD i 0).toNat
    if i % 2 = 0 then s.wr (Reg.PSP_RXD_BYTE0 (i / 2)) b else s.wr (Reg.PSP_RXD_BYTE1 (i / 2)) b) s

/-- PSP_TRANSACTION_DONE: the running transaction ends and the next waiting one is served (R345). -/
def execPspTransactionDone (rx : List Byte) (s : State) : Host.Outcome State Fault Refusal :=
  done fpPsp s
    (match s.psp.running with
     | none => s
     | some r =>
       let s := { s with psp := { s.psp with running := none } }
       (match r with
        | .host _ bytes =>
          (((s.pspRx bytes.length rx).wr Reg.PSP_HCMD_CSTAT Status.OK).irq 5)
        | _ => s).pspStart)

end Sys2Proof.Machine
end

