-- ==== Sys2Proof/Machine/Tally.lean ====
section
/-! DEFINITION. The tally store (R354 to R358): pages and their pulses, rings, the event log, counters, two-copy records and
the tally window. -/

namespace Sys2Proof.Machine
open Sys2Proof

/-- The store leaves the factory with every byte 0xFF (R354). -/
def tallyBlank (_ : Nat) : Byte := 0xFF#8

def State.tallyByte (s : State) (a : Nat) : Byte := cellsGet tallyBlank s.tally.mem a

/-- A page's bytes changed by a pulse. -/
def pulseApply (m : List (Nat × Byte)) (p : Pulse) : List (Nat × Byte) :=
  p.bytes.foldl (fun m b => cellsPut tallyBlank m (256 * p.page + b.1) b.2) m

/-- The store as it will be once every pulse under way and waiting has been made. -/
def State.tallyView (s : State) : List (Nat × Byte) :=
  let m := match s.tally.running with | some p => pulseApply s.tally.mem p | none => s.tally.mem
  s.tally.waiting.foldl pulseApply m

/-- `n` bytes of a view from an address. -/
def viewBytes (m : List (Nat × Byte)) (a n : Nat) : List Byte := cellsRead tallyBlank m a n

/-- Bytes with their offsets in a page. -/
def atOffset (o : Nat) (bs : List Byte) : List (Nat × Byte) :=
  (List.range bs.length).map (fun i => (o + i, bs.getD i 0))

/-- a is later than b in w-bit serial-number arithmetic (R109, R119). -/
def serialLater (w a b : Nat) : Bool :=
  let d := (a + 2 ^ w - b % 2 ^ w) % 2 ^ w
  Nat.blt 0 d && Nat.blt d (2 ^ (w - 1))

/-! ### Rings (R355) -/

/-- An entry of a ring: its SEQ when its first byte and its check are right. -/
def ringEntry (m : List (Nat × Byte)) (a n magic : Nat) : Option Nat :=
  if (cellsGet tallyBlank m a).toNat ≠ magic then none
  else
    let bs := viewBytes m a n
    if (crc32 (bs.take (n - 4))).toNat = leNat (bs.drop (n - 4)) then some (leNat (slice bs 2 2)) else none

/-- Position and SEQ of the entry with the highest SEQ. -/
def ringNewest (m : List (Nat × Byte)) (addr : Nat → Nat) (n magic : Nat) : List Nat → Option (Nat × Nat) →
    Option (Nat × Nat)
  | [], best => best
  | i :: is, best =>
    let best := match ringEntry m (addr i) n magic, best with
      | some q, none => some (i, q)
      | some q, some (j, r) => if serialLater 16 q r then some (i, q) else some (j, r)
      | none, b => b
    ringNewest m addr n magic is best

/-- Where the next entry of a ring goes, and its SEQ: after the entry with the highest SEQ, or first with SEQ 0. -/
def ringNext (m : List (Nat × Byte)) (addr : Nat → Nat) (count n magic : Nat) : Nat × Nat :=
  match ringNewest m addr n magic (List.range count) none with
  | some (i, q) => ((i + 1) % count, (q + 1) % 65536)
  | none => (0, 0)

/-- A record with its CHECK: CRC-32 over the bytes before it (R355). -/
def withCheck (bs : List Byte) : List Byte := bs ++ leBytes 4 (crc32 bs).toNat

/-! ### Pulses (R354) -/

/-- TALLY_STAT shows a running pulse. -/
def State.tallySync (s : State) : State := s.wrB Reg.TALLY_STAT_BUSY s.tally.running.isSome

/-- Rank of a pulse in the order of R354. -/
def PulseKind.rank : PulseKind → Nat
  | .shutdown => 0 | .counter => 1 | .event => 2 | .host => 3 | .record => 3 | .aux => 4

/-- The first waiting pulse of the lowest rank, and the others. -/
def pulsePick : List Pulse → Option (Pulse × List Pulse)
  | [] => none
  | p :: ps =>
    match pulsePick ps with
    | none => some (p, [])
    | some (q, others) => if q.kind.rank < p.kind.rank then some (q, p :: others) else some (p, ps)

/-- The 32-byte record of an event, with its SEQ (Table 16-10). -/
def eventBytes (seq : Nat) (e : Nat × BitVec 36 × BitVec 32 × List Byte) : List Byte :=
  withCheck ([0xE1#8, BitVec.ofNat 8 e.1] ++ leBytes 2 seq ++ leBytes 5 e.2.1.toNat ++ leBytes 4 e.2.2.1.toNat ++
    slice e.2.2.2 0 15)

/-- Address of event record i (Table 16-6). -/
def eventAddr (i : Nat) : Nat := 400 * 256 + 32 * i

/-- The pulse of the oldest waiting event. -/
def State.eventPulse (s : State) : Option (Pulse × List (Nat × BitVec 36 × BitVec 32 × List Byte)) :=
  match s.tally.events with
  | [] => none
  | e :: es =>
    let r := ringNext s.tally.mem eventAddr 4096 32 0xE1
    let a := eventAddr r.1
    some ({ kind := .event, page := a / 256, bytes := atOffset (a % 256) (eventBytes r.2 e) }, es)

/-- The protected range is closed to host writes while NVWP_N is low (R357). -/
def State.pageLocked (s : State) (page : Nat) : Bool :=
  Nat.ble (s.rd Reg.TALLY_PROTLO) page && Nat.ble page (s.rd Reg.TALLY_PROTHI) && !s.balls.nvwp

/-- A host or record page that NVWP_N closes as its pulse would start (R357). -/
def State.pulseLocked (s : State) (p : Pulse) : Bool :=
  (decide (p.kind = .host) || decide (p.kind = .record)) && s.pageLocked p.page

/-- A record command ends with a status. -/
def State.recDone (s : State) (st : Nat) : State :=
  match s.tally.rcmd with
  | some c =>
    let s := { s with tally := { s.tally with
      rcmd := none, begun := if c.commit && st == Status.OK then none else s.tally.begun } }
    (s.wr Reg.TALLY_RCMD_RSTAT st).irq 6
  | none => s

/-- A COMMIT under way meets a payload page that NVWP_N closes: it ends LOCKED without its header (R357). -/
def State.commitLocked (s : State) : State :=
  match s.tally.rcmd with
  | some c =>
    if c.commit then
      ({ s with tally := { s.tally with waiting := s.tally.waiting.filter (fun p => !decide (p.kind = PulseKind.record)) } }).recDone
        Status.LOCKED
    else s
  | none => s

/-- The next pulse starts when none runs, by the order of R354; pages that NVWP_N closes are skipped. -/
def State.pulseStart : Nat → State → State
  | 0, s => s.tallySync
  | fuel + 1, s =>
    match s.tally.running with
    | some _ => s.tallySync
    | none =>
      let pick := pulsePick s.tally.waiting
      let ev := s.eventPulse
      let useEvent : Bool := match pick, ev with
        | some (p, _), some _ => Nat.blt 2 p.kind.rank
        | none, some _ => true
        | _, none => false
      match useEvent, pick, ev with
      | true, _, some (p, es) =>
        ({ s with tally := { s.tally with running := some p, events := es } }).tallySync
      | _, some (p, ps), _ =>
        let s := { s with tally := { s.tally with waiting := ps } }
        if s.pulseLocked p then
          let s := (s.wr Reg.TALLY_STAT_LAST Status.LOCKED).bump Reg.TALLY_LOCKCNT
          State.pulseStart fuel (if p.kind = .record then s.recDone Status.LOCKED else s.commitLocked)
        else ({ s with tally := { s.tally with running := some p } }).tallySync
      | _, _, _ => s.tallySync

/-- The store takes up work whenever it is free. -/
def State.tallyRun (s : State) : State := State.pulseStart (s.tally.waiting.length + 2) s

/-- An event joins the 64-entry queue, or is lost and counted (R355, Table 16-10). The store takes none while its domain is
OFF, and none once the trip sequence has begun (R82, R108). -/
def State.logEvent (s : State) (code : Nat) (data : List Nat) : State :=
  if s.therm.tripped || decide ((s.power.doms[2]).st ≠ .on) then s
  else if s.tally.events.length < 64 then
    ({ s with tally := { s.tally with
        events := s.tally.events ++ [(code, s.tick.frame, s.rtc.sec, data.map (BitVec.ofNat 8))] } }).tallyRun
  else (s.bump Reg.TALLY_EVOVF).wr Reg.TALLY_STAT_LAST Status.OVERRUN

/-- A pulse joins the waiting ones. -/
def State.pulse (s : State) (p : Pulse) : State :=
  ({ s with tally := { s.tally with waiting := s.tally.waiting ++ [p] } }).tallyRun

/-- A whole page written by the device itself; once the trip sequence has begun it is abandoned (R108). -/
def State.pulsePage (s : State) (kind : PulseKind) (page : Nat) (bytes : List Byte) : State :=
  if s.therm.tripped then s else s.pulse { kind := kind, page := page, bytes := atOffset 0 bytes }

def fpTally : Footprint :=
  { regs := [Blk.range .tally, (0x2004, 0x2005), (0x2006, 0x2007)], parts := [.tally, .hsp] }

/-- TALLY_PULSE_DONE: the running pulse ends, what it changed stands, and the next one starts (R354). -/
def execTallyPulseDone (s : State) : Host.Outcome State Fault Refusal :=
  done fpTally s
    (match s.tally.running with
     | none => s
     | some p =>
       let s := { s with tally := { s.tally with running := none, mem := pulseApply s.tally.mem p } }
       let s := s.wr Reg.TALLY_STAT_LAST Status.OK
       (if p.kind = .record then s.recDone Status.OK else s).tallyRun)

/-! ### Counters (R358) -/

/-- Sum of the nine nibbles of a 36-bit value. -/
def nibbleSum : Nat → Nat → Nat
  | 0, _ => 0
  | n + 1, v => v % 16 + nibbleSum n (v / 16)

/-- The check of a cell: 15 − ((sum of the nibbles + 5) modulo 16). -/
def cellCheck (v : Nat) : Nat := 15 - (nibbleSum 9 v + 5) % 16

def cellAddr (c j : Nat) : Nat := 256 * (32 + 16 * (c / 32) + j) + 8 * (c % 32)

/-- A cell's value when its check passes. -/
def cellValue (m : List (Nat × Byte)) (c j : Nat) : Option Nat :=
  let w := leNat (viewBytes m (cellAddr c j) 5)
  let v := w % 2 ^ 36
  if w / 2 ^ 36 = cellCheck v then some v else none

/-- The highest valid cell: index and value. -/
def cellNewest (m : List (Nat × Byte)) (c : Nat) : List Nat → Option (Nat × Nat) → Option (Nat × Nat)
  | [], best => best
  | j :: js, best =>
    cellNewest m c js (match cellValue m c j, best with
      | some v, none => some (j, v)
      | some v, some (i, w) => if w < v then some (j, v) else some (i, w)
      | none, b => b)

/-- A counter's value: the highest among the cells whose check passes, or 0. -/
def counterValue (m : List (Nat × Byte)) (c : Nat) : Nat :=
  match cellNewest m c (List.range 16) none with
  | some (_, v) => v
  | none => 0

/-- Cells that hold something and fail their check. -/
def tornCells (m : List (Nat × Byte)) : Nat :=
  ((List.range 64).map (fun c => ((List.range 16).filter (fun j =>
    (cellValue m c j).isNone && (viewBytes m (cellAddr c j) 8).any (fun b => !decide (b = 0xFF#8)))).length)).foldl
    (· + ·) 0

/-- The cell of a value: 36 bits, their check, three bytes 0xFF. -/
def cellBytes (v : Nat) : List Byte := leBytes 5 (v + cellCheck v * 2 ^ 36) ++ List.replicate 3 0xFF#8

/-- A counter counted up by n as one write, into the cell after the one that holds its value; before the scan has ended
the increment is held (R358). -/
def State.countNow (s : State) (c n : Nat) : State :=
  if !s.tally.scanned then
    { s with tally := { s.tally with held := s.tally.held ++ [(c, n)] } }
  else
    let m := s.tallyView
    let v := min (counterValue m c + n) (2 ^ 36 - 1)
    let j := match cellNewest m c (List.range 16) none with | some (i, _) => (i + 1) % 16 | none => 0
    let a := cellAddr c j
    let s := { s with tally := { s.tally with counters := vmod s.tally.counters c (fun _ => v) } }
    s.pulse { kind := .counter, page := a / 256, bytes := atOffset (a % 256) (cellBytes v) }

/-- A counter counted up; once the trip sequence has begun no new write is taken (R108). -/
def State.countInc (s : State) (c n : Nat) : State := if s.therm.tripped then s else s.countNow c n

/-- Batched counts are committed, each as one write of the value + n. -/
def State.commitBatch (s : State) : State :=
  let b := s.tally.batch
  let s := { s with tally := { s.tally with batch := Vector.replicate 64 0 } }
  (List.range 64).foldl (fun s c =>
    match b[c]? with
    | some (n + 1) => s.countNow c (n + 1)
    | _ => s) s

/-- TALLY_HOURLY: counter 0 counts an hour with PGOOD high, and batched counts are committed (R358, Table 16-11). -/
def execTallyHourly (s : State) : Host.Outcome State Fault Refusal :=
  done fpTally s (if s.therm.tripped then s else (s.countNow 0 1).commitBatch)

/-- COUNTER_SCAN_DONE: values are mirrored and held increments applied (R358). -/
def execCounterScanDone (s : State) : Host.Outcome State Fault Refusal :=
  done fpTally s
    (if s.tally.scanned then s
     else
      let held := s.tally.held
      let m := s.tally.mem
      let torn := tornCells m
      let s := s.wr Reg.TALLY_TORN (min (s.rd Reg.TALLY_TORN + torn) 0x3FFFF)
      let s := { s with tally := { s.tally with
        scanned := true, held := [], counters := Vector.ofFn (fun c : Fin 64 => counterValue m c.val) } }
      held.foldl (fun s h => s.countInc h.1 h.2) s)

/-- TALLY_INC: INC of a host counter, 24 to 63 (R358, Table 16-34). -/
def execTallyInc (s : State) : Host.Outcome State Fault Refusal :=
  let c := s.rd Reg.TALLY_CSEL
  let st := s.gate .tally true
  let st := if st ≠ Status.OK then st else if c < 24 then Status.BAD_ARG else Status.OK
  let t := if st = Status.OK then (s.countInc c 1).irq 6 else s
  done fpTally s (t.answer .tally 0x13 (some Reg.TALLY_CCMD_CSTAT) st)

/-! ### Two-copy records (R356) -/

/-- A header page: SEQ and LEN when bytes 0 and 1, CHECK, LEN and the payload's CRC are right. -/
def recHeader (m : List (Nat × Byte)) (id base npg : Nat) : Option (Nat × Nat) :=
  let h := viewBytes m (256 * base) 16
  let seq := leNat (slice h 2 3) % 2 ^ 18
  let len := leNat (slice h 5 2)
  if slice h 0 2 = [0xC2#8, BitVec.ofNat 8 id] ∧ (crc32 (h.take 12)).toNat = leNat (h.drop 12) ∧ len ≤ 256 * npg then
    (let pay := viewBytes m (256 * (base + 1)) len
     if (crc32 pay).toNat = leNat (slice h 8 4) then some (seq, len) else none)
  else none

/-- A header page that has never been written. -/
def recBlank (m : List (Nat × Byte)) (base : Nat) : Bool :=
  (viewBytes m (256 * base) 16).all (fun b => decide (b = 0xFF#8))

/-- The choice between the copies of a record: status, copy B, SEQ, LEN; R119's order, SEQ modulo 2^18. -/
structure RecPick where
  status : Nat
  copyB : Bool
  seq : Nat
  len : Nat
  deriving DecidableEq, Repr

def recPick (m : List (Nat × Byte)) (id baseA baseB npg : Nat) : RecPick :=
  match recHeader m id baseA npg, recHeader m id baseB npg with
  | some (qa, la), some (qb, lb) =>
    if qa = qb then ⟨Status.EQUAL_SEQ, false, qa, la⟩
    else if serialLater 18 qb qa then ⟨Status.OK, true, qb, lb⟩
    else ⟨Status.OK, false, qa, la⟩
  | some (qa, la), none => ⟨Status.OK, false, qa, la⟩
  | none, some (qb, lb) => ⟨Status.OK, true, qb, lb⟩
  | none, none =>
    if recBlank m baseA && recBlank m baseB then ⟨Status.NOT_YET, false, 0, 0⟩ else ⟨Status.CHECK_FAIL, false, 0, 0⟩

/-- Judgement that the record commands share: unlocked, no other one running, a defined ID (R356). -/
def State.recGate (s : State) (id : Nat) : Nat :=
  let st := s.gate .tally true
  if st ≠ Status.OK then st
  else if s.tally.rcmd.isSome then Status.BUSY
  else if s.rd (Reg.TALLY_RDEF0_NPG id) = 0 then Status.HOLE
  else Status.OK

/-- The number of a record's copies that hold something and are not valid. -/
def tornCopies (m : List (Nat × Byte)) (id baseA baseB npg : Nat) : Nat :=
  (if (recHeader m id baseA npg).isNone && !recBlank m baseA then 1 else 0) +
  (if (recHeader m id baseB npg).isNone && !recBlank m baseB then 1 else 0)

/-- TALLY_SELECT (R356). -/
def execTallySelect (s : State) : Host.Outcome State Fault Refusal :=
  let id := s.rd Reg.TALLY_RSEL
  let a := s.rd (Reg.TALLY_RDEF0_BASE id)
  let b := s.rd (Reg.TALLY_RDEF1 id)
  let npg := s.rd (Reg.TALLY_RDEF0_NPG id)
  let st := s.recGate id
  let t :=
    if st ≠ Status.OK then (s.wr Reg.TALLY_RCMD_RSTAT st).result .tally 5 st
    else
      let m := s.tally.mem
      let r := recPick m id a b npg
      let s := s.wr Reg.TALLY_TORN (min (s.rd Reg.TALLY_TORN + tornCopies m id a b npg) 0x3FFFF)
      let s := if r.status = Status.EQUAL_SEQ then s.logEvent 2 ([1, id] ++ le3 r.seq) else s
      let s := ((((s.wrB Reg.TALLY_RCMD_RCOPY r.copyB).wr Reg.TALLY_RSEQ r.seq).wr Reg.TALLY_RLEN r.len).wr
        Reg.TALLY_RBASE ((if r.copyB then b else a) + 1))
      ((s.wr Reg.TALLY_RCMD_RSTAT r.status).result .tally 5 Status.OK).irq 6
  done fpTally s t

/-- TALLY_BEGIN: the target copy's header byte 0 is programmed to 0x00, and RBASE names its payload (R356). -/
def execTallyBegin (s : State) : Host.Outcome State Fault Refusal :=
  let id := s.rd Reg.TALLY_RSEL
  let a := s.rd (Reg.TALLY_RDEF0_BASE id)
  let b := s.rd (Reg.TALLY_RDEF1 id)
  let st := s.recGate id
  let t :=
    if st ≠ Status.OK then (s.wr Reg.TALLY_RCMD_RSTAT st).result .tally 5 st
    else
      let r := recPick s.tallyView id a b (s.rd (Reg.TALLY_RDEF0_NPG id))
      -- the older copy, or B when the sequence numbers are equal; the first write of a record goes to A
      let toB := if r.status = Status.NOT_YET ∨ r.status = Status.CHECK_FAIL then false else !r.copyB
      let base := if toB then b else a
      let s := { s with tally := { s.tally with begun := some (id, toB), rcmd := some { id := id, commit := false } } }
      let s := (s.wr Reg.TALLY_RBASE (base + 1)).wr Reg.TALLY_RCMD_RSTAT Status.BUSY
      (s.pulse { kind := .record, page := base, bytes := [(0, 0x00#8)] }).result .tally 5 Status.OK
  done fpTally s t

/-- The open coalescing buffer of the tally window closes and waits for its pulse (R357). -/
def State.tallyClose (s : State) : State :=
  match s.tally.openBuf with
  | none => s
  | some (page, o, bytes) =>
    ({ s with tally := { s.tally with openBuf := none } }).pulse
      { kind := .host, page := page, bytes := atOffset o bytes }

/-- TALLY_COMMIT: the payload's CRC is taken from the store and the header programmed with the newer SEQ + 1 (R356). -/
def execTallyCommit (s : State) : Host.Outcome State Fault Refusal :=
  let id := s.rd Reg.TALLY_RSEL
  let a := s.rd (Reg.TALLY_RDEF0_BASE id)
  let b := s.rd (Reg.TALLY_RDEF1 id)
  let npg := s.rd (Reg.TALLY_RDEF0_NPG id)
  let len := s.rd Reg.TALLY_RLEN
  let st := s.recGate id
  let st := if st ≠ Status.OK then st
    else match s.tally.begun with
      | some (i, _) =>
        if i ≠ id then Status.ILLEGAL_STATE else if 256 * npg < len then Status.BAD_ARG else Status.OK
      | none => Status.ILLEGAL_STATE
  let t :=
    if st ≠ Status.OK then (s.wr Reg.TALLY_RCMD_RSTAT st).result .tally 5 st
    else
      let toB := match s.tally.begun with | some (_, x) => x | none => false
      let s := s.tallyClose
      let m := s.tallyView
      let base := if toB then b else a
      let seq := ((recPick m id a b npg).seq + 1) % 2 ^ 18
      let h := [0xC2#8, BitVec.ofNat 8 id] ++ leBytes 3 seq ++ leBytes 2 len ++ [0xFF#8] ++
        leBytes 4 (crc32 (viewBytes m (256 * (base + 1)) len)).toNat
      let s := { s with tally := { s.tally with rcmd := some { id := id, commit := true } } }
      let s := s.wr Reg.TALLY_RCMD_RSTAT Status.BUSY
      (s.pulse { kind := .record, page := base, bytes := atOffset 0 (withCheck h) }).result .tally 5 Status.OK
  done fpTally s t

/-! ### The tally window (R357) -/

/-- Host buffers in use: the open one and those waiting or running. -/
def TallySt.used (t : TallySt) : Nat :=
  (if t.openBuf.isSome then 1 else 0) + (t.waiting.filter (fun p => decide (p.kind = .host))).length +
  (match t.running with | some p => if p.kind = .host then 1 else 0 | none => 0)

/-- A word written through the tally window: two bytes at store address `a`. -/
def State.tallyWindowWrite (s : State) (a : Nat) (v : Word) : State :=
  let page := a / 256
  if s.therm.tripped then s.winResult Status.DOWN
  else if page < 1024 ∨ 2047 < page then (s.wr Reg.TALLY_STAT_LAST Status.REFUSED).winResult Status.REFUSED
  else if s.pageLocked page then
    ((s.wr Reg.TALLY_STAT_LAST Status.LOCKED).bump Reg.TALLY_LOCKCNT).winResult Status.LOCKED
  else
    let two : List Byte := [BitVec.ofNat 8 v.toNat, BitVec.ofNat 8 (v.toNat / 256)]
    let cont : Bool := match s.tally.openBuf with
      | some (pg, o, bytes) => pg == page && o + bytes.length == a % 256
      | none => false
    let s := if cont then s else s.tallyClose
    if !cont && Nat.ble 2 s.tally.used then (s.wr Reg.TALLY_STAT_LAST Status.OVERRUN).winResult Status.OK
    else
      let buf := match s.tally.openBuf with
        | some (pg, o, bytes) => (pg, o, bytes ++ two)
        | none => (page, a % 256, two)
      let s := { s with tally := { s.tally with openBuf := some buf } }
      ((if (a + 2) % 256 = 0 then s.tallyClose else s).winEmpty 3).winResult Status.OK

/-- TALLY_WINDOW_WRITE (R357). -/
def execTallyWindowWrite (a : Nat) (v : Word) (s : State) : Host.Outcome State Fault Refusal :=
  done fpTally s (s.tallyWindowWrite a v)

/-- FLASH_BUFFER_TIMEOUT: 50 µs after its last write a program buffer closes (R343); the tally window coalesces in the same
way (R357), and `tally` says whose buffer it is (DEDUCED, notes/assumptions/76). -/
def execFlashBufferTimeout (tally : Bool) (s : State) : Host.Outcome State Fault Refusal :=
  done { regs := fpFlash.regs ++ fpTally.regs, parts := [.flash, .tally] } s
    (if tally then s.tallyClose else s.flashBufferTimeout)

end Sys2Proof.Machine
end

