-- ==== Sys2Proof/Machine/Fans.lean ====
section
/-! DEFINITION. Fan and pump channels (R292 to R304): command, speed loop, current limit, starts, faults, cooling groups, and
the window comparators of the small configurations (R305, R306). -/

namespace Sys2Proof.Machine
open Sys2Proof

def fpFan : Footprint :=
  { regs := Blk.range .fan :: fpEvents, parts := [.act, .points, .tally, .balls, .freeCtr] }

def State.fan (s : State) (c : Nat) : FanSt := if h : c < 3 then s.act.fans[c] else s.act.fans[0]

def State.setFan (s : State) (c : Nat) (f : FanSt → FanSt) : State :=
  { s with act := { s.act with fans := vmod s.act.fans c f } }

def State.fstate (s : State) (c : Nat) : Nat := s.rd (Reg.FAN_STAT_FSTATE c)

namespace FState
abbrev STOPPED : Nat := 0
abbrev CATCH : Nat := 1
abbrev STARTING : Nat := 2
abbrev RUN : Nat := 3
abbrev WAIT : Nat := 4
abbrev FAULT : Nat := 5
end FState

/-- rpm_cmd of a command value (R299). -/
def State.fanRpm (s : State) (c : Nat) (v : Int) : Nat :=
  let r := ((if v < 0 then 0 else v.toNat) * s.rd (Reg.FAN_RPMMAX c) + 2 ^ 16) / 2 ^ 17
  if r ≠ 0 ∧ r < s.rd (Reg.FAN_RPMMIN c) then s.rd (Reg.FAN_RPMMIN c) else r

/-- The actuator bank cannot drive its channels from commands: rows 1 and 2 of Table 14-2. -/
def State.actSafe (s : State) : Bool := s.act.tripped || !s.act.applied || !s.works .act

/-- A fault override or a sensor override is in force in the channel's cooling group (R303, R304). -/
def State.fanOverride (s : State) (c : Nat) : Bool :=
  let g := s.rd (Reg.FAN_CFG_GROUP c)
  g != 0 && (s.rd Reg.FAN_GSTAT_GOVR / 2 ^ (g - 1) % 2 == 1 || s.rd Reg.FAN_GSTAT_SFAIL / 2 ^ (g - 1) % 2 == 1)

/-- A command taken from a point under R292: the value to follow, or none for the safe state, and the value now kept. -/
def takeCmd (usable notYet : Bool) (lossSafe : Bool) (v : Int) (last : Option Int) : Option Int × Option Int :=
  if usable then (some v, some v)
  else if notYet || last.isNone || lossSafe then (none, last)
  else (last, last)

/-- The command point of an actuator as it is sampled: usable, NOT_YET, value (FRAC). -/
def State.cmdPoint (s : State) (n : Nat) : Bool × Bool × Int :=
  let (v, q) := s.readPoint n
  (q.usable, q == .notYet, toSigned 18 v.toNat)

/-- Row 6 of Table 14-2: the point is the output point of a slot TRIPPED with action SAFE (R261), of a cluster that keeps its
slots. -/
def State.pointHeld (s : State) (pt : Nat) : Bool :=
  s.loops.any (fun p =>
    s.rd (Reg.CTL_OUTPT_POINT p.1) == pt && s.rd (Reg.CTL_SSTAT_STATE (p.1 / 256) (p.1 % 256)) == 4 &&
    s.rd (Reg.CTL_SUPCFG_ACTION p.1) == 2 && s.eng (.ctl (if p.1 < 256 then 0 else 1)) != stDown)

def State.fanHeld (s : State) (c : Nat) : Bool := s.pointHeld (s.rd (Reg.FAN_TGTPT c))

/-- The drive of a fan channel by the first row of Table 14-2 that applies, row 3 apart; the command point is sampled. -/
def State.fanDrive (s : State) (c : Nat) : FanDrive × State :=
  let f := s.fan c
  let (usable, ny, v) := s.cmdPoint (s.rd (Reg.FAN_TGTPT c))
  let s := s.wrB (Reg.FAN_STAT_LOSS c) (!usable)
  if s.actSafe then (.safe, s)
  else if s.service then ((match f.test with | some n => .rpm n | none => f.svcHold), s)
  else
    let (use, last) := takeCmd usable ny (s.rdB (Reg.FAN_CFG_LOSSACT c)) v f.lastCmd
    let s := s.setFan c (fun f => { f with lastCmd := last })
    if s.fanOverride c then (.rpm (s.rd (Reg.FAN_RPMMAX c)), s)
    else if s.fanHeld c then (.safe, s)
    else match use with
      | some v => (.rpm (s.fanRpm c v), s)
      | none => (.safe, s)

/-- The channel is off: STOPPED, with nothing kept of its speed loop and its commutation (R293). -/
def State.fanStop (s : State) (c : Nat) : State :=
  ((s.setFan c (fun f => { f with i := 0, d := 0, commIn := none, braking := false, good := 0, preset := false })).wr
    (Reg.FAN_STAT_FSTATE c) FState.STOPPED).wr (Reg.FAN_DUTY c) 0

/-! ### Commutation (R297, R301) -/

/-- Electrical angles count in 1/5,625,000,000 of a turn, so that a PWM period at RPM adds RPM × POLES × TOP of them. -/
abbrev fanTurn : Nat := 5625000000

/-- Thirds of a ns of a PWM period (R296). -/
def State.fanPeriod (s : State) (c : Nat) : Nat := 32 * s.rd (Reg.FAN_PWM c)

/-- TALIGN and TRAMP in thirds of a ns. -/
def State.fanAlign (s : State) (c : Nat) : Nat := 3000000 * s.rd (Reg.FAN_STIME_TALIGN c)
def State.fanRamp (s : State) (c : Nat) : Nat := 30000000 * s.rd (Reg.FAN_STIME_TRAMP c)

/-- RPMHAND × POLES. -/
def State.fanHand (s : State) (c : Nat) : Nat := s.rd (Reg.FAN_RPMHAND c) * s.rd (Reg.FAN_CFG_POLES c)

/-- Commutation steps that an attempt has forced `t` thirds of a ns after its start: none while it aligns, then at a rate that
rises from 0 to that of RPMHAND and stays there (R301). `hand` is RPMHAND × POLES. -/
def forcedSteps (hand align ramp t : Nat) : Nat :=
  let u := t - align
  if u ≤ ramp then hand * u * u / (60000000000 * max 1 ramp) else hand * (2 * u - ramp) / 60000000000

/-- An interval of `dt` ns between crossings lies within ±25% of the one that forced commutation makes at its present rate
(R301; DEDUCED, notes/assumptions/105). -/
def crossingFits (hand align ramp t dt : Nat) : Bool :=
  let m := min (t - align) ramp
  let p : Int := 10000000000 * ramp
  m != 0 && decide (4 * ((dt * hand * m : Nat) - p).natAbs ≤ p.natAbs)

/-- A PWM period has passed: a start steps at its forced rate, six-step commutates where half an interval is over, and the
sine's angle advances by the measured speed (R297, R301). A commutation takes effect at a PWM period's start
(notes/assumptions/105). -/
def State.fanCommutate (s : State) (c : Nat) : State :=
  let dt := s.fanPeriod c
  if s.fstate c = FState.STARTING then
    s.setFan c (fun f => { f with
      startT := f.startT + dt
      step := forcedSteps (s.fanHand c) (s.fanAlign c) (s.fanRamp c) (f.startT + dt) % 6 })
  else if s.fstate c = FState.RUN then
    if s.rdB (Reg.FAN_CFG_COMM c) then
      s.setFan c (fun f => { f with
        ang := (f.ang + s.rd (Reg.FAN_RPM c) * s.rd (Reg.FAN_CFG_POLES c) * s.rd (Reg.FAN_PWM c)) % fanTurn })
    else s.setFan c (fun f => match f.commIn with
      | some n => if n ≤ dt then { f with step := (f.step + 1) % 6, commIn := none } else { f with commIn := some (n - dt) }
      | none => f)
  else s

/-- A zero crossing in RUN, `dt` ns after the last: six-step commutates half that interval later; the sine's angle is corrected
to the crossing that was expected, the nearest sixth of a turn (R297; DEDUCED, notes/assumptions/105). -/
def State.fanCrossed (s : State) (c dt : Nat) : State :=
  if s.fstate c ≠ FState.RUN then s
  else if s.rdB (Reg.FAN_CFG_COMM c) then
    s.setFan c (fun f => { f with ang := (f.ang + fanTurn / 12) / (fanTurn / 6) * (fanTurn / 6) % fanTurn })
  else s.setFan c (fun f => { f with commIn := some (3 * dt / 2) })

/-- An FG rising edge in RUN: FG-only six-step commutates on it, and on the falling edge taken half an interval later; to which
angle it corrects the sine is open (R297; notes/assumptions/1, 105). -/
def State.fanHallEdge (s : State) (c dt : Nat) : State :=
  if s.fstate c ≠ FState.RUN then s
  else if s.rdB (Reg.FAN_CFG_COMM c) then
    let (k, s) := s.freeN
    s.setFan c (fun f => { f with ang := k % fanTurn })
  else if s.rd (Reg.FAN_CFG_FGSRC c) = 2 then
    s.setFan c (fun f => { f with step := (f.step + 1) % 6, commIn := some (3 * dt / 2) })
  else s

/-- Milliamperes of a SAR code: 300 mV full scale over RSH × 0.1 mΩ (R298), rounded to nearest (notes/assumptions/31). -/
def State.fanAmps (s : State) (c : Nat) (codes n : Nat) : Nat :=
  let d := 4096 * s.rd (Reg.FAN_RSH c) * n
  if d = 0 then 0 else min (2 ^ 18 - 1) ((2 * 3000000 * codes + d) / (2 * d))

/-- A start attempt (R301): the outputs were off, so D starts at 0. -/
def State.fanAttempt (s : State) (c a : Nat) : State :=
  (((s.setFan c (fun f =>
    { f with good := 0, d := 0, step := 0, commIn := none, startT := 0, braking := false, lostRot := false, peakNow := 0 })).wr
    (Reg.FAN_STAT_FSTATE c) FState.STARTING).wr (Reg.FAN_STAT_ATTEMPT c) a).wrB (Reg.FAN_STAT_FGLOST c) false

/-- The current of the present attempt, mA (R301). -/
def State.attemptAmps (s : State) (c : Nat) : Nat :=
  min (s.rd (Reg.FAN_ISTART c) * (4 + s.rd (Reg.FAN_STAT_ATTEMPT c)) / 4) (s.rd (Reg.FAN_ILIM c))

/-- A start attempt succeeds: RUN; the start is counted, and its trend taken (Table 14-3, R316). -/
def State.fanStarted (s : State) (c : Nat) : State :=
  let level := s.rd (Reg.FAN_STAT_ATTEMPT c) + 1
  let s := s.setFan c (fun f =>
    { f with preset := true, ang := f.step * (fanTurn / 6), starts := f.starts + 1, levelSum := f.levelSum + level, levelMax := max f.levelMax level,
             peakSum := f.peakSum + f.peakNow })
  (s.wr (Reg.FAN_STAT_FSTATE c) FState.RUN).batch (8 + c)

/-- GOVR of a group follows its members' faults (R303). -/
def State.groupFault (s : State) (g : Nat) : Bool :=
  (List.range 3).any (fun c => s.rd (Reg.FAN_CFG_GROUP c) == g && s.fstate c == FState.FAULT)

def setBit (v i : Nat) (b : Bool) : Nat := if b then v - v / 2 ^ i % 2 * 2 ^ i + 2 ^ i else v - v / 2 ^ i % 2 * 2 ^ i

/-- GOVR and SOVR in every member's FAN_STAT (R303, R304). -/
def State.groupShow (s : State) (g : Nat) : State :=
  let govr := s.rd Reg.FAN_GSTAT_GOVR / 2 ^ (g - 1) % 2
  let sfail := s.rd Reg.FAN_GSTAT_SFAIL / 2 ^ (g - 1) % 2
  (List.range 3).foldl (fun s c =>
    if s.rd (Reg.FAN_CFG_GROUP c) = g then (s.wr (Reg.FAN_STAT_GOVR c) govr).wr (Reg.FAN_STAT_SOVR c) sfail else s) s

def State.groupGovr (s : State) (g : Nat) : State :=
  if g = 0 then s
  else (s.wr Reg.FAN_GSTAT_GOVR (setBit (s.rd Reg.FAN_GSTAT_GOVR) (g - 1) (s.groupFault g))).groupShow g

/-- The sensor point of group `g` is sampled (R304). -/
def State.groupSensor (s : State) (g : Nat) : State :=
  if g = 0 then s
  else
    let i := g - 1
    let (v, q) := s.readPoint (s.rd (Reg.FAN_GRP_SENSPT i))
    let late := match s.act.groups[i]? with | some x => x.late | none => false
    let fail := s.rdB (Reg.FAN_GRP_SOVREN i) &&
      (q == .fault || q == .stale || q == .clipped || (q == .notYet && late))
    let was := s.rd Reg.FAN_GSTAT_SFAIL / 2 ^ i % 2 == 1
    let fail := fail || (was && s.rdB (Reg.FAN_GRP_SOVREN i) && !(q.usable && q != .clipped))
    let s := s.wr Reg.FAN_GSTAT_SFAIL (setBit (s.rd Reg.FAN_GSTAT_SFAIL) i fail)
    let s := if fail then s.wr (Reg.FAN_GTEMP i) 0x3FFFF
      else if q.usable then s.wr (Reg.FAN_GTEMP i) v.toNat else s
    s.groupShow g

/-- A speed or current point of a channel is written (R298). -/
def State.fanPoint (s : State) (c k : Nat) (t : PTrig) : State :=
  let on := if k = 0 then s.rdB (Reg.FAN_SPDPT_SPEN c) else s.rdB (Reg.FAN_SPDPT_CUREN c)
  if on then s.srcTrig .fan (.fan c k) (s.rd (Reg.FAN_SPDPT_POINT c) + k) t else s

/-- The channel enters FAULT (Table 14-3): off, its speed point FAULT, the event logged, its group overridden. -/
def State.fanFault (s : State) (c cause : Nat) : State :=
  let s := s.fanStop c
  let s := (s.wr (Reg.FAN_STAT_FSTATE c) FState.FAULT).wr (Reg.FAN_STAT_FCAUSE c) cause
  let s := (s.fanPoint c 0 (.fail none)).groupGovr (s.rd (Reg.FAN_CFG_GROUP c))
  (s.logEvent 0x07 [c, cause]).irq 10

/-- D of the speed loop in RUN, with its integrator (R299); `lim` says that the limit tripped this period. -/
def fanLoop (kp ki rpmCmd rpmMeas : Nat) (i : Int) (lim : Bool) : Nat × Int :=
  let e : Int := (rpmCmd : Int) - rpmMeas
  let d := (clampInt 0 65535 (((kp : Int) * e) / 256 + i / 65536)).toNat
  let hold : Bool := (decide (0 < e) && (d == 65535 || lim)) || (decide (e < 0) && d == 0)
  (d, if hold then i else clampInt 0 (65535 * 65536) (i + (ki : Int) * e))

/-- I that makes the first D of RUN equal the D of the last start period, be it outside the limits of I (R299). -/
def fanPreset (kp rpmCmd rpmMeas d : Nat) : Int :=
  ((d : Int) - ((kp : Int) * ((rpmCmd : Int) - rpmMeas)) / 256) * 65536

/-- Drive of a fan whose command is the speed `n` and not 0. -/
def State.fanGo (s : State) (c n : Nat) (lim : Bool) (amps : Nat) : State :=
  let f := s.fan c
  let st := s.fstate c
  if st = FState.STOPPED then
    (s.setFan c (fun f => { f with braking := false, zc := [], fg := [] })).wr (Reg.FAN_STAT_FSTATE c) FState.CATCH
  else if st = FState.RUN then
    let kp := s.rd (Reg.FAN_KP c)
    let meas := s.rd (Reg.FAN_RPM c)
    let i := if f.preset then fanPreset kp n meas f.d else f.i
    let (d, i) := fanLoop kp (s.rd (Reg.FAN_KI c)) n meas i lim
    (s.setFan c (fun f => { f with i := i, d := d, preset := false })).wr (Reg.FAN_DUTY c) d
  else if st = FState.STARTING then
    -- D moves towards the attempt current by at most 64; by how much is open
    let (k, s) := s.freeN
    let k := k % 65
    let tgt := s.attemptAmps c
    let d := if amps < tgt then min 65535 (f.d + k) else if tgt < amps then f.d - k else f.d
    (s.setFan c (fun f => { f with d := d, peakNow := max f.peakNow amps })).wr (Reg.FAN_DUTY c) d
  else s

/-- FAN_PWM_PERIOD: a PWM period of a channel starts, with the SAR code of its current (R292, R298, R299). -/
def execFanPwmPeriod (c : Fin 3) (code : BitVec 12) (s : State) : Host.Outcome State Fault Refusal :=
  let c := c.val
  done fpFan s
    (if !s.rdB (Reg.FAN_CFG_EN c) then s
     else
       let lim := (s.fan c).cut
       let g := s.rd (Reg.FAN_CFG_GROUP c)
       let s := (s.wrB (Reg.FAN_STAT_LIMIT c) lim).setFan c (fun f =>
         { f with cut := false, curSum := f.curSum + code.toNat, curN := f.curN + 1 })
       let s := ((s.fanCommutate c).groupGovr g).groupSensor g
       let (drive, s) := s.fanDrive c
       let s := s.setFan c (fun f => { f with cmd := drive })
       let s := (s.wrB (Reg.FAN_STAT_TEST c) (s.service && (s.fan c).test.isSome)).wrB (Reg.FAN_STAT_SAFE c)
         (s.fanHeld c && !s.actSafe && !s.service && !s.fanOverride c)
       if s.fstate c = FState.FAULT then s.wr (Reg.FAN_CMDRPM c) 0
       else match drive with
         | .safe => (s.wr (Reg.FAN_CMDRPM c) 0).fanStop c
         | .rpm 0 => (s.wr (Reg.FAN_CMDRPM c) 0).fanStop c
         | .rpm n => (s.wr (Reg.FAN_CMDRPM c) n).fanGo c n lim (s.fanAmps c code.toNat 1))

/-- Balls of row U of a fan channel: PHA, PHB, PHC, EN; a ball's number is 16 × row + column − 1. -/
def fanBalls (c : Nat) : List Nat := (List.range 4).map (fun i => 15 * 16 + 4 * c + i)

/-- Balls released from their force to their function (R65). -/
def State.releaseBalls (s : State) (bs : List Nat) : State :=
  { s with balls := { s.balls with forced := s.balls.forced.filter (fun b => !memNat b.1 bs)
                                   resets := s.balls.resets.filter (fun b => !memNat b bs) } }

def State.ballForced (s : State) (b : Nat) : Bool := s.balls.forced.any (fun x => x.1 == b)

/-- The forced ones of some balls are released to their Reset state by a protection (R65). -/
def State.resetBalls (s : State) (bs : List Nat) : State :=
  let s' := s.releaseBalls bs
  { s' with balls := { s'.balls with
    resets := s.balls.resets ++ (bs.filter (fun b => s.ballForced b && !memNat b s.balls.resets)) } }

/-- FAN_CURRENT_LIMIT: ISNS exceeds the limit; every PH is low until the next period (R300). Forced balls of the channel
are released and their command reports FAULT (R65). -/
def execFanCurrentLimit (c : Fin 3) (s : State) : Host.Outcome State Fault Refusal :=
  let c := c.val
  let fp : Footprint := { fpFan with regs := (0x2401, 0x2402) :: fpFan.regs }
  done fp s
    (let forced := (fanBalls c).any s.ballForced
     let t := (s.setFan c (fun f => { f with cut := true })).wrB (Reg.FAN_STAT_LIMIT c) true
     let t := if (s.fan c).cut then t else t.bump (Reg.FAN_LIMCNT c)
     if forced then (t.resetBalls (fanBalls c)).wr Reg.SVC_STAT_LAST Status.FAULT else t)

/-- Revolutions a minute of a revolution time in ns, to nearest (notes/assumptions/31). -/
def rpmOf (ns : Nat) : Nat := if ns = 0 then 2 ^ 18 - 1 else min (2 ^ 18 - 1) ((2 * 60000000000 + ns) / (2 * ns))

/-- FAN_ZERO_CROSSING: `dt` ns after the last crossing (R297, R298, R301). -/
def execFanZeroCrossing (c : Fin 3) (dt : Nat) (s : State) : Host.Outcome State Fault Refusal :=
  let c := c.val
  let src := s.rd (Reg.FAN_CFG_FGSRC c)
  done fpFan s
    (if src = 2 ∨ !s.rdB (Reg.FAN_CFG_EN c) then s
     else
       let s := s.setFan c (fun f => { f with zc := (dt :: f.zc).take 6 })
       let f := s.fan c
       let bemf := src == 0 || s.rdB (Reg.FAN_STAT_FGLOST c) || f.fg.length < s.rd (Reg.FAN_CFG_FGPPR c)
       let s := if bemf && f.zc.length == 6 then
           s.wr (Reg.FAN_RPM c) (rpmOf (f.zc.foldl (· + ·) 0 * s.rd (Reg.FAN_CFG_POLES c))) else s
       if s.fstate c = FState.STARTING then
         let n := if crossingFits (s.fanHand c) (s.fanAlign c) (s.fanRamp c) f.startT dt then f.good + 1 else 0
         let s := s.setFan c (fun f => { f with good := n })
         if 6 ≤ n then s.fanStarted c else s
       else s.fanCrossed c dt)

/-- FAN_FG_EDGE: a rising edge of FG, `dt` ns after the last one (R298, R301). -/
def execFanFgEdge (c : Fin 3) (dt : Nat) (s : State) : Host.Outcome State Fault Refusal :=
  let c := c.val
  let src := s.rd (Reg.FAN_CFG_FGSRC c)
  let ppr := s.rd (Reg.FAN_CFG_FGPPR c)
  done fpFan s
    (if src = 0 ∨ !s.rdB (Reg.FAN_CFG_EN c) then s
     else
       let s := s.setFan c (fun f => { f with fg := (dt :: f.fg).take 7 })
       let f := s.fan c
       let s := if ppr ≤ f.fg.length ∧ !s.rdB (Reg.FAN_STAT_FGLOST c) then
           s.wr (Reg.FAN_RPM c) (rpmOf ((f.fg.take ppr).foldl (· + ·) 0)) else s
       if s.fstate c = FState.STARTING ∧ src = 2 then
         let fast := Nat.ble (s.rd (Reg.FAN_RPMHAND c) * dt * ppr) (4 * 60000000000)
         let s := s.setFan c (fun f => { f with good := 1 })
         if f.good ≠ 0 ∧ fast then s.fanStarted c else s
       else s.fanHallEdge c dt)

/-- FAN_MEASURE_WRITE: every 10 ms the mean current and the speed go to their points (R298). -/
def execFanMeasureWrite (c : Fin 3) (s : State) : Host.Outcome State Fault Refusal :=
  let c := c.val
  done fpFan s
    (if !s.rdB (Reg.FAN_CFG_EN c) || s.actSafe then s
     else
       let f := s.fan c
       let ima := s.fanAmps c f.curSum f.curN
       let s := (s.wr (Reg.FAN_IMA c) ima).setFan c (fun f => { f with curSum := 0, curN := 0 })
       let s := s.fanPoint c 1 (.write (BitVec.ofNat 18 ima))
       if s.fstate c = FState.FAULT then s.fanPoint c 0 (.fail none)
       else s.fanPoint c 0 (.write (BitVec.ofNat 18 (s.rd (Reg.FAN_RPM c)))))

/-- FAN_CATCH_END: the rotor has been observed for 20 ms; `outcome` 0 forward at RPMHAND / 2 or above on back-EMF,
1 rotation otherwise, 2 none (Table 14-3). -/
def execFanCatchEnd (c : Fin 3) (outcome : Fin 3) (s : State) : Host.Outcome State Fault Refusal :=
  let c := c.val
  done fpFan s
    (if s.fstate c ≠ FState.CATCH ∨ (s.fan c).braking then s
     else if outcome.val = 2 then s.fanAttempt c 0
     else if outcome.val = 1 ∨ s.rd (Reg.FAN_CFG_FGSRC c) = 2 then s.setFan c (fun f => { f with braking := true })
     else
       -- the integrator and the angle that synchronizing leaves are open
       let (k, s) := s.freeN
       let (a, s) := s.freeN
       (s.setFan c (fun f => { f with
         i := (k % (65535 * 65536 + 1) : Nat), ang := a % fanTurn, step := a % fanTurn / (fanTurn / 6), commIn := none
         preset := false })).wr (Reg.FAN_STAT_FSTATE c) FState.RUN)

/-- FAN_BRAKE_END: braking has ended (Table 14-3). -/
def execFanBrakeEnd (c : Fin 3) (s : State) : Host.Outcome State Fault Refusal :=
  let c := c.val
  done fpFan s (if s.fstate c = FState.CATCH ∧ (s.fan c).braking then s.fanAttempt c 0 else s)

/-- FAN_START_TIMEOUT: TSTART has passed without success (R301, Table 14-3). -/
def execFanStartTimeout (c : Fin 3) (s : State) : Host.Outcome State Fault Refusal :=
  let c := c.val
  done fpFan s
    (if s.fstate c ≠ FState.STARTING then s
     else
       let s := s.bump (Reg.FAN_RETRY c)
       if s.rd (Reg.FAN_STAT_ATTEMPT c) = 3 then s.fanFault c 1
       else ((s.setFan c (fun f => { f with d := 0 })).wr (Reg.FAN_STAT_FSTATE c) FState.WAIT).wr (Reg.FAN_DUTY c) 0)

/-- FAN_WAIT_END: the outputs have been off for 1 s (Table 14-3). -/
def execFanWaitEnd (c : Fin 3) (s : State) : Host.Outcome State Fault Refusal :=
  let c := c.val
  done fpFan s
    (if s.fstate c ≠ FState.WAIT then s
     else s.fanAttempt c (if (s.fan c).lostRot then 0 else min 3 (s.rd (Reg.FAN_STAT_ATTEMPT c) + 1)))

/-- FAN_ROTATION_LOST: no crossing and no FG edge in RUN (Table 14-3). -/
def execFanRotationLost (c : Fin 3) (s : State) : Host.Outcome State Fault Refusal :=
  let c := c.val
  done fpFan s
    (if s.fstate c ≠ FState.RUN then s
     else ((s.setFan c (fun f => { f with lostRot := true, d := 0, i := 0, preset := false })).wr
       (Reg.FAN_STAT_FSTATE c) FState.WAIT).wr (Reg.FAN_DUTY c) 0)

/-- FAN_FG_LOST: no FG edge in RUN, with crossings continuing or with FG only (Table 14-3). -/
def execFanFgLost (c : Fin 3) (s : State) : Host.Outcome State Fault Refusal :=
  let c := c.val
  done fpFan s
    (if s.fstate c ≠ FState.RUN then s
     else match s.rd (Reg.FAN_CFG_FGSRC c) with
       | 1 => s.wrB (Reg.FAN_STAT_FGLOST c) true
       | 2 => s.fanFault c 2
       | _ => s)

/-- FAN_OVERCURRENT: LIMIT has been set in every period for OCTIME (Table 14-3). -/
def execFanOvercurrent (c : Fin 3) (s : State) : Host.Outcome State Fault Refusal :=
  let c := c.val
  done fpFan s (if s.fstate c = FState.RUN ∨ s.fstate c = FState.STARTING then s.fanFault c 3 else s)

/-- FAN_CLEAR: CLEAR of channel CH (R302, Table 14-17). The override of its group ends at the next PWM period. -/
def execFanClear (c : Fin 3) (s : State) : Host.Outcome State Fault Refusal :=
  let st := s.gate .fan true
  done fpFan s
    (let t :=
      if st ≠ Status.OK then s
      else
        let s := s.wr Reg.FAN_CMD_CH c.val
        if s.fstate c.val = FState.FAULT then
          ((((s.fanStop c.val).wr (Reg.FAN_STAT_FCAUSE c.val) 0).wrB (Reg.FAN_STAT_FGLOST c.val) false).wr
            (Reg.FAN_STAT_ATTEMPT c.val) 0)
        else s.wrB (Reg.FAN_STAT_FGLOST c.val) false
     t.answer .fan 0x300 (some Reg.FAN_CMD_CSTAT) st)

/-- GROUP_SENSOR_TIMEOUT: 10 s after IN_SERVICE the group's sensor point is still NOT_YET (R304). -/
def execGroupSensorTimeout (g : Fin 3) (s : State) : Host.Outcome State Fault Refusal :=
  done fpFan s
    (({ s with act := { s.act with groups := vmod s.act.groups g.val (fun x => { x with late := true }) } }).groupSensor
      (g.val + 1))

/-- The temperature threshold that TRIPSEL selects, in 1/10,000 of VDDA18: 60, 70, 80 or 90 °C (Tables 3-7, 14-5). -/
def tripThreshold (sel : Nat) : Nat := match sel with | 0 => 2296 | 1 => 1808 | 2 => 1425 | _ => 1128

/-- Does a comparator find a ratio on the far side of a threshold? Within ±0.003 of it that is open (R305;
notes/assumptions/1). -/
def State.compares (s : State) (above : Bool) (ratio thr : Nat) : Bool × State :=
  if thr + 30 < ratio then (above, s)
  else if ratio + 30 < thr then (!above, s)
  else s.freeB

/-- The condition of Table 14-5 that a pin at `ratio` meets: 0 none, 1 HOT, 2 OPEN, 3 SHORT; a short is hot too, and is
recorded as SHORT (R305). -/
def State.windowCause (s : State) (ratio : Nat) : Nat × State :=
  let (short, s) := s.compares false ratio 200
  let (hot, s) := s.compares false ratio (tripThreshold (s.rd Reg.SYS_STRAP_TRIPSEL))
  let (open', s) := s.compares true ratio 9700
  (if short then 3 else if hot then 1 else if open' then 2 else 0, s)

/-- WINDOW_COMPARATOR_TRIP: the pin of group `g` has stood for 10 ms at `ratio` ten-thousandths of VDDA18 (R305, R306). The
comparators act in the small configurations, once armed, while PGOOD and RESET_N are high, in shutdown too; SYSOFF_N is
latched. -/
def execWindowComparatorTrip (g : Fin 3) (ratio : Fin 10001) (s : State) : Host.Outcome State Fault Refusal :=
  let armed := match s.act.groups[g.val]? with | some x => x.armed.isSome | none => false
  let r := s.windowCause ratio.val
  let cause := r.1
  let s' := r.2
  doneHeld fpFan s
    (if !armed || s.variant == .slz4860 || !s.balls.resetN || !s.balls.pgood then s
     else if cause = 0 then s'
     else
       let first := !s.balls.sysoff
       let t := { s' with balls := { s'.balls with sysoff := true } }
       let t := if s.rd Reg.FAN_GSTAT_CMPCAUSE = 0 then
           (t.wr Reg.FAN_GSTAT_CMPCAUSE cause).wr Reg.FAN_GSTAT_CMPGRP (g.val + 1) else t
       if first && !s.therm.shutdown then t.logEvent 0x09 [t.rd Reg.FAN_GSTAT_CMPCAUSE, t.rd Reg.FAN_GSTAT_CMPGRP]
       else t)

/-- A fan takes its safe state (R293). -/
def State.fanSafe (s : State) (c : Nat) : State :=
  let s := s.setFan c (fun f => { f with cmd := .safe })
  if s.fstate c = FState.FAULT then s else s.fanStop c

/-- Every fan takes its safe state (R293). -/
def State.fansSafe (s : State) : State := (List.range 3).foldl (fun s c => s.fanSafe c) s

end Sys2Proof.Machine
end

