-- ==== Sys2Proof/Machine/Radiometry.lean ====
section
/-! DEFINITION. Radiometry of chapter 9: the curve W, the radiometric table of a set (R185), the correction pair of a
stand (R186) and stage 6 (R187). -/

namespace Sys2Proof.Machine

/-- Limit to −131,072 to 131,071 (08_pixel_burst, The pipeline). -/
def sat18s (v : Int) : Int := clampInt (-131072) 131071 v

/-- Limit to 0 to 262,143. -/
def sat18u (v : Int) : Int := clampInt 0 262143 v

/-- Arithmetic right shift, towards minus infinity. -/
def sar (v : Int) (n : Nat) : Int := v / (2 ^ n : Nat)

/-- (v + 2^(n−1)) >> n: rounds half up. -/
def rshr (v : Int) (n : Nat) : Int := if n = 0 then v else sar (v + (2 ^ (n - 1) : Nat)) n

/-- The curve coefficients of a set as its registers hold them (Table 9-22). -/
structure Curve where
  cvb : Nat
  cvr : Nat
  cvf : Nat
  cvo : Int
  tlo : Nat
  thi : Nat
  deriving DecidableEq, Repr

def Curve.b (c : Curve) : F64 := .ofFrac c.cvb 64
def Curve.r (c : Curve) : F64 := .ofInt c.cvr
def Curve.f (c : Curve) : F64 := .ofFrac c.cvf 65536

/-- exp(CVB / T) − CVF of R184, T in 1/512 K. -/
def Curve.denom (c : Curve) (t512 : F64) : F64 :=
  ((c.b.div (t512.div (.ofInt 512))).exp).sub c.f

/-- W cannot be formed at T: exp overflows, or the denominator is 0 or negative (R185). -/
def Curve.unformed (c : Curve) (t512 : F64) : Bool :=
  match (c.b.div (t512.div (.ofInt 512))).exp with
  | .fin _ _ => let d := c.denom t512; d.isNeg || d.isZero
  | _ => true

/-- W(T) = CVR / (exp(CVB / T) − CVF) in binary64 (R184). Where it cannot be formed, W is open (notes/assumptions/21). -/
def Curve.w (c : Curve) (t512 : F64) : F64 :=
  if c.unformed t512 then
    let v := Config.openRadiance c.cvb c.cvr c.cvf (t512.frac.getD (0, 1))
    .ofFrac v.1 (v.2 + 1)
  else c.r.div (c.denom t512)

/-- One entry of the table from W_i (R185). -/
def lutEntry (c : Curve) (wi : F64) : Word :=
  if wi.isNeg || wi.isZero then 0
  else
    let x := (c.r.div wi).add c.f
    if x.le (.ofInt 1) then BitVec.ofNat 18 0x3FFFF
    else BitVec.ofInt 18 ((((F64.ofInt 512).mul c.b).div x.ln).roundSat 0 262143)

/-- W_i = WLO + i × 2^14 / WSCL (R185). -/
def lutW (wlo : Int) (wscl i : Nat) : F64 :=
  (F64.ofInt wlo).add ((F64.ofInt (i * 2 ^ 14 : Nat)).div (.ofInt wscl))

/-- A built table: its limits and 4,096 entries, or none where it is IMPLAUSIBLE (R185). -/
structure RadTable where
  wlo : Int
  wscl : Nat
  lut : List Word
  deriving DecidableEq, Repr

/-- TABLE_BUILD (R185). -/
def buildTable (c : Curve) : Option RadTable :=
  if c.thi ≤ c.tlo then none
  else if c.unformed (.ofInt c.tlo) || c.unformed (.ofInt c.thi) then none
  else
    let wlo := (c.w (.ofInt c.tlo)).floor
    let whi := (c.w (.ofInt c.thi)).floor
    if whi - wlo < 256 || wlo < -131072 || 131071 < wlo then none
    else
      let wscl := (2 ^ 14 * 4095) / (whi - wlo).toNat
      some ⟨wlo, wscl, (List.range 4096).map fun i => lutEntry c (lutW wlo wscl i)⟩

/-- The correction pair (G, K) of an emissivity in Q1.17 and a reflected temperature (R186). -/
def corrPair (c : Curve) (eps trefl : Nat) : Nat × Int :=
  let g := ((F64.ofInt 4096).div (.ofFrac eps 131072)).round
  let k := (F64.ofFrac (131072 - (eps : Int)) 131072).mul (c.w (.ofInt trefl))
  (g.toNat, k.roundSat (-131072) 131071)

/-- Stage 6 (R187): scene temperature and whether it counts as saturated (R164). -/
def stage6 (cvo wlo : Int) (wscl : Nat) (lut : List Word) (g : Nat) (k cd : Int) : Nat × Bool :=
  let w := cd - cvo
  let v := (w - k) * g - wlo * 4096
  let u := sar (v * wscl + 2 ^ 17) 18
  let ent (i : Nat) : Nat := (lut.getD i 0).toNat
  if u < 0 then (ent 0, true)
  else if 4095 ≤ sar u 8 then (ent 4095, true)
  else
    let i := (sar u 8).toNat
    let f := u - 256 * (i : Int)
    let t := (ent i : Int) + sar (((ent (i + 1) : Int) - ent i) * f + 128) 8
    let t := (sat18u t).toNat
    (t, t == 0 || t == 0x3FFFF)

end Sys2Proof.Machine
end

