-- ==== Sys2Proof/Machine/Pipeline.lean ====
section
/-! DEFINITION. The burst of chapter 8 as a function of the resident state, the raw codes and the values latched at its
start: stages 2 to 7 (R159 to R165), uncorrectable errors (R167), and the sums of a calibration burst (Table 9-4). -/

namespace Sys2Proof.Machine

/-- Fields of a map word (Table 8-3). -/
def Px.mask (p : Px) : Bool := p.map.getLsbD 17
def Px.snag (p : Px) : Bool := p.map.getLsbD 16
def Px.dcls (p : Px) : Nat := bitsOf p.map.toNat 15 10
def Px.stand (p : Px) : Nat := bitsOf p.map.toNat 9 0

/-- What a burst latches (R156): geometry, set values, tables and filter settings. -/
structure BurstCtx where
  width : Nat
  height : Nat
  frame : Nat
  /-- D(k) and GT(s, k) of the 64 drift classes (R161). -/
  d : List Int
  gt : List Nat
  refine : Bool
  rgate : Nat
  rdead : Nat
  rflat : Nat
  /-- The filter is off, or the frame is a filter-reset frame. -/
  alpha256 : Bool
  mlo : Nat
  mhi : Nat
  alo : Nat
  cvo : Int
  wlo : Int
  wscl : Nat
  lut : List Word
  /-- Correction pair of each stand (index 0: no stand, a foreign one, or a disabled one). -/
  pair : List (Nat × (Nat × Int))
  deriving DecidableEq, Repr

/-- D(k) of R161. -/
def driftOffset (sref a1 a2 dT : Int) : Int :=
  sat18s (sref + rshr (a1 * dT) 19 + rshr (a2 * dT * dT) 34)

/-- A drift-compensated value: c_d, whether c or c_d saturated (PE_SAT), and whether c_d itself did (R162). -/
structure Cd where
  cd : Int
  sat : Bool
  cdSat : Bool
  deriving DecidableEq, Repr

/-- What stands for a value outside the frame; no rule reads it. -/
abbrev Cd.none : Cd := ⟨0, true, true⟩

/-- Stages 3 and 4 of one pixel (R160, R161). -/
def stage34 (cx : BurstCtx) (p : Px) (r : Nat) : Cd :=
  let d : Int := (r : Int) - p.ofs.toInt
  let q := rshr (d * p.gn.toNat) 15
  let c := sat18s q
  let k := p.dcls
  let v := rshr (c * (cx.gt.getD k 0x10000 : Nat)) 16 + cx.d.getD k 0
  let cd := sat18s v
  ⟨cd, decide (c ≠ q) || decide (cd ≠ v), decide (cd ≠ v)⟩

/-- A pixel entering sweep A: resident state, raw code, and an uncorrectable error in one of its words (R167). -/
structure PxIn where
  px : Px
  raw : Nat
  uecc : Bool
  deriving DecidableEq, Repr

/-- A pixel whose c_d comes from a substitute (R159, R167). -/
def PxIn.bad (p : PxIn) : Bool := p.px.snag || p.uecc

/-- The first pixel to the right within 16 positions that is not a snag (R159, case 3). -/
def firstGood (cx : BurstCtx) : Nat → List PxIn → Option Cd
  | 0, _ => none
  | _, [] => none
  | n + 1, p :: ps => if p.px.snag then firstGood cx n ps else some (stage34 cx p.px p.raw)

/-- Sweep A of line 0 (R159), with the value of the pixel to the left. -/
def sweepFirst (cx : BurstCtx) : Option Cd → List PxIn → List Cd
  | _, [] => []
  | left, p :: ps =>
    let v :=
      if p.bad then
        match left with
        | some v => v
        | none => (firstGood cx 16 ps).getD (stage34 cx p.px p.raw)
      else stage34 cx p.px p.raw
    v :: sweepFirst cx (some v) ps

/-- Sweep A of a further line, under the line above. -/
def sweepLine (cx : BurstCtx) : List Cd → List PxIn → List Cd
  | _, [] => []
  | above, p :: ps =>
    let v := if p.bad then above.headD (stage34 cx p.px p.raw) else stage34 cx p.px p.raw
    v :: sweepLine cx above.tail ps

/-- Sweep A of the lines after the first. -/
def sweepRest (cx : BurstCtx) : List Cd → List (List PxIn) → List (List Cd)
  | _, [] => []
  | above, l :: ls => let v := sweepLine cx above l; v :: sweepRest cx v ls

/-- Sweep A of a frame (R151, R159). -/
def sweepA (cx : BurstCtx) : List (List PxIn) → List (List Cd)
  | [] => []
  | l :: ls => let v := sweepFirst cx none l; v :: sweepRest cx v ls

/-- The element of row `y`, column `x` of a grid. -/
def gridAt {α : Type} (g : List (List α)) (d : α) (x y : Nat) : α := (g.getD y []).getD x d

/-- The 3 × 3 neighbourhood of a pixel off the border, row by row. -/
def hood {α : Type} (g : List (List α)) (d : α) (x y : Nat) : List α :=
  [gridAt g d (x - 1) (y - 1), gridAt g d x (y - 1), gridAt g d (x + 1) (y - 1),
   gridAt g d (x - 1) y, gridAt g d x y, gridAt g d (x + 1) y,
   gridAt g d (x - 1) (y + 1), gridAt g d x (y + 1), gridAt g d (x + 1) (y + 1)]

def maxInt (l : List Int) : Int := l.foldl (fun a b => if a < b then b else a) (l.headD 0)
def minInt (l : List Int) : Int := l.foldl (fun a b => if b < a then b else a) (l.headD 0)
def sumInt (l : List Int) : Int := l.foldl (· + ·) 0

/-- Stage 5 (R162, R163): the pixel's new OFS and whether it changed. -/
def stage5 (cx : BurstCtx) (cds : List (List Cd)) (pin : List (List PxIn)) (x y : Nat) (ofs : Int) :
    Int × Bool :=
  let inner := decide (0 < x ∧ x + 1 < cx.width ∧ 0 < y ∧ y + 1 < cx.height)
  if !(cx.refine && inner) then (ofs, false)
  else
    let n := hood cds .none x y
    let sn := hood (pin.map (·.map fun p => p.px.snag)) true x y
    if sn.any id || n.any (·.cdSat) then (ofs, false)
    else
      let v := n.map (·.cd)
      let c := (gridAt cds .none x y).cd
      let rr := maxInt v - minInt v
      let e8 := 9 * c - sumInt v
      let a := e8.natAbs
      if decide (rr ≤ cx.rflat) && decide (8 * cx.rdead < a) && decide (a ≤ 8 * cx.rgate) then
        let o := if 0 < e8 then ofs + 1 else ofs - 1
        let o := clampInt (-131072) 131071 o
        (o, decide (o ≠ ofs))
      else (ofs, false)

/-- Stage 7 (R165): new TMP. -/
def stage7 (cx : BurstCtx) (tmp t : Nat) : Nat :=
  let d : Int := (t : Int) - tmp
  let a : Nat :=
    if cx.alpha256 then 256
    else if d.natAbs ≤ cx.mlo then cx.alo
    else if cx.mhi ≤ d.natAbs then 256
    else cx.alo + (256 - cx.alo) * (d.natAbs - cx.mlo) / (cx.mhi - cx.mlo)
  if a < 256 then ((tmp : Int) + sar ((a : Int) * d + 128) 8).toNat else t

/-- Correction pair of a stand (R193: a foreign or disabled stand counts as 0; `pair` lists the head's own). -/
def BurstCtx.pairOf (cx : BurstCtx) (st : Nat) : Nat × Int :=
  match cx.pair.find? (fun p => p.1 == st) with
  | some p => p.2
  | none => match cx.pair.find? (fun p => p.1 == 0) with
            | some p => p.2
            | none => (4096, 0)

/-- One pixel of sweep B: new state, OFS changed, saturated. -/
structure PxOut where
  px : Px
  moved : Bool
  sat : Bool
  deriving DecidableEq, Repr

/-- Stages 5 to 7 and the write-back of one pixel; a pixel with an uncorrectable error is not written (R167). -/
def sweepBPx (cx : BurstCtx) (cds : List (List Cd)) (pin : List (List PxIn)) (x y : Nat) (p : PxIn) :
    PxOut :=
  let cd := gridAt cds .none x y
  let (o, mv) := stage5 cx cds pin x y p.px.ofs.toInt
  let gk := cx.pairOf p.px.stand
  let (t, st) := stage6 cx.cvo cx.wlo cx.wscl cx.lut gk.1 gk.2 cd.cd
  let tm := stage7 cx p.px.tmp.toNat t
  if p.uecc then ⟨p.px, false, cd.sat || st⟩
  else ⟨{ p.px with ofs := BitVec.ofInt 18 o, tmp := BitVec.ofNat 18 tm }, mv, cd.sat || st⟩

/-- Map with the index of each element. -/
def mapIdxFrom {α β : Type} (f : Nat → α → β) : Nat → List α → List β
  | _, [] => []
  | i, a :: as => f i a :: mapIdxFrom f (i + 1) as

/-- Rows of `w` elements. -/
def rowsOfList {α : Type} (w : Nat) : Nat → List α → List (List α)
  | 0, _ => []
  | h + 1, l => l.take w :: rowsOfList w h (l.drop w)

/-- What a normal burst leaves (R150 to R165). -/
structure BurstOut where
  px : List Px
  /-- Pixels whose OFS changed, and pixels saturated. -/
  moved : Nat
  sat : Nat
  /-- c_d of every pixel, for B̄ of R171. -/
  cds : List (List Cd)
  deriving DecidableEq, Repr

/-- Pixels of a head with their raw codes and errors, row by row. -/
def pxInputs (w h : Nat) (px : List Px) (raw : List (List Nat)) (uecc : List Nat) : List (List PxIn) :=
  mapIdxFrom (fun y row => mapIdxFrom (fun x p =>
    (⟨p, gridAt raw 0 x y, memNat (y * w + x) uecc⟩ : PxIn)) 0 row) 0 (rowsOfList w h px)

/-- A normal burst (R151). -/
def runBurst (cx : BurstCtx) (px : List Px) (raw : List (List Nat)) (uecc : List Nat) : BurstOut :=
  let pin := pxInputs cx.width cx.height px raw uecc
  let cds := sweepA cx pin
  let out := mapIdxFrom (fun y row => mapIdxFrom (fun x p => sweepBPx cx cds pin x y p) 0 row) 0 pin
  let flat := out.flatten
  ⟨flat.map (·.px), (flat.filter (·.moved)).length, (flat.filter (·.sat)).length, cds⟩

/-- B̄ of the blind stand as a sum and a count (R171). -/
def blindSum (cds : List (List Cd)) (px : List Px) (blstand : Nat) : Int × Nat :=
  (List.zip px cds.flatten).foldl (fun a pc =>
    if !pc.1.snag && pc.1.stand == blstand then (a.1 + pc.2.cd, a.2 + 1) else a) (0, 0)

/-! ### Calibration bursts (Table 9-4) -/

/-- |c_d − S| > UNIF, exactly; no finite S is within UNIF of anything. -/
def beyond (cd : Int) (s : F64) (unif : Nat) : Bool :=
  match s.frac with
  | some (n, d) => decide (unif * d < (cd * (d : Int) - n).natAbs)
  | none => true

/-- Sums of a settle frame (R178, R179) over the non-snag pixels read without error. -/
def settleSums (cx : BurstCtx) (px : List Px) (raw : List Nat) (uecc : List Nat) (sExp : F64) (unif : Nat)
    (fpa : Word) (set : Nat) : SettleSums :=
  let ps := mapIdxFrom (fun i pr => (i, pr)) 0 (List.zip px raw)
  let good := ps.filter fun e => !(e.2.1.snag || memNat e.1 uecc)
  let cd (e : Nat × Px × Nat) : Int := (stage34 cx e.2.1 e.2.2).cd
  { n := good.length
    sumR := sumInt (good.map fun e => (e.2.2 : Int))
    sumOfs := sumInt (good.map fun e => e.2.1.ofs.toInt)
    sumGn := sumInt (good.map fun e => (e.2.1.gn.toNat : Int))
    cls := (List.range 64).map fun k =>
      let c := good.filter fun e => e.2.1.dcls == k
      (c.length, sumInt (c.map cd))
    out := (good.filter fun e => beyond (cd e) sExp unif).length
    sExp := sExp
    fpa := fpa
    set := set }

/-- Pixels of a settle frame whose c or c_d saturated: those of which it runs stages 3 and 4 (Table 9-4, Table 8-21). -/
def settleSat (cx : BurstCtx) (px : List Px) (raw : List Nat) (uecc : List Nat) : Nat :=
  ((mapIdxFrom (fun i (pr : Px × Nat) => !(pr.1.snag || memNat i uecc) && (stage34 cx pr.1 pr.2).sat) 0
    (List.zip px raw)).filter id).length

/-- The uniformity check of R179. -/
def SettleSums.uniform (s : SettleSums) : Bool := decide (0 < s.n) && decide (16 * s.out ≤ s.n)

/-- L of R179. -/
def SettleSums.levelL (s : SettleSums) : Int := (2 * s.sumR + s.n) / (2 * (s.n : Int))

/-- AVERAGE (R180): new OFS of every pixel and the pixels whose deviation was limited. -/
def averagePx (level : Int) (navg k : Nat) (px : List Px) (raw : List Nat) (uecc : List Nat) :
    List Px × List Nat :=
  let dm : Int := (131071 / navg : Nat)
  let l := mapIdxFrom (fun i (pr : Px × Nat) =>
    if memNat i uecc then (pr.1, none)
    else
      let e0 : Int := (pr.2 : Int) - level
      let e := clampInt (-dm) dm e0
      let o := if k = 0 then e else pr.1.ofs.toInt + e
      ({ pr.1 with ofs := BitVec.ofInt 18 o }, if e = e0 then none else some i)) 0 (List.zip px raw)
  (l.map (·.1), l.filterMap (·.2))

/-- Finalization (R181): OFS = sat18s(L + floor((2 OFS + k) / 2k)). -/
def finalizePx (level : Int) (k : Nat) (px : List Px) (uecc : List Nat) : List Px :=
  mapIdxFrom (fun i (p : Px) =>
    if memNat i uecc then p
    else { p with ofs := BitVec.ofInt 18 (sat18s (level + (2 * p.ofs.toInt + k) / (2 * (k : Int)))) }) 0 px

end Sys2Proof.Machine
end

