-- ==== Sys2Proof/Machine/Cruise.lean ====
section
/-! DEFINITION. The daily cruise's computation (R189 to R191) as a function, in binary64 (operation by operation, in the
order in which the tables write them: notes/assumptions/41). -/

namespace Sys2Proof.Machine

/-- Square root, correctly rounded; 0 for what has none. -/
def F64.sqrt (a : F64) : F64 :=
  match a.frac with
  | some (n, d) =>
    if n ≤ 0 then .fin 0 0
    else
      let k := 120
      let m := n.toNat * d * 2 ^ (2 * k)
      let r := isqrt m
      .ofFrac ((2 * r + (if r * r = m then 0 else 1) : Nat) : Int) (2 * d * 2 ^ k)
  | none => a

def F64.abs (a : F64) : F64 := if a.isNeg then a.negate else a

def F64.lt (a b : F64) : Bool := a.le b && !b.le a

def f64Sum (l : List F64) : F64 := l.foldl F64.add (.fin 0 0)

def insertF (x : F64) : List F64 → List F64
  | [] => [x]
  | y :: ys => if x.le y then x :: y :: ys else y :: insertF x ys

/-- The median; the mean of the two middle values of an even number; none of no values. -/
def f64Median (l : List F64) : Option F64 :=
  let s := l.foldr insertF []
  let n := s.length
  if n = 0 then none
  else if n % 2 = 1 then s[n / 2]?
  else match s[n / 2 - 1]?, s[n / 2]? with
    | some a, some b => some ((a.add b).div (.ofInt 2))
    | _, _ => none

/-- W′(T) at `t` kelvin (Table 9-6, step 5). -/
def Curve.wPrime (c : Curve) (t : F64) : F64 :=
  let e := (c.b.div t).exp
  let d := e.sub c.f
  ((c.r.mul (c.b.div (t.mul t))).mul e).div (d.mul d)

/-- Slope and RMS residual of a least-squares line of `ys` against `ts`; none where the times do not differ. -/
def lineFit (ts ys : List F64) : Option (F64 × F64) :=
  let n := F64.ofInt (ts.length : Int)
  let tm := (f64Sum ts).div n
  let ym := (f64Sum ys).div n
  let dt := ts.map (·.sub tm)
  let dy := ys.map (·.sub ym)
  let sxx := f64Sum (dt.map fun x => x.mul x)
  if sxx.isZero then none
  else
    let b := (f64Sum (List.zipWith F64.mul dt dy)).div sxx
    let es := List.zipWith (fun x y => y.sub (b.mul x)) dt dy
    some (b, ((f64Sum (es.map fun e => e.mul e)).div n).sqrt)

/-- z = a1 x + a2 x² by least squares (Table 9-6, step 3), with the RMS residual. -/
def driftFit (xz : List (F64 × F64)) : Option (F64 × F64 × F64) :=
  let s (p q : Nat) : F64 := f64Sum (xz.map fun e =>
    let xp := (List.replicate p e.1).foldl F64.mul (.ofInt 1)
    if q = 0 then xp else xp.mul e.2)
  let s2 := s 2 0
  let s3 := s 3 0
  let s4 := s 4 0
  let b1 := s 1 1
  let b2 := s 2 1
  let det := (s2.mul s4).sub (s3.mul s3)
  if det.isZero then none
  else
    let a1 := ((b1.mul s4).sub (b2.mul s3)).div det
    let a2 := ((b2.mul s2).sub (b1.mul s3)).div det
    let es := xz.map fun e => e.2.sub ((a1.mul e.1).add (a2.mul (e.1.mul e.1)))
    some (a1, a2, ((f64Sum (es.map fun e => e.mul e)).div (.ofInt (xz.length : Int))).sqrt)

/-- What a survey reads. -/
structure CruiseIn where
  px : List Px
  archives : List Archive
  /-- Drift samples of the four sets. -/
  samples : List DriftSample
  curves : List Curve
  /-- GT, A1 and A2 as the registers hold them, set by set. -/
  gt : List (List Nat)
  a1 : List (List Int)
  a2 : List (List Int)
  set : Nat
  navg : Nat
  replan : Bool
  /-- NETDT in mK. -/
  netdt : Nat
  /-- GNMEAN of R179. -/
  gnMean : F64
  deriving DecidableEq, Repr

/-- The fits of step 3 for one set: per class A1, A2, the exact coefficients and the residual; none where not fitted. The
flag says that a fit fell outside its format. -/
def step3 (cin : CruiseIn) (s : Nat) : List (Option (Int × Int × F64 × F64 × F64)) × Bool :=
  let ss := cin.samples.filter (fun d => d.set == s)
  let fit (k : Nat) : Option (F64 × F64 × F64) :=
    let xz := ss.filterMap fun d => ((d.z[k]?).join).map fun z => (F64.ofFrac d.x 512, F64.ofInt z)
    let xs := (ss.filterMap fun d => ((d.z[k]?).join).map fun _ => d.x)
    if xs.length < 6 ∨ maxInt xs - minInt xs < 4 * 512 then none else driftFit xz
  let fits := (List.range 64).map fit
  let ok (a1 a2 : Int) : Bool := decide (-131072 ≤ a1 ∧ a1 ≤ 131071 ∧ -131072 ≤ a2 ∧ a2 ≤ 131071)
  let out := fits.map fun o => o.map fun (a1, a2, r) =>
    (((F64.ofInt 1024).mul a1).round, ((F64.ofInt 65536).mul a2).round, a1, a2, r)
  (out.map fun o => match o with
    | some e => if ok e.1 e.2.1 then some e else none
    | none => none,
   out.any fun o => match o with | some e => !ok e.1 e.2.1 | none => false)

/-- What a survey gives. -/
structure CruiseOut where
  px : List Px
  gt : List (List Nat)
  a1 : List (List Int)
  a2 : List (List Int)
  /-- Steps 1 to 5 applied. -/
  steps : List Bool
  /-- Classes fitted, set by set. -/
  fitted : List (List Bool)
  resp : Option Nat
  netd : Option Nat
  newSnags : Nat
  implausible : Bool
  /-- Re-planned ALO, MLO, MHI, BLTHR; FPATHR; TMAX, TMIN. -/
  plan1 : Option (Nat × Nat × Nat × Nat)
  planFpa : Option Nat
  planT : Option (Nat × Nat)
  deriving DecidableEq, Repr

def near1 (q : F64) : Bool := ((q.sub (.ofInt 1)).abs).le (.ofFrac 5 100)

def clampNat (lo hi : Nat) (i : Int) : Nat := (clampInt lo hi i).toNat

def class0 (px : List Px) (k : Nat) : List (Nat × Px) :=
  (mapIdxFrom (fun i p => (i, p)) 0 px).filter fun e => !e.2.snag && e.2.dcls == k

/-- Step 1: per pixel the slope in counts a day and the scatter; none without three archives. -/
def step1 (cin : CruiseIn) : Option (List (F64 × F64)) :=
  if cin.archives.length < 3 then none
  else
    let ts := cin.archives.map fun a => (F64.ofFrac (a.time : Int) 86400)
    let val (a : Archive) (i : Nat) : F64 := .ofInt (toSigned 18 (a.plane.getD i 0).toNat)
    let med := (List.range 64).map fun k =>
      let c := class0 cin.px k
      cin.archives.map fun a => (f64Median (c.map fun e => val a e.1)).getD (.fin 0 0)
    let fits := mapIdxFrom (fun i (p : Px) =>
      lineFit ts (List.zipWith (fun a m => (val a i).sub m) cin.archives (med.getD p.dcls []))) 0 cin.px
    if fits.any (·.isNone) then none else some (fits.filterMap id)

/-- The pair of archives of step 2, the warmer shutter first. -/
def archivePair (cin : CruiseIn) : Option (Archive × Archive) :=
  let as := cin.archives.filter fun a => a.set == cin.set
  let pairs := (as.map fun a => as.map fun b => (a, b)).flatten
  let best := pairs.foldl (fun (o : Option (Archive × Archive)) p =>
    let d (q : Archive × Archive) : Int := (q.1.tsh.toNat : Int) - q.2.tsh.toNat
    match o with
    | none => some p
    | some q => if d q < d p then some p else some q) none
  match best with
  | some p => if 3 * 512 ≤ (p.1.tsh.toNat : Int) - p.2.tsh.toNat then some p else none
  | none => none

/-- R189 to R191. -/
def runCruise (cin : CruiseIn) : CruiseOut :=
  let s := cin.set
  let cv : Curve := cin.curves.getD s ⟨0, 0, 0, 0, 0, 0⟩
  let n0 := cin.px.length
  -- step 3, whose coefficients step 2 uses
  let f3 := (List.range 4).map (step3 cin)
  let upd (old : List (List Int)) (pick : Int × Int × F64 × F64 × F64 → Int) : List (List Int) :=
    List.zipWith (fun fs os => List.zipWith (fun (f : Option (Int × Int × F64 × F64 × F64)) o =>
      match f with | some e => pick e | none => o) fs.1 os) f3 old
  let fits := (f3.getD s ([], false)).1
  let coef (k : Nat) : F64 × F64 :=
    match (fits[k]?).join with
    | some e => (e.2.2.1, e.2.2.2.1)
    | none => (.ofFrac ((cin.a1.getD s []).getD k 0) 1024, .ofFrac ((cin.a2.getD s []).getD k 0) 65536)
  -- step 1
  let s1 := step1 cin
  let good := (mapIdxFrom (fun i (p : Px) => (i, p)) 0 cin.px).filter fun e => !e.2.snag
  let rho := s1.map fun l => good.map fun e => ((l.getD e.1 (.fin 0 0, .fin 0 0)).1).abs
  let sig := s1.map fun l => good.map fun e => (l.getD e.1 (.fin 0 0, .fin 0 0)).2
  let sigMed := (sig.map f64Median).join
  -- step 2
  let pair := archivePair cin
  let gts := cin.gt.getD s []
  let dOfs (p : Archive × Archive) (i : Nat) : Int :=
    toSigned 18 (p.1.plane.getD i 0).toNat - toSigned 18 (p.2.plane.getD i 0).toNat
  let gnd (p : Archive × Archive) (e : Nat × Px) : F64 := .ofInt (e.2.gn.toNat * dOfs p e.1)
  let qs : List (Option F64) := match pair with
    | none => List.replicate 64 none
    | some p => (List.range 64).map fun k =>
      let x := F64.ofFrac ((p.1.fpa.toNat : Int) - p.2.fpa.toNat) 512
      let (a1, a2) := coef k
      let e := ((cv.w (.ofInt p.1.tsh.toNat)).sub (cv.w (.ofInt p.2.tsh.toNat))).sub
        ((a1.mul x).add (a2.mul (x.mul x)))
      match f64Median ((class0 cin.px k).map fun c =>
          F64.ofFrac ((gts.getD k 0x10000 : Nat) * 2 * (c.2.gn.toNat : Int) * dOfs p c.1) (2 ^ 32)) with
      | some m => if (F64.ofInt 256).le e.abs then some (m.div e) else none
      | none => none
  let ratio (e : Nat × Px) : Option F64 := match pair with
    | none => none
    | some p =>
      match f64Median ((class0 cin.px e.2.dcls).map (gnd p)) with
      | some m => if m.isZero then none else some ((gnd p e).div m)
      | none => none
  let newGt := mapIdxFrom (fun k g => match (qs[k]?).join with
    | some q => if near1 q then clampNat 0 262143 ((F64.ofInt (g : Nat)).div q).round else g
    | none => g) 0 gts
  let rejGt := qs.any fun q => match q with | some q => !near1 q | none => false
  -- step 4
  let bad (e : Nat × Px) : Bool :=
    (match s1, sigMed with
     | some l, some m =>
       let r := l.getD e.1 (.fin 0 0, .fin 0 0)
       (F64.ofInt 64).lt r.1.abs || ((F64.ofInt 4).mul m).lt r.2
     | _, _ => false) ||
    (match ratio e with | some r => !near1 r | none => false)
  let cand := if s1.isSome then (good.filter bad).map (·.1) else []
  let tooMany := decide (n0 < 64 * cand.length)
  let snags := if tooMany then [] else cand
  let px := mapIdxFrom (fun i (p : Px) =>
    let p1 := if p.snag then p
      else match ratio (i, p) with
        | some r => if near1 r then
            { p with gn := BitVec.ofNat 18 (clampNat 0 262143 ((F64.ofInt p.gn.toNat).div r).round) } else p
        | none => p
    if memNat i snags then { p1 with map := p1.map ||| BitVec.ofNat 18 (2 ^ 16) } else p1) 0 cin.px
  -- step 5
  let gtMean := (F64.ofInt ((gts.foldl (· + ·) 0 : Nat) : Int)).div (.ofInt 64)
  let unit := ((F64.ofInt 2).mul (cin.gnMean.div (.ofInt 65536))).mul (gtMean.div (.ofInt 65536))
  let sPrime := cv.wPrime (.ofInt 300)
  let nK : Option F64 := sigMed.map fun m => ((m.mul (F64.ofInt cin.navg).sqrt).mul unit).div sPrime
  let nt := F64.ofFrac cin.netdt 1000
  let plan1 := if !cin.replan then none else nK.map fun n =>
    let r := nt.div n
    let alo := clampNat 16 256 (((F64.ofInt 512).mul (r.mul r)).roundSat 0 1000000)
    let mlo := clampNat 16 4096 (((F64.ofInt 1536).mul n).roundSat 0 1000000)
    (alo, mlo, clampNat (mlo + 1) 65535 (4 * mlo), clampNat 8 255 ((((F64.ofInt 3).mul n).mul sPrime).roundSat 0 1000000))
  let fitted := fits.filterMap id
  let xs := (cin.samples.filter (fun d => d.set == s)).map fun d => F64.ofFrac d.x 512
  let rms (l : List F64) : F64 := ((f64Sum (l.map fun x => x.mul x)).div (.ofInt (l.length : Int))).sqrt
  let planFpa := if !cin.replan || fitted.isEmpty then none else
    let ed := (rms (fitted.map (·.2.2.2.2))).div sPrime
    some (clampNat 256 16383 (((((F64.ofInt 512).mul (rms xs)).mul nt).div ed).roundSat 0 1000000))
  let planT := if !cin.replan then none else (rho.map f64Median).join.map fun u0 =>
    let u := (u0.mul unit).div sPrime
    let tmax := clampNat 600 14400 ((((F64.ofInt 86400).mul nt).div u).roundSat 0 1000000)
    (tmax, clampNat 10 600 ((tmax * 2 + 32) / 64 : Nat))
  { px := px
    gt := cin.gt.set s newGt
    a1 := upd cin.a1 (·.1)
    a2 := upd cin.a2 (·.2.1)
    steps := [s1.isSome, pair.isSome && !rejGt, f3.any (fun f => f.1.any (·.isSome)), s1.isSome && !tooMany, nK.isSome]
    fitted := f3.map fun f => f.1.map (·.isSome)
    resp := (f64Median (qs.filterMap id)).map fun q => clampNat 0 262143 ((q.mul (.ofInt 65536)).roundSat 0 262143)
    netd := nK.map fun n => clampNat 0 262143 ((n.mul (.ofInt 1000)).roundSat 0 262143)
    newSnags := snags.length
    implausible := rejGt || f3.any (·.2) || tooMany
    plan1 := plan1
    planFpa := planFpa
    planT := planT }

end Sys2Proof.Machine
end

