-- ==== Sys2Proof/Machine/PlaneCoder.lean ====
section
/-! DEFINITION. The plane coder (R368, R369): header, blocks, predictors, residual codes, trailer. -/

namespace Sys2Proof.Machine
open Sys2Proof

/-- A plane's format and samples, line after line. -/
structure Plane where
  kind : Nat
  width : Nat
  height : Nat
  bits : Nat
  signed : Bool
  pred : Nat
  blklines : Nat
  head : Nat
  set : Nat
  frame : Nat
  samples : List Nat
  deriving DecidableEq, Repr

/-- `n` bits of a number, least significant first. -/
def bitsLsb : Nat → Nat → List Bool
  | 0, _ => []
  | n + 1, v => (v % 2 == 1) :: bitsLsb n (v / 2)

/-- The number that bits spell, least significant first. -/
def ofBits : List Bool → Nat
  | [] => 0
  | b :: bs => (if b then 1 else 0) + 2 * ofBits bs

/-- Bits packed into bytes, padded with zero bits; `n` bounds the bytes. -/
def bytesOfBits : Nat → List Bool → List Byte
  | 0, _ => []
  | _ + 1, [] => []
  | n + 1, b :: bs => BitVec.ofNat 8 (ofBits ((b :: bs).take 8)) :: bytesOfBits n ((b :: bs).drop 8)

def packAll (bs : List Bool) : List Byte := bytesOfBits (bs.length + 1) bs

def bitsOfBytes (bs : List Byte) : List Bool := (bs.map (fun b => bitsLsb 8 b.toNat)).foldr (· ++ ·) []

/-- A sample as the predictors take it: signed for a SIGNED plane (R369). -/
def planeVal (signed : Bool) (bits v : Nat) : Int := if signed then toSigned bits v else v % 2 ^ bits

/-- Predictors of Table 17-5. -/
def predict (p : Nat) (a b c : Int) : Int :=
  match p with
  | 0 => 0
  | 1 => a
  | 2 => if max a b ≤ c then min a b else if c ≤ min a b then max a b else a + b - c
  | 3 => (a + b + 1) / 2
  | _ => b

/-- Residual of a sample mapped to an unsigned number (R369). -/
def residual (bits : Nat) (v p : Int) : Nat :=
  let h : Int := (2 ^ (bits - 1) : Nat)
  let e := (v - p + h) % ((2 ^ bits : Nat) : Int) - h
  if 0 ≤ e then (2 * e).toNat else (-2 * e - 1).toNat

/-- Code of a mapped residual with parameter k. -/
def residualCode (bits k m : Nat) : List Bool :=
  let q := m / 2 ^ k
  if q < 24 then List.replicate q true ++ [false] ++ bitsLsb k m
  else List.replicate 24 true ++ bitsLsb bits m

def residualLen (bits k m : Nat) : Nat := let q := m / 2 ^ k; if q < 24 then q + 1 + k else 24 + bits

/-- Mapped residuals of a line from the line above (none on line 0); `a` and `c` are the left and above-left ones. -/
def lineResiduals (signed : Bool) (bits pred : Nat) : List Nat → List Int → Bool → Option Int → Option Int → List Nat
  | [], _, _, _, _ => []
  | x :: xs, above, first, left, aboveLeft =>
    let v := planeVal signed bits x
    let abc : Int × Int × Int :=
      if first then
        (let a := left.getD 0
         (a, a, a))
      else
        (let b := above.headD 0
         (left.getD b, b, aboveLeft.getD b))
    residual bits v (predict pred abc.1 abc.2.1 abc.2.2) ::
      lineResiduals signed bits pred xs above.tail first (some v) above.head?

/-- The k from 0 to BITS that gives the fewest bits, the smaller on a tie. -/
def bestK (bits : Nat) (ms : List Nat) : Nat :=
  (List.range (bits + 1)).foldl (fun best k =>
    let cost := fun k => (ms.map (residualLen bits k)).foldl (· + ·) 0
    if cost k < cost best then k else best) 0

/-- A coded line: a 5-bit k and the line's codes. -/
def codeLine (bits : Nat) (ms : List Nat) : List Bool :=
  let k := bestK bits ms
  bitsLsb 5 k ++ (ms.map (residualCode bits k)).foldr (· ++ ·) []

/-- A list cut into lines of `w` samples; `n` lines. -/
def linesOf (w : Nat) : Nat → List Nat → List (List Nat)
  | 0, _ => []
  | n + 1, l => l.take w :: linesOf w n (l.drop w)

/-- Mapped residuals of every line. -/
def allResiduals (signed : Bool) (bits pred : Nat) : Option (List Nat) → List (List Nat) → List (List Nat)
  | _, [] => []
  | above, l :: ls =>
    lineResiduals signed bits pred l ((above.getD []).map (planeVal signed bits)) above.isNone none none ::
      allResiduals signed bits pred (some l) ls

/-- Lines of each block: BLKLINES, fewer at a flush line and at the end; `n` bounds the blocks. -/
def blockSizes (blk : Nat) (flushes : List Nat) : Nat → Nat → Nat → List Nat
  | 0, _, _ => []
  | n + 1, y, h =>
    if h ≤ y then []
    else
      let full := min blk (h - y)
      -- a FLUSH ends the block at the end of the line in progress
      let m := flushes.foldl (fun m f => if y ≤ f ∧ f + 1 - y < m then f + 1 - y else m) full
      m :: blockSizes blk flushes n (y + m) h

/-- A block: bytes, and whether it is stored raw. -/
def encodeBlock (bits : Nat) (lines : List (List Nat)) (res : List (List Nat)) (last : Bool) : List Byte × Bool :=
  let coded := packAll ((res.map (codeLine bits)).foldr (· ++ ·) [])
  let raw := packAll (((lines.foldr (· ++ ·) []).map (bitsLsb bits)).foldr (· ++ ·) [])
  let stored := Nat.ble raw.length coded.length
  let flag := (if stored then 1 else 0) + (if last then 2 else 0)
  ([BitVec.ofNat 8 flag] ++ leBytes 2 lines.length ++ (if stored then raw else coded), stored)

/-- Every block of a plane. -/
def encodeBlocks (bits : Nat) : List Nat → List (List Nat) → List (List Nat) → List Byte × Bool
  | [], _, _ => ([], false)
  | n :: ns, ls, rs =>
    let b := encodeBlock bits (ls.take n) (rs.take n) ns.isEmpty
    let r := encodeBlocks bits ns (ls.drop n) (rs.drop n)
    (b.1 ++ r.1, b.2 || r.2)

/-- The trailer: CRC-32 of the samples, three bytes each (R368). -/
def sampleCrc (p : Plane) : Nat :=
  (crc32 ((p.samples.map (fun v =>
    leBytes 3 (if p.signed then ofSigned 18 (toSigned p.bits v) else v % 2 ^ p.bits))).foldr (· ++ ·) [])).toNat

/-- The 24-byte header (Table 17-4). -/
def planeHeader (p : Plane) : List Byte :=
  let h := [0x50#8, 0x43#8, 0x01#8, BitVec.ofNat 8 p.kind] ++ leBytes 2 p.width ++ leBytes 2 p.height ++
    [BitVec.ofNat 8 (p.bits + if p.signed then 32 else 0), BitVec.ofNat 8 p.pred, BitVec.ofNat 8 p.blklines,
     BitVec.ofNat 8 (p.head + 4 * p.set)] ++ leBytes 5 (p.frame % 2 ^ 36) ++ [0#8, 0#8, 0#8]
  h ++ leBytes 4 (crc32 h).toNat

/-- A plane as a stream, and whether a block is stored raw. -/
def encodePlane (p : Plane) (flushes : List Nat) : List Byte × Bool :=
  let ls := linesOf p.width p.height p.samples
  let rs := allResiduals p.signed p.bits p.pred none ls
  let b := encodeBlocks p.bits (blockSizes p.blklines flushes p.height 0 p.height) ls rs
  (planeHeader p ++ b.1 ++ leBytes 4 (sampleCrc p), b.2)

/-! ### Decoding -/

/-- Leading ones, at most 24, and what follows. -/
def takeOnes : Nat → List Bool → Nat → Option (Nat × List Bool)
  | 0, bs, n => some (n, bs)
  | _ + 1, [], _ => none
  | f + 1, b :: bs, n => if b then takeOnes f bs (n + 1) else some (n, bs)

/-- `n` bits taken from the front. -/
def takeBits (n : Nat) (bs : List Bool) : Option (Nat × List Bool) :=
  if bs.length < n then none else some (ofBits (bs.take n), bs.drop n)

/-- One mapped residual. -/
def decodeResidual (bits k : Nat) (bs : List Bool) : Option (Nat × List Bool) :=
  match takeOnes 24 bs 0 with
  | none => none
  | some (q, rest) =>
    if q < 24 then (takeBits k rest).map (fun r => (q * 2 ^ k + r.1, r.2)) else takeBits bits rest

/-- The sample that a mapped residual and its prediction give (R369). -/
def decodeSample (signed : Bool) (bits m : Nat) (p : Int) : Int :=
  let e : Int := if m % 2 = 0 then ((m / 2 : Nat) : Int) else -(((m + 1) / 2 : Nat) : Int)
  let u := ((p + e) % ((2 ^ bits : Nat) : Int)).toNat
  planeVal signed bits u

/-- `n` samples of a coded line. -/
def decodeLine (signed : Bool) (bits pred k : Nat) : Nat → List Int → Bool → Option Int → Option Int → List Bool →
    Option (List Int × List Bool)
  | 0, _, _, _, _, bs => some ([], bs)
  | n + 1, above, first, left, aboveLeft, bs =>
    match decodeResidual bits k bs with
    | none => none
    | some (m, rest) =>
      let abc : Int × Int × Int :=
        if first then
          (let a := left.getD 0
           (a, a, a))
        else
          (let b := above.headD 0
           (left.getD b, b, aboveLeft.getD b))
      let v := decodeSample signed bits m (predict pred abc.1 abc.2.1 abc.2.2)
      (decodeLine signed bits pred k n above.tail first (some v) above.head? rest).map (fun r => (v :: r.1, r.2))

/-- `n` lines of a coded block; the line above comes first. -/
def decodeLines (signed : Bool) (bits pred w : Nat) : Nat → Option (List Int) → List Bool →
    Option (List (List Int) × List Bool)
  | 0, _, bs => some ([], bs)
  | n + 1, above, bs =>
    match takeBits 5 bs with
    | none => none
    | some (k, rest) =>
      if bits < k then none
      else match decodeLine signed bits pred k w (above.getD []) above.isNone none none rest with
        | none => none
        | some (l, rest) => (decodeLines signed bits pred w n (some l) rest).map (fun r => (l :: r.1, r.2))

/-- `n` raw samples. -/
def decodeRaw (signed : Bool) (bits : Nat) : Nat → List Bool → Option (List Int × List Bool)
  | 0, bs => some ([], bs)
  | n + 1, bs =>
    match takeBits bits bs with
    | none => none
    | some (u, rest) => (decodeRaw signed bits n rest).map (fun r => (planeVal signed bits u :: r.1, r.2))

/-- Lines of signed samples from a flat list. -/
def intLines (w : Nat) : Nat → List Int → List (List Int)
  | 0, _ => []
  | n + 1, l => l.take w :: intLines w n (l.drop w)

/-- The blocks of a stream from line `y` on: lines, and the bytes left after the last block. An error gives the offset of
the failing block, counted in bytes from `off`. -/
def decodeBlocks (signed : Bool) (bits pred w h blk : Nat) : Nat → Nat → Option (List Int) → Nat → List Byte →
    Except Nat (List (List Int) × Nat × List Byte)
  | 0, _, _, off, _ => .error off
  | fuel + 1, y, above, off, bs =>
    match bs with
    | f :: n0 :: n1 :: rest =>
      let n := n0.toNat + 256 * n1.toNat
      if 4 ≤ f.toNat ∨ n = 0 ∨ blk < n ∨ h < y + n then .error off
      else
        let bits0 := bitsOfBytes rest
        let r : Option (List (List Int) × List Bool) :=
          if f.toNat % 2 = 1 then (decodeRaw signed bits (n * w) bits0).map (fun r => (intLines w n r.1, r.2))
          else decodeLines signed bits pred w n above bits0
        match r with
        | none => .error off
        | some (ls, left) =>
          let used := (bits0.length - left.length + 7) / 8
          let rest := rest.drop used
          let off' := off + 3 + used
          if 2 ≤ f.toNat then
            (if y + n = h then .ok (ls, off', rest) else .error off)
          else match decodeBlocks signed bits pred w h blk fuel (y + n) ls.getLast? off' rest with
            | .ok (ms, o, t) => .ok (ls ++ ms, o, t)
            | .error e => .error e
    | _ => .error off

/-- A stream decoded: the plane (samples as the words of its encoding) and the bytes left; an error gives the offset. -/
def decodePlane (bs : List Byte) : Except Nat (Plane × Nat × List Byte) :=
  let h := bs.take 24
  let b := fun (i : Nat) => (h.getD i 0).toNat
  let bits := b 8 % 32
  let signed := b 8 / 32 % 2 == 1
  let w := leNat (slice h 4 2)
  let ht := leNat (slice h 6 2)
  if h.length < 24 ∨ h.take 3 ≠ [0x50#8, 0x43#8, 0x01#8] ∨ (crc32 (h.take 20)).toNat ≠ leNat (h.drop 20) ∨
      slice h 17 3 ≠ [0#8, 0#8, 0#8] ∨ 64 ≤ b 8 ∨ 5 ≤ b 9 ∨ 16 ≤ b 11 ∨ 16 ≤ b 16 ∨ bits = 0 ∨ 18 < bits ∨ 8 ≤ b 3 ∨
      w = 0 ∨ ht = 0 ∨ b 10 = 0 then .error 0
  else
    match decodeBlocks signed bits (b 9) w ht (b 10) (ht + 1) 0 none 24 (bs.drop 24) with
    | .error e => .error e
    | .ok (ls, off, rest) =>
      let p : Plane :=
        { kind := b 3, width := w, height := ht, bits := bits, signed := signed, pred := b 9, blklines := b 10,
          head := b 11 % 4, set := b 11 / 4, frame := leNat (slice h 12 5),
          samples := (ls.foldr (· ++ ·) []).map (fun v => ofSigned 18 v) }
      let q := { p with samples := (ls.foldr (· ++ ·) []).map (fun v => ofSigned bits v) }
      if rest.length < 4 ∨ leNat (rest.take 4) ≠ sampleCrc q then .error off
      else .ok (p, off + 4, rest.drop 4)

end Sys2Proof.Machine
end

