-- ==== Sys2Proof/Machine/Inflate.lean ====
section
/-! DEFINITION. DEFLATE decoding (R366; RFC 1951, which R366 names): stored, fixed and dynamic blocks, and the errors that
end a job. -/

namespace Sys2Proof.Machine
open Sys2Proof

/-- A canonical code: for each length 1 to 15 the number of codes, and the symbols in code order. -/
structure Huff where
  counts : List Nat
  syms : List Nat
  deriving DecidableEq, Repr

/-- Symbols of a length, in order. -/
def symsOfLen (lens : List Nat) (n : Nat) : List Nat :=
  (List.range lens.length).filter (fun i => lens.getD i 0 == n)

/-- The canonical code of code lengths. -/
def huffOf (lens : List Nat) : Huff :=
  let ls := (List.range 15).map (fun i => symsOfLen lens (i + 1))
  { counts := ls.map List.length, syms := ls.foldr (· ++ ·) [] }

/-- Code space left over, in units of 2^-15; none when over-subscribed. -/
def huffLeft : List Nat → Nat → Option Nat
  | [], left => some left
  | c :: cs, left => if left * 2 < c then none else huffLeft cs (left * 2 - c)

/-- A code that is complete, or (where allowed) has no code or the single one of one bit. -/
def huffOk (h : Huff) (single : Bool) : Bool :=
  match huffLeft h.counts 1 with
  | some 0 => true
  | some _ => single && Nat.ble h.syms.length 1 && (h.syms.isEmpty || h.counts.headD 0 == 1)
  | none => false

/-- One symbol read bit by bit; none for a code that is not assigned or at the end of the input. -/
def huffRead (syms : List Nat) : List Nat → Nat → Nat → Nat → List Bool → Option (Nat × List Bool)
  | [], _, _, _, _ => none
  | _, _, _, _, [] => none
  | c :: cs, code, first, index, b :: bs =>
    let code := code + (if b then 1 else 0)
    if code < first + c then (syms[index + (code - first)]?).map (fun y => (y, bs))
    else huffRead syms cs (2 * code) (2 * (first + c)) (index + c) bs

def Huff.read (h : Huff) (bs : List Bool) : Option (Nat × List Bool) := huffRead h.syms h.counts 0 0 0 bs

/-- Base and extra bits of length code 257 + i. -/
def lenBase : List (Nat × Nat) :=
  [(3, 0), (4, 0), (5, 0), (6, 0), (7, 0), (8, 0), (9, 0), (10, 0), (11, 1), (13, 1), (15, 1), (17, 1), (19, 2), (23, 2),
   (27, 2), (31, 2), (35, 3), (43, 3), (51, 3), (59, 3), (67, 4), (83, 4), (99, 4), (115, 4), (131, 5), (163, 5),
   (195, 5), (227, 5), (258, 0)]

/-- Base and extra bits of distance code i. -/
def distBase : List (Nat × Nat) :=
  [(1, 0), (2, 0), (3, 0), (4, 0), (5, 1), (7, 1), (9, 2), (13, 2), (17, 3), (25, 3), (33, 4), (49, 4), (65, 5), (97, 5),
   (129, 6), (193, 6), (257, 7), (385, 7), (513, 8), (769, 8), (1025, 9), (1537, 9), (2049, 10), (3073, 10),
   (4097, 11), (6145, 11), (8193, 12), (12289, 12), (16385, 13), (24577, 13)]

/-- A copy of `n` bytes from distance `d`, onto an output held last byte first. -/
def copyBack : Nat → Nat → List Byte → List Byte
  | 0, _, out => out
  | n + 1, d, out => copyBack n d (out.getD (d - 1) 0 :: out)

/-- How a block's symbols end: at its end (what follows, output, literals and lengths read), in an error, or before a symbol whose
output would pass the capacity (bits left). -/
inductive SymRes where
  | ended (bs : List Bool) (out : List Byte) (n : Nat)
  | bad
  | full (left : Nat)
  deriving DecidableEq, Repr

/-- The symbols of a block until its end, at most `cap` bytes of output; the output is held last byte first. -/
def inflateSyms (lit dist : Huff) (cap : Nat) : Nat → List Bool → List Byte → Nat → SymRes
  | 0, _, _, _ => .bad
  | fuel + 1, bs0, out, n =>
    match lit.read bs0 with
    | none => .bad
    | some (y, bs) =>
      if y = 256 then .ended bs out n
      else if y < 256 then
        (if cap ≤ out.length then .full bs0.length else inflateSyms lit dist cap fuel bs (BitVec.ofNat 8 y :: out) (n + 1))
      else match lenBase[y - 257]? with
        | none => .bad
        | some (base, extra) =>
          match takeBits extra bs with
          | none => .bad
          | some (x, bs) =>
            match dist.read bs with
            | none => .bad
            | some (dy, bs) =>
              match distBase[dy]? with
              | none => .bad
              | some (dbase, dextra) =>
                match takeBits dextra bs with
                | none => .bad
                | some (dx, bs) =>
                  let d := dbase + dx
                  if out.length < d then .bad
                  else if cap < out.length + (base + x) then .full bs0.length
                  else inflateSyms lit dist cap fuel bs (copyBack (base + x) d out) (n + 1)

/-- The fixed codes. -/
def fixedLit : Huff :=
  huffOf (List.replicate 144 8 ++ List.replicate 112 9 ++ List.replicate 24 7 ++ List.replicate 8 8)
def fixedDist : Huff := huffOf (List.replicate 30 5)

/-- Order of the code length codes. -/
def clOrder : List Nat := [16, 17, 18, 0, 8, 7, 9, 6, 10, 5, 11, 4, 12, 3, 13, 2, 14, 1, 15]

/-- `n` code lengths of 3 bits. -/
def readCl : Nat → List Bool → Option (List Nat × List Bool)
  | 0, bs => some ([], bs)
  | n + 1, bs =>
    match takeBits 3 bs with
    | none => none
    | some (v, bs) => (readCl n bs).map (fun r => (v :: r.1, r.2))

/-- `want` code lengths by the code length code; held last first. -/
def readLens (cl : Huff) (want : Nat) : Nat → List Bool → List Nat → Option (List Nat × List Bool)
  | 0, _, _ => none
  | fuel + 1, bs, acc =>
    if want ≤ acc.length then (if acc.length = want then some (acc.reverse, bs) else none)
    else match cl.read bs with
      | none => none
      | some (y, bs) =>
        if y < 16 then readLens cl want fuel bs (y :: acc)
        else
          let spec : Nat × Nat × Nat :=
            if y = 16 then (2, 3, acc.headD 0) else if y = 17 then (3, 3, 0) else (7, 11, 0)
          if y = 16 ∧ acc.isEmpty then none
          else match takeBits spec.1 bs with
            | none => none
            | some (x, bs) => readLens cl want fuel bs (List.replicate (spec.2.1 + x) spec.2.2 ++ acc)

/-- The codes of a dynamic block. -/
def readDynamic (bs : List Bool) : Option (Huff × Huff × List Bool) :=
  match takeBits 5 bs with
  | none => none
  | some (hlit, bs) =>
    match takeBits 5 bs with
    | none => none
    | some (hdist, bs) =>
      match takeBits 4 bs with
      | none => none
      | some (hclen, bs) =>
        match readCl (hclen + 4) bs with
        | none => none
        | some (vals, bs) =>
          let lens := (List.range 19).map (fun i =>
            match clOrder.findIdx? (· == i) with
            | some j => vals.getD j 0
            | none => 0)
          let cl := huffOf lens
          if !huffOk cl false ∨ 29 < hlit ∨ 29 < hdist then none
          else
            let nl := hlit + 257
            match readLens cl (nl + hdist + 1) (nl + hdist + 2) bs [] with
            | none => none
            | some (ls, bs) =>
              let lit := huffOf (ls.take nl)
              let dist := huffOf (ls.drop nl)
              if ls.getD 256 0 = 0 ∨ !huffOk lit false ∨ !huffOk dist true then none else some (lit, dist, bs)

/-- Outcome of a decode: the output, the bytes consumed and whether a block held stored bytes; or the offset of the failing
block; or the offset reached where the output would pass its capacity. -/
inductive InflateRes where
  | ok (out : List Byte) (used : Nat) (stored : Bool)
  | bad (off : Nat)
  | full (off : Nat)
  deriving DecidableEq, Repr

/-- A block as the decoder met it: stored or coded, its stored bytes or its literal and length symbols, and the length of the
output at its end. -/
structure InflBlk where
  stored : Bool
  n : Nat
  upto : Nat
  deriving DecidableEq, Repr

/-- Blocks until the final one; `total` is the input's length in bits, the output is held last byte first. -/
def inflateBlocks (total cap : Nat) : Nat → List Bool → List Byte → List InflBlk → InflateRes × List InflBlk
  | 0, bs, _, log => (.bad ((total - bs.length) / 8), log)
  | fuel + 1, bs, out, log =>
    let here := (total - bs.length) / 8
    match bs with
    | final :: t0 :: t1 :: rest =>
      let r : SymRes :=
        match t0, t1 with
        | false, false =>
          -- stored: the rest of the byte is skipped, then LEN and NLEN
          (let rest := rest.drop (rest.length % 8)
           match takeBits 16 rest with
           | none => .bad
           | some (n, rest) =>
             match takeBits 16 rest with
             | none => .bad
             | some (m, rest) =>
               if n + m ≠ 65535 ∨ rest.length < 8 * n then .bad
               else if cap < out.length + n then .full (rest.length - 8 * (cap - out.length))
               else .ended (rest.drop (8 * n)) ((bytesOfBits n (rest.take (8 * n))).reverse ++ out) n)
        | true, false => inflateSyms fixedLit fixedDist cap rest.length rest out 0
        | false, true =>
          (match readDynamic rest with
           | none => .bad
           | some (lit, dist, rest) => inflateSyms lit dist cap rest.length rest out 0)
        | true, true => .bad
      match r with
      | .bad => (.bad here, log)
      | .full left => (.full ((total - left) / 8), log)
      | .ended bs out n =>
        let log := log ++ [{ stored := !t0 && !t1, n := n, upto := out.length }]
        if final then
          (.ok out.reverse ((total - bs.length + 7) / 8) (log.any (fun b => b.stored && b.n != 0)), log)
        else inflateBlocks total cap fuel bs out log
    | _ => (.bad here, log)

/-- A raw DEFLATE stream decoded into at most `cap` bytes, with the blocks met. -/
def inflateRun (bs : List Byte) (cap : Nat) : InflateRes × List InflBlk :=
  let bits := bitsOfBytes bs
  inflateBlocks bits.length cap (bits.length + 1) bits [] []

/-- A raw DEFLATE stream decoded into at most `cap` bytes. -/
def inflate (bs : List Byte) (cap : Nat) : InflateRes := (inflateRun bs cap).1

/-! ### Encoding (R367) -/

/-- The blocks of an encoder's stream of `len` bytes keep R367: a coded block ends after 16,384 symbols, at a FLUSH or at the end
of the input; after the input consumed at a FLUSH an empty stored block stands. -/
def blocksKeep (len : Nat) (flushes : List Nat) (log : List InflBlk) : Bool :=
  log.all (fun b => b.stored || b.n == 16384 || (Nat.blt b.n 16384 && (b.upto == len || memNat b.upto flushes))) &&
  flushes.all (fun f => log.any (fun b => b.stored && b.n == 0 && b.upto == f))

/-- Stored blocks of at most 65,535 bytes; the last carries BFINAL where the stream ends with them. -/
def storeAll (last : Bool) : Nat → List Byte → List Byte
  | 0, _ => []
  | n + 1, bs =>
    let part := bs.take 65535
    let rest := bs.drop 65535
    [BitVec.ofNat 8 (if rest.isEmpty && last then 1 else 0)] ++ leBytes 2 part.length ++ leBytes 2 (65535 - part.length) ++
      part ++ (if rest.isEmpty then [] else storeAll last n rest)

/-- The input in stored blocks, with an empty one at each FLUSH; `pos` bytes stand before it. -/
def storeFlushed : List Nat → Nat → List Byte → List Byte
  | [], _, bs => storeAll true (bs.length / 65535 + 1) bs
  | f :: fs, pos, bs =>
    let part := bs.take (f - pos)
    (if part.isEmpty then [] else storeAll false (part.length / 65535 + 1) part) ++ storeAll false 1 [] ++
      storeFlushed fs (pos + part.length) (bs.drop (f - pos))

end Sys2Proof.Machine
end

