-- ==== Sys2Proof/Machine/Cmp.lean ====
section
/-! DEFINITION. The compression engine (R359 to R372): submission, the queue, resident runs, the end of a job, results,
output pointers, and archive jobs of the shutter controller. -/

namespace Sys2Proof.Machine
open Sys2Proof

def fpCmp : Footprint :=
  { regs := [Blk.range .cmp, (0x5C0C, 0x5C0E), (0x5000, 0x5400), (0x1800, 0x1C00), (0x2006, 0x2007)],
    parts := [.cmp, .wram, .landing, .flash, .heads, .shut, .freeCtr] }

/-- RUN, QLEN and RUNID follow the queue; PAUSED shows a wait on the throttle level (Table 17-13). -/
def State.cmpSync (s : State) : State :=
  let run := s.cmp.running
  let s := s.wrB Reg.CMP_QSTAT_RUN run.isSome
  let s := s.wr Reg.CMP_QSTAT_QLEN (s.cmp.queue.length + if run.isSome then 1 else 0)
  let s := s.wrB Reg.CMP_QSTAT_PAUSED (!s.cmp.queue.isEmpty && s.rd Reg.THM_STAT_LEVEL != 0)
  match run with | some j => s.wr Reg.CMP_QSTAT_RUNID j.id | none => s

/-- The entry of a job, whose status is NOT_YET while it is queued or runs (Table 17-17). -/
def JobRes.fresh (id : Nat) (st : Nat) : JobRes :=
  { id := id, status := st, stored := false, bucked := false, restarts := 0, rout := 0, rin := 0, rlgen := 0 }

/-- The next ID goes to a submission: LASTID shows it, and the entries of the last 16 IDs are kept (R359, R360). -/
def State.cmpId (s : State) (st : Nat) : Nat × State :=
  let id := s.cmp.nextId
  let s := { s with cmp := { s.cmp with
    nextId := (id + 1) % 256, results := (JobRes.fresh id st :: s.cmp.results).take 16 } }
  (id, s.wr Reg.CMP_JRES_LASTID id)

/-- A job's result goes to its entry, if that one is still kept. -/
def State.cmpRecord (s : State) (r : JobRes) : State :=
  { s with cmp := { s.cmp with results := s.cmp.results.map (fun q => if q.id = r.id then r else q) } }

/-- Jobs queued or running. -/
def State.cmpDepth (s : State) : Nat := s.cmp.queue.length + (if s.cmp.running.isSome then 1 else 0)

/-- The privacy lock stopped a request (R215): counted, with its path. -/
def State.lockStop (s : State) (path : Nat) : State := (s.bump Reg.CTX_LOCKCNT).wr Reg.CTX_PRIV_LASTPATH path

/-! ### Submission (R359, R361, R362) -/

/-- The job that the staging registers spell. -/
def State.stagedJob (s : State) : Job :=
  { id := 0, op := s.rd Reg.CMP_JOP_OP, src := s.rd Reg.CMP_JOP_SRCMEM, dst := s.rd Reg.CMP_JOP_DSTMEM,
    kind := s.rd Reg.CMP_JOP_KIND, head := s.rd Reg.CMP_JOP_HEAD, flcs := s.rd Reg.CMP_JOP_FLCS,
    append := s.rdB Reg.CMP_JOP_APPEND, pred := s.rd Reg.CMP_JOP_PRED, bits := s.rd Reg.CMP_JFMT_BITS,
    signed := s.rdB Reg.CMP_JFMT_SIGNED, blklines := s.rd Reg.CMP_JFMT_BLKLINES, width := s.rd Reg.CMP_JWIDTH,
    height := s.rd Reg.CMP_JHEIGHT, jsrc := s.rdPair Reg.CMP_JSRC0 Reg.CMP_JSRC1,
    jslen := s.rdPair Reg.CMP_JSLEN0 Reg.CMP_JSLEN1, jdst := s.rdPair Reg.CMP_JDST0 Reg.CMP_JDST1,
    jdcap := s.rdPair Reg.CMP_JDCAP0 Reg.CMP_JDCAP1, archive := none, restarts := 0, bucked := false, flushes := [],
    lgen := 0, gap := false, run := none }

/-- For a resident source the head's geometry and the field's format replace the job's own (R362). -/
def State.residentFormat (s : State) (j : Job) : Job :=
  if j.op = 2 ∧ j.src = 3 then
    { j with width := s.rd (Reg.HEAD_WIDTH j.head), height := s.rd (Reg.HEAD_HEIGHT j.head), bits := 18,
             signed := j.kind == 2 }
  else j

/-- The combinations of Table 17-3. -/
def Job.combines (j : Job) : Bool :=
  match j.op with
  | 0 | 1 => j.src != 3 && j.dst != 3
  | 2 =>
    if j.src = 3 then Nat.ble 1 j.kind && Nat.ble j.kind 6 && Nat.blt j.dst 2
    else Nat.blt j.src 2 && j.kind == 0 && j.dst != 3
  | _ => j.src != 3 && (Nat.blt j.dst 2 || (j.dst == 3 && memNat j.kind [1, 2, 3, 5]))

/-- Size of a memory in its own units: words of working RAM and landing, bytes of the chip (R361). -/
def State.memSize (s : State) (mem flcs : Nat) : Nat :=
  match mem with
  | 0 => Config.wramWords
  | 1 => landingWords
  | _ => s.flashSize flcs

/-- Units of a memory that `n` units of a stream take: two bytes a word, except in flash. -/
def memUnits (mem : Nat) (bytes : Bool) (n : Nat) : Nat := if bytes && mem != 2 then (n + 1) / 2 else n

def Job.srcBytes (j : Job) : Bool := j.op != 2
def Job.dstBytes (j : Job) : Bool := j.op != 3

/-- Source units consumed: JSLEN, or the plane's WIDTH × HEIGHT samples (notes/assumptions/77). -/
def Job.srcLen (j : Job) : Nat := if j.op = 2 then max j.jslen (j.width * j.height) else j.jslen

/-- Every field in its range, the combination one of Table 17-3, no range past the end of its memory (R361, R362). -/
def State.jobFits (s : State) (j : Job) : Bool :=
  let fields := Nat.blt j.kind 8 && Nat.blt j.pred 5 && Nat.ble 1 j.bits && Nat.ble j.bits 18 && j.blklines != 0 &&
    j.width != 0 && j.height != 0
  let head := (j.src != 3 && j.dst != 3) || (s.headPresent j.head && s.headPixels j.head != 0)
  let from_ := j.src == 3 || Nat.ble (j.jsrc + memUnits j.src j.srcBytes j.srcLen) (s.memSize j.src j.flcs)
  let into := j.dst == 3 || j.append || Nat.ble (j.jdst + memUnits j.dst j.dstBytes j.jdcap) (s.memSize j.dst j.flcs)
  fields && j.combines && head && from_ && into

/-- The privacy lock stops a resident source of KIND 3, 4 or 6, and a source in the pixel store (landing) (R372). -/
def State.jobLocked (s : State) (j : Job) : Bool :=
  s.privLock && ((j.src == 3 && memNat j.kind [3, 4, 6]) || j.src == 1)

/-- The outcome of a submission in the order of Table 17-1, with the job as it is queued. -/
def State.judgeJob (s : State) : Nat × Job :=
  let j := s.residentFormat s.stagedJob
  let st := s.gate .cmp true
  (if st ≠ Status.OK then st
   else if !s.jobFits j then Status.BAD_ARG
   else if s.jobLocked j then Status.LOCKED
   else if 16 ≤ s.cmpDepth then Status.REFUSED
   else Status.OK, j)

/-- CMP_SUBMIT (R359). -/
def execCmpSubmit (s : State) : Host.Outcome State Fault Refusal :=
  let (st, j) := s.judgeJob
  done fpCmp s
    (let t :=
      if st = Status.OK then
        (let (id, t) := s.cmpId Status.NOT_YET
         { t with cmp := { t.cmp with queue := t.cmp.queue ++ [{ j with id := id }] } })
      else if st = Status.LOCKED then ((s.cmpId Status.LOCKED).2).lockStop 3
      else if st = Status.REFUSED then ((s.cmpId Status.REFUSED).2).bump Reg.CMP_REFCNT
      else s
     (t.answer .cmp 0x00C (some Reg.CMP_JRES_CSTAT) st).cmpSync)

/-- CMP_FLUSH: a FLUSH command for the job TID, which has consumed its input up to `pos` (R367, R368, Table 17-11). -/
def execCmpFlush (v : Word) (pos : Nat) (s : State) : Host.Outcome State Fault Refusal :=
  let tid := v.toNat % 256
  let st := s.gate .cmp true
  done fpCmp s
    (match st == Status.OK, s.cmp.running with
     | false, _ => s.answer .cmp 0x00C (some Reg.CMP_JRES_CSTAT) st
     | true, none => s.answer .cmp 0x00C (some Reg.CMP_JRES_CSTAT) Status.ILLEGAL_STATE
     | true, some j =>
       if j.id = tid ∧ j.op % 2 = 0 then
         (({ s with cmp := { s.cmp with
            running := some { j with bucked := true, flushes := j.flushes ++ [pos] } } }).wr Reg.CMP_JCMD_TID tid).answer .cmp
          0x00C (some Reg.CMP_JRES_CSTAT) Status.OK
       else s.answer .cmp 0x00C (some Reg.CMP_JRES_CSTAT) Status.ILLEGAL_STATE)

/-! ### The loader's use of the decoder (R360) -/

-- Stages of BOOT_RLCTL (Table 6-15).
namespace RStage
abbrev IDLE : Nat := 0
abbrev VERIFY : Nat := 1
abbrev CHECK : Nat := 2
abbrev DRAIN : Nat := 3
abbrev LOADING : Nat := 4
abbrev RESTORE : Nat := 5
end RStage

def State.rlStage (s : State) : Nat := s.rd Reg.BOOT_RLCTL_RLSTAGE

/-- The loader decodes the planes of a reload: a queued job waits (R360). -/
def State.loaderDecodes (s : State) : Bool :=
  match s.boot.reload with
  | some (t, _, _) => (t == 0x11 || t == 0x12) && (s.rlStage == RStage.LOADING || s.rlStage == RStage.RESTORE)
  | none => false

/-- CMP_JOB_START: the job at the head of the queue runs when none does and the level is below L1 (Table 17-2). A job
that writes landing counts LGEN up (R372). -/
def execCmpJobStart (s : State) : Host.Outcome State Fault Refusal :=
  done fpCmp s
    (match s.cmp.queue, s.cmp.running with
     | j :: js, none =>
       if s.works .cmp && s.rd Reg.THM_STAT_LEVEL == 0 && !s.loaderDecodes then
         let lands := j.dst == 1 || j.archive.isSome
         let t := if lands then s.wr Reg.CMP_LGEN ((s.rd Reg.CMP_LGEN + 1) % 2 ^ 18) else s
         let j := if lands then { j with lgen := t.rd Reg.CMP_LGEN } else j
         (({ t with cmp := { t.cmp with queue := js, running := some j } }).wrPair Reg.CMP_PROG0 Reg.CMP_PROG1 0).cmpSync
       else s.cmpSync
     | _, _ => s.cmpSync)

/-! ### Resident runs (R364) -/

/-- The samples of a resident field of head `h` (R364): masked pixels are 0 in KIND 3, 4 and 6. -/
def State.residentSamples (s : State) (h kind : Nat) : List Nat :=
  let px := s.px h
  match kind with
  | 1 => px.map (fun p => p.map.toNat)
  | 2 => px.map (fun p => p.ofs.toNat)
  | 3 => px.map (fun p => if p.map.getLsbD 17 then 0 else p.bkg.toNat)
  | 4 => px.map (fun p => if p.map.getLsbD 17 then 0 else p.tmp.toNat)
  | 5 => px.map (fun p => p.gn.toNat)
  | _ =>
    match s.heads[h]? with
    | none => []
    | some hd =>
      let w := s.rd (Reg.HEAD_WIDTH h)
      let slot0 := match hd.lastBurst with | some b => b.2 | none => 0
      let line := fun (y : Nat) =>
        (match (hd.ring[(slot0 + y) % hd.ring.length]?).join with
         | some sl => sl.pixels.map (fun v => v.toNat)
         | none => List.replicate w 0)
      let raw := ((List.range (s.rd (Reg.HEAD_HEIGHT h))).map line).foldr (· ++ ·) []
      List.zipWith (fun v (p : Px) => if p.map.getLsbD 17 then 0 else v) raw px

/-- The running job reads a resident field of head `h`. -/
def State.runsResident (s : State) (h : Nat) : Bool :=
  match s.cmp.running with
  | some j => j.op == 2 && j.src == 3 && j.head == h
  | none => false

/-- A gap of head `h` is open for the running job: no burst and no statistics pass of the head waits or runs (R364). -/
def State.gapOpen (s : State) (h : Nat) : Bool :=
  let mine := fun (b : Burst) => b.head == h
  let pass := fun (p : Pass) => p.head == h && !p.lapsed
  !(s.bursts.waiting.any mine || s.bursts.running.any mine) &&
    (match s.cmp.running with
     | some j => j.kind == 6 || !(s.stat.waiting.any pass || s.stat.running.any pass)
     | none => false)

/-- A gap of head `h` begins with the end of a statistics pass (`raw` false: KIND 1 to 5) or of a burst (`raw`: KIND 6): a run
that waits for it may start (R364). -/
def State.gapBegins (s : State) (h : Nat) (raw : Bool) : State :=
  match s.cmp.running with
  | some j =>
    if s.runsResident h && j.run.isNone && (j.kind == 6) == raw then
      { s with cmp := { s.cmp with running := some { j with gap := true } } }
    else s
  | none => s

/-- A burst request of head `h` ends a gap whose run has not started. -/
def State.gapEnds (s : State) (h : Nat) : State :=
  match s.cmp.running with
  | some j =>
    if s.runsResident h && j.run.isNone && j.gap then { s with cmp := { s.cmp with running := some { j with gap := false } } }
    else s
  | none => s

/-- RESIDENT_RUN_START: the running job's run opens at the start of a gap of its head. The stream header takes the frame whose pass
(KIND 1 to 5) or burst (KIND 6) opened it, and the set of that frame. -/
def execResidentRunStart (h : Fin 4) (s : State) : Host.Outcome State Fault Refusal :=
  done fpCmp s
    (match s.cmp.running, s.heads[h.val]? with
     | some j, some hd =>
       if s.runsResident h.val && j.run.isNone && j.gap && s.gapOpen h.val then
         let fr := if j.kind = 6 then hd.lastBurst.map (·.1) else hd.lastPass
         match fr with
         | some f =>
           { s with cmp := { s.cmp with running := some { j with
               gap := false
               run := some { frame := f.frame, set := f.set, samples := s.residentSamples h.val j.kind } } } }
         | none => s
       else s
     | _, _ => s)

/-- A job ends with a status that commits nothing. -/
def State.cmpFail (s : State) (j : Job) (st rin : Nat) : State :=
  let s := s.cmpRecord { id := j.id, status := st, stored := false, bucked := j.bucked, restarts := j.restarts, rout := 0,
                         rin := rin, rlgen := j.lgen }
  let s := match j.archive with
    | some _ => s.wr (Reg.SHUT_ARCH1_ASTAT j.head) st
    | none => s
  ({ s with cmp := { s.cmp with running := none } }).cmpSync

/-- The resident run of head `h` is cut short: it restarts at the next gap, or the job ends BUSY at the fourth cut
(R364). -/
def State.cutRun (s : State) (h : Nat) : State :=
  match s.cmp.running with
  | some j =>
    if s.runsResident h && j.run.isSome then
      let s := s.bump Reg.CMP_RESTART
      if j.restarts = 3 then s.cmpFail j Status.BUSY 0
      else { s with cmp := { s.cmp with running := some { j with run := none, gap := false, restarts := j.restarts + 1, flushes := [] } } }
    else s
  | none => s

/-! ### The end of a job (Table 17-2) -/

/-- The bytes of a job's source. -/
def State.jobBytes (s : State) (j : Job) : List Byte :=
  match j.src with
  | 0 => (bytesOfWords (s.wram.read j.jsrc ((j.jslen + 1) / 2))).take j.jslen
  | 1 => (bytesOfWords (s.landing.read j.jsrc ((j.jslen + 1) / 2))).take j.jslen
  | _ => (List.range j.jslen).map (fun i => s.flashByte j.flcs (j.jsrc + i))

/-- The samples of a plane encode's source. -/
def State.jobSamples (s : State) (j : Job) : List Nat :=
  match j.src with
  | 0 => (s.wram.read j.jsrc (j.width * j.height)).map (fun w => w.toNat)
  | 1 => (s.landing.read j.jsrc (j.width * j.height)).map (fun w => w.toNat)
  | _ => match j.run with | some r => r.samples | none => []

/-- Output pointer of a memory (R363). -/
def optr (mem : Nat) : Fld × Fld :=
  match mem with
  | 0 => (Reg.CMP_OPTRW0, Reg.CMP_OPTRW1)
  | 1 => (Reg.CMP_OPTRL0, Reg.CMP_OPTRL1)
  | _ => (Reg.CMP_OPTRF0, Reg.CMP_OPTRF1)

/-- Where a job's output starts: JDST, or the output pointer with APPEND. -/
def State.jobStart (s : State) (j : Job) : Nat :=
  if j.append then s.rdPair (optr j.dst).1 (optr j.dst).2 else j.jdst

/-- Words stored in working RAM or landing. -/
def State.putWords (s : State) (mem a : Nat) (ws : List Word) : State :=
  if mem = 0 then { s with wram := s.wram.putAll a ws } else { s with landing := s.landing.putAll a ws }

/-- What a failed job leaves in its destination is open (R371): free words or bytes over its range. -/
def State.scrambleDst (s : State) (j : Job) : State :=
  if j.dst = 3 then s
  else if j.dst = 2 then s.flashScramble j.flcs (s.jobStart j) j.jdcap
  else
    let k := s.freeCtr
    { s.putWords j.dst (s.jobStart j) ((List.range (memUnits j.dst j.dstBytes j.jdcap)).map
        (fun i => BitVec.ofNat 18 ((Config.freeByte k (2 * i)).toNat + 256 * (Config.freeByte k (2 * i + 1)).toNat)))
      with freeCtr := k + 1 }

/-- The input offset that an OUT_OF_SPACE job reached: open within its input. -/
def State.reached (s : State) (n : Nat) : Nat × State := let (k, s) := s.freeN; (k % (n + 1), s)

/-- A job ends OK with `n` units of output from `start` on: pointer, result and progress (R360, R363). -/
def State.cmpOk (s : State) (j : Job) (start n rin : Nat) (stored : Bool) : State :=
  let s := if j.append && j.dst != 3 then
      s.wrPair (optr j.dst).1 (optr j.dst).2 ((start + memUnits j.dst j.dstBytes n) % 2 ^ 28) else s
  let s := s.cmpRecord { id := j.id, status := Status.OK, stored := stored, bucked := j.bucked, restarts := j.restarts,
                         rout := n, rin := rin, rlgen := j.lgen }
  let s := s.wrPair Reg.CMP_PROG0 Reg.CMP_PROG1 n
  ({ s with cmp := { s.cmp with running := none } }).cmpSync

/-- A byte stream goes to its destination (R361, R371): working RAM, landing, or flash (R343, R344); `fl` says how the
programs ended: 0 well, 1 by a timeout, otherwise by a mismatch. -/
def State.commitBytes (s : State) (j : Job) (out : List Byte) (rin : Nat) (stored : Bool) (fl : Nat) : State :=
  let start := s.jobStart j
  let room := Nat.ble out.length j.jdcap &&
    Nat.ble (start + memUnits j.dst true out.length) (s.memSize j.dst j.flcs)
  if !room then
    let (r, t) := s.reached rin
    (t.scrambleDst j).cmpFail j Status.OUT_OF_SPACE r
  else if j.dst = 2 then
    if s.touchesImage j.flcs start out.length then s.cmpFail j Status.REFUSED rin
    else if fl = 1 then (s.flashScramble j.flcs start out.length).cmpFail j Status.TIMEOUT rin
    else
      let new := s.flashProgrammed j.flcs start out
      let t := s.flashStore j.flcs start new
      if s.rdB Reg.FLW_WIN_VERIFY && (fl != 0 || !decide (new = out)) then t.cmpFail j Status.CHECK_FAIL rin
      else t.cmpOk j start out.length rin stored
  else (s.putWords j.dst start (wordsOfBytes out)).cmpOk j start out.length rin stored

/-- DEFLATE encode (R367): the encoder's bytes, which are open, where they decode to the input in blocks that keep R367's rules;
stored blocks otherwise. -/
def State.deflateEnd (s : State) (j : Job) (fl : Nat) : State :=
  let input := s.jobBytes j
  let cand := Config.deflate input j.flushes
  match inflateRun cand input.length with
  | (.ok out used st, log) =>
    if out = input ∧ used = cand.length ∧ blocksKeep input.length j.flushes log then s.commitBytes j cand input.length st fl
    else s.commitBytes j (storeFlushed j.flushes 0 input) input.length (!input.isEmpty) fl
  | _ => s.commitBytes j (storeFlushed j.flushes 0 input) input.length (!input.isEmpty) fl

/-- DEFLATE decode (R366). -/
def State.inflateEnd (s : State) (j : Job) (fl : Nat) : State :=
  match inflate (s.jobBytes j) j.jdcap with
  | .ok out used stored => s.commitBytes j out used stored fl
  | .bad off => (s.scrambleDst j).cmpFail j Status.CHECK_FAIL off
  | .full off => (s.scrambleDst j).cmpFail j Status.OUT_OF_SPACE off

/-- The plane a job encodes. The header of a resident run names the frame that opened it and its set (R364); that of an archive
names frame S and the set recalibrated (R183; DEDUCED, notes/assumptions/113). -/
def State.jobPlane (s : State) (j : Job) : Plane :=
  { kind := j.kind, width := j.width, height := j.height, bits := j.bits, signed := j.signed, pred := j.pred,
    blklines := j.blklines,
    head := if j.src = 3 then j.head else 0,
    set := match j.archive, j.run with | some a, _ => a.set | none, some r => r.set | none, none => 0,
    frame := match j.archive, j.run with | some a, _ => a.start.toNat | none, some r => r.frame.toNat | none, none => 0,
    samples := s.jobSamples j }

/-- Address of the slot of an archive job, and its size in bytes (R183). -/
def State.archiveSlot (s : State) (h slot : Nat) : Nat × Nat :=
  let sz := s.rd (Reg.SHUT_ARCH1_SLOTSZ h) * 65536
  (s.rd (Reg.SHUT_ARCH0_BASE h) * 65536 + slot * sz, sz)

/-- The 16-byte slot header (R371). -/
def archiveHeader (j : Job) (a : ArchJob) (len : Nat) : List Byte :=
  let h := [0xA9#8, BitVec.ofNat 8 (j.head + 4 * a.set)] ++ leBytes 3 a.tsh.toNat ++ leBytes 3 a.fpa.toNat ++ leBytes 4 len
  h ++ leBytes 4 (crc32 h).toNat

/-- An archive job ends (R371): its stream is in landing from word 0, then in the slot, which was erased (DEDUCED,
notes/assumptions/79), and behind it the slot header. The cruise reads the plane from there (R188). -/
def State.archiveEnd (s : State) (j : Job) (a : ArchJob) (fl : Nat) : State :=
  let (out, stored) := encodePlane (s.jobPlane j) []
  let n := out.length
  let (addr, size) := s.archiveSlot j.head a.slot
  let chip := s.rd (Reg.SHUT_ARCH0_ARCHCS j.head)
  if 2 * landingWords < n ∨ size < 16 + n then
    let (r, t) := s.reached (j.width * j.height)
    t.cmpFail j Status.OUT_OF_SPACE r
  else
    let s := s.putWords 1 0 (wordsOfBytes out)
    if s.touchesImage chip addr size then s.cmpFail j Status.REFUSED (j.width * j.height)
    else if fl = 1 then (s.flashScramble chip addr size).cmpFail j Status.TIMEOUT (j.width * j.height)
    else if fl ≠ 0 ∧ s.rdB Reg.FLW_WIN_VERIFY then
      (s.flashScramble chip addr size).cmpFail j Status.CHECK_FAIL (j.width * j.height)
    else
      let erased := fun (m : List (Nat × Byte)) => m.filter (fun x => Nat.blt x.1 addr || Nat.ble (addr + size) x.1)
      let bytes := archiveHeader j a n ++ out
      let s := { s with flash := { s.flash with
        chips := vmod s.flash.chips chip (fun c => { c with mem := cellsPutAll flashBlank (erased c.mem) addr bytes }) } }
      let s := { s with shut := vmod s.shut j.head (fun sh =>
        { sh with archTimes := sh.archTimes.filter (fun (e : Nat × BitVec 36 × Nat) => e.1 != a.slot) ++ [(a.slot, a.start, a.time)] }) }
      (s.wr (Reg.SHUT_ARCH1_ASTAT j.head) Status.OK).cmpOk j 0 n (j.width * j.height) stored

/-- Plane encode (R368, R369). A failed plane job leaves no valid header behind. -/
def State.planeEnd (s : State) (j : Job) (fl : Nat) : State :=
  let (out, stored) := encodePlane (s.jobPlane j) (j.flushes.map (· / j.width))
  s.commitBytes j out (j.width * j.height) stored fl

/-- A resident field takes the samples of a stream (R365). -/
def State.putResident (s : State) (h kind : Nat) (vs : List Nat) : State :=
  let one := fun (p : Px) (v : Nat) =>
    (let w : Word := BitVec.ofNat 18 v
     match kind with
     | 1 => { p with map := w }
     | 2 => { p with ofs := w }
     | 3 => { p with bkg := w }
     | _ => { p with gn := w })
  { s with heads := vmod s.heads h (fun hd => { hd with px := List.zipWith one hd.px vs }) }

/-- Plane decode (R365, R368): to working RAM or landing as words, or into a resident field. -/
def State.unplaneEnd (s : State) (j : Job) : State :=
  match decodePlane (s.jobBytes j) with
  | .error off => (s.scrambleDst j).cmpFail j Status.CHECK_FAIL off
  | .ok (p, used, _) =>
    let n := p.width * p.height
    if j.dst = 3 then
      if s.headState j.head ≠ stDown then s.cmpFail j Status.ILLEGAL_STATE 0
      else if p.width ≠ s.rd (Reg.HEAD_WIDTH j.head) ∨ p.height ≠ s.rd (Reg.HEAD_HEIGHT j.head) ∨
          !memNat p.kind [1, 2, 3, 5] then s.cmpFail j Status.CHECK_FAIL 0
      else (s.putResident j.head p.kind p.samples).cmpOk j 0 n used false
    else
      let start := s.jobStart j
      if j.jdcap < n ∨ s.memSize j.dst j.flcs < start + n then
        let (r, t) := s.reached used
        (t.scrambleDst j).cmpFail j Status.OUT_OF_SPACE r
      else (s.putWords j.dst start (p.samples.map (fun v => BitVec.ofNat 18 v))).cmpOk j start n used false

/-- CMP_JOB_DONE: the running job ends, commits its output and records its result (Table 17-2). A job with a resident
source cannot end before its run (R364). -/
def execCmpJobDone (flash : Fin 3) (s : State) : Host.Outcome State Fault Refusal :=
  done fpCmp s
    (match s.cmp.running with
     | none => s
     | some j =>
       match j.archive with
       | some a => if j.run.isNone then s else s.archiveEnd j a flash.val
       | none =>
         match j.op with
         | 0 => s.deflateEnd j flash.val
         | 1 => s.inflateEnd j flash.val
         | 2 => if j.src = 3 ∧ j.run.isNone then s else s.planeEnd j flash.val
         | _ => s.unplaneEnd j)

/-- The engine leaves IN_SERVICE and SERVICE: every job ends DOWN with nothing committed (Table 17-2). -/
def State.cmpDown (s : State) : State :=
  let js := (match s.cmp.running with | some j => [j] | none => []) ++ s.cmp.queue
  let s := js.foldl (fun s j => s.cmpFail j Status.DOWN 0) s
  ({ s with cmp := { s.cmp with queue := [], running := none } }).cmpSync

/-! ### Result and pointer registers -/

/-- CMP_RSEL_WRITE: the entry of a job is copied into the result registers; one that is not kept reads HOLE, with what
the other result registers then hold left open (R360). -/
def execCmpRselWrite (v : Word) (s : State) : Host.Outcome State Fault Refusal :=
  let id := v.toNat % 256
  let st := s.gate .cmp false
  done fpCmp s
    (if st ≠ Status.OK then s.result .cmp 0x020 st
     else
     let s := (s.wr Reg.CMP_RSEL id).result .cmp 0x020 Status.OK
     match s.cmp.results.find? (fun r => r.id == id) with
     | some r =>
       (((((((s.wr Reg.CMP_RSTAT_STATUS r.status).wrB Reg.CMP_RSTAT_STORED r.stored).wrB Reg.CMP_RSTAT_BUCKED r.bucked).wr
         Reg.CMP_RSTAT_RESTARTS r.restarts).wr Reg.CMP_RSTAT_JOBID r.id).wrPair Reg.CMP_ROUT0 Reg.CMP_ROUT1 r.rout).wrPair
         Reg.CMP_RIN0 Reg.CMP_RIN1 r.rin).wr Reg.CMP_RLGEN r.rlgen
     | none =>
       [0x6021, 0x6022, 0x6024, 0x6026].foldl (fun s a =>
         (let (w, s) := s.freeW a
          s.wrKey a w.toNat)) s |>.wr Reg.CMP_RSTAT_STATUS Status.HOLE)

/-- CMP_OPTR_WRITE: an output pointer is written unless a job that appends to its memory is queued or runs (R363). -/
def execCmpOptrWrite (off : Fin 6) (v : Word) (s : State) : Host.Outcome State Fault Refusal :=
  let mem := off.val / 2
  let hits := fun (j : Job) => j.append && j.dst == mem
  let st := s.gate .cmp false
  let st := if st ≠ Status.OK then st
    else if s.cmp.queue.any hits || s.cmp.running.any hits then Status.ILLEGAL_STATE
    else Status.OK
  let x := if off.val % 2 = 1 then v.toNat % 1024 else v.toNat
  done fpCmp s ((if st = Status.OK then s.wrKey (0x6018 + off.val) x else s).result .cmp (0x018 + off.val) st)

/-! ### Archive jobs (R183) -/

/-- The archive ring of head `h` overlaps the extent of either image copy (R183). -/
def State.archiveOverlaps (s : State) (h : Nat) : Bool :=
  let lo := s.rd (Reg.SHUT_ARCH0_BASE h) * 65536
  let hi := lo + s.rd (Reg.SHUT_ARCH1_SLOTS h) * s.rd (Reg.SHUT_ARCH1_SLOTSZ h) * 65536
  let meets := fun (base : Nat) (x : Option Header) =>
    (match x with | some x => Nat.blt lo (base + x.total) && Nat.blt base hi | none => false)
  s.rd (Reg.SHUT_ARCH0_ARCHCS h) == 0 && (meets 0 s.boot.hdrA || meets (s.flashSize 0 / 2) s.boot.hdrB)

/-- A successful recalibration queues an archive job into the head's next slot; a job refused skips it (R183, R359). -/
def State.queueArchive (s : State) (h : Nat) (a : BitVec 36 × Nat × Word × Word) : State :=
  match s.shut[h]? with
  | none => s
  | some sh =>
    let slots := s.rd (Reg.SHUT_ARCH1_SLOTS h)
    if slots < 2 then s
    else if s.archiveOverlaps h then s.wr (Reg.SHUT_ARCH1_ASTAT h) Status.REFUSED
    else
      let slot := sh.archNext % slots
      let s := { s with shut := vmod s.shut h (fun x => { x with archNext := (slot + 1) % slots }) }
      if !s.works .cmp then s.wr (Reg.SHUT_ARCH1_ASTAT h) Status.REFUSED
      else if 16 ≤ s.cmpDepth then
        (((s.cmpId Status.REFUSED).2).bump Reg.CMP_REFCNT).wr (Reg.SHUT_ARCH1_ASTAT h) Status.REFUSED
      else
        let (id, s) := s.cmpId Status.NOT_YET
        let j := s.residentFormat { s.stagedJob with
          id := id, op := 2, src := 3, dst := 1, kind := 2, head := h, append := false, pred := 2, blklines := 16,
          archive := some { slot := slot, start := a.1, set := a.2.1, tsh := a.2.2.1, fpa := a.2.2.2, time := s.rtc.sec.toNat } }
        ({ s with cmp := { s.cmp with queue := s.cmp.queue ++ [j] } }).cmpSync

end Sys2Proof.Machine
end

