-- ==== Sys2Proof/Machine/Statistics.lean ====
section
/-! DEFINITION. The statistics pass of chapter 10 as a function: validity, sums, background, labelling, blobs, pairing
with tracks (R196 to R213), and the record words (Table 10-1). -/

namespace Sys2Proof.Machine

/-- One stand as latched at the start of a pass (R193 to R195). -/
structure StandCfg where
  n : Nat
  occen : Bool
  hlo : Nat
  hhi : Nat
  deriving DecidableEq, Repr

/-- What a pass latches (R195). `stands` lists the enabled stands of the head, rising. -/
structure PassCtx where
  width : Nat
  height : Nat
  frame : Nat
  stands : List StandCfg
  occEn : Bool
  bsh : Nat
  bper : Nat
  fgthr : Nat
  skinlo : Nat
  skinhi : Nat
  aunit : Nat
  amin : Nat
  dgate : Nat
  tlost : Nat
  seed : Bool
  deriving DecidableEq, Repr

def PassCtx.find (cx : PassCtx) (n : Nat) : Option StandCfg := cx.stands.find? (fun s => s.n == n)

/-- STAND of a pixel as statistics take it: 0 for a foreign or disabled stand (R193). -/
def PassCtx.standOf (cx : PassCtx) (p : Px) : Nat := if (cx.find p.stand).isSome then p.stand else 0

/-- R197. -/
def pxValid (p : Px) (uecc : Bool) : Bool :=
  !p.snag && p.tmp != 0 && p.tmp != BitVec.ofNat 18 0x3FFFF && !uecc

/-- R206. -/
def pxForeground (cx : PassCtx) (p : Px) (uecc : Bool) : Bool :=
  !cx.seed && pxValid p uecc && cx.occEn &&
    (match cx.find p.stand with | some s => s.occen | none => false) &&
    decide (p.bkg.toNat + cx.fgthr ≤ p.tmp.toNat) &&
    decide (cx.skinlo ≤ p.tmp.toNat ∧ p.tmp.toNat ≤ cx.skinhi)

/-- R205, R207: the new BKG of a pixel. -/
def newBkg (cx : PassCtx) (p : Px) (uecc : Bool) : Word :=
  if uecc || !pxValid p uecc then p.bkg
  else if cx.seed then p.tmp
  else if pxForeground cx p uecc || cx.frame % cx.bper ≠ 0 then p.bkg
  else
    let d : Int := (p.tmp.toNat : Int) - p.bkg.toNat
    let dl := rshr d cx.bsh
    let dl := if dl = 0 ∧ d ≠ 0 then (if d < 0 then -1 else 1) else dl
    BitVec.ofInt 18 ((p.bkg.toNat : Int) + dl)

/-- The statistics of a stand over its valid members (R198). -/
structure StandStats where
  nvalid : Nat
  mean : Nat
  min : Nat
  max : Nat
  std : Nat
  hist : List Nat
  deriving DecidableEq, Repr

/-- MEAN rule of R198. -/
def meanRule (sum n : Nat) : Nat := if n = 0 then 0 else (2 * sum + n) / (2 * n)

/-- Histogram bin of R198. -/
def histBin (hlo hhi t : Nat) : Nat :=
  if t < hlo then 0 else if hhi ≤ t then 15 else 16 * (t - hlo) / (hhi - hlo)

def standStats (s : StandCfg) (ts : List Nat) : StandStats :=
  let n := ts.length
  let sum := ts.foldl (· + ·) 0
  let sq := ts.foldl (fun a t => a + t * t) 0
  let q := n * sq - sum * sum
  { nvalid := n
    mean := meanRule sum n
    min := ts.foldl Nat.min (ts.headD 0)
    max := ts.foldl Nat.max 0
    std := if n = 0 then 0 else (isqrt (4 * q) + n) / (2 * n)
    hist := (List.range 16).map fun b =>
      Nat.min 0x3FFFF (ts.filter fun t => histBin s.hlo s.hhi t == b).length }

/-! ### Labelling (R208) -/

/-- A component under construction. Its number is the smallest of its provisional labels. -/
structure Comp where
  lab : Nat
  area : Nat
  sx : Nat
  sy : Nat
  st : Nat
  x0 : Nat
  y0 : Nat
  x1 : Nat
  y1 : Nat
  lastLine : Nat
  deriving DecidableEq, Repr

def Comp.merge (a b : Comp) : Comp :=
  { lab := Nat.min a.lab b.lab, area := a.area + b.area, sx := a.sx + b.sx, sy := a.sy + b.sy,
    st := a.st + b.st, x0 := Nat.min a.x0 b.x0, y0 := Nat.min a.y0 b.y0, x1 := Nat.max a.x1 b.x1,
    y1 := Nat.max a.y1 b.y1, lastLine := Nat.max a.lastLine b.lastLine }

/-- Labelling state: components open and closed, labels of the line above and of the line so far (newest first). -/
structure LabSt where
  next : Nat
  open' : List Comp
  closed : List Comp
  above : List (Option Nat)
  row : List (Option Nat)
  ovf : Bool
  /-- The provisional label of every pixel so far, the last one first. -/
  labels : List (Option Nat)
  deriving DecidableEq, Repr

def relabel (a b : Nat) (l : List (Option Nat)) : List (Option Nat) :=
  l.map fun o => if o = some a then some b else o

/-- Join the components `a` and `b` (both open), keeping the smaller number. -/
def LabSt.join (s : LabSt) (a b : Nat) : LabSt :=
  if a = b then s
  else
    let lo := Nat.min a b
    let hi := Nat.max a b
    match s.open'.find? (fun c => c.lab == lo), s.open'.find? (fun c => c.lab == hi) with
    | some c, some d =>
      { s with
        open' := c.merge d :: s.open'.filter (fun e => !(e.lab == lo || e.lab == hi))
        above := relabel hi lo s.above
        row := relabel hi lo s.row }
    | _, _ => s

/-- The label of one pixel of the labelling stream: foreground or not, at (x, y), with its TMP. -/
def LabSt.place (s : LabSt) (fg : Bool) (x y t : Nat) : LabSt :=
  if !fg then { s with row := none :: s.row }
  else
    let up (i : Nat) : Option Nat := (s.above.getD i none)
    let near := [s.row.headD none, if x = 0 then none else up (x - 1), up x, up (x + 1)].filterMap id
    let one : Comp := ⟨0, 1, x, y, t, x, y, x, y, y⟩
    match near with
    | [] =>
      if 4096 ≤ s.next then { s with row := none :: s.row, ovf := true }
      else { s with next := s.next + 1, open' := { one with lab := s.next } :: s.open',
                    row := some s.next :: s.row }
    | l :: ls =>
      let s := (ls.foldl (fun (a : LabSt × Nat) b => (a.1.join a.2 b, Nat.min a.2 b)) (s, l)).1
      let m := ls.foldl Nat.min l
      { s with
        open' := s.open'.map fun c => if c.lab == m then { c.merge { one with lab := m } with lab := m } else c
        row := some m :: s.row }

/-- One pixel of the stream, its label written to label scratch (R196). -/
def LabSt.pixel (s : LabSt) (fg : Bool) (x y t : Nat) : LabSt :=
  let u := s.place fg x y t
  { u with labels := u.row.headD none :: u.labels }

/-- Order of components that close at the end of one line: by their first label (DESIGN CHOICE,
notes/assumptions/22). -/
def insertComp (c : Comp) : List Comp → List Comp
  | [] => [c]
  | d :: ds => if c.lab ≤ d.lab then c :: d :: ds else d :: insertComp c ds

/-- The end of line `y`: components without a pixel on it close. -/
def LabSt.endLine (s : LabSt) (y : Nat) : LabSt :=
  let done := (s.open'.filter fun c => decide (c.lastLine < y)).foldr insertComp []
  { s with
    open' := s.open'.filter fun c => !decide (c.lastLine < y)
    closed := s.closed ++ done
    above := s.row.reverse
    row := [] }

/-- Label one line. -/
def LabSt.line (s : LabSt) (y : Nat) (l : List (Bool × Nat)) : LabSt :=
  let s := (mapIdxFrom (fun x e => (x, e)) 0 l).foldl (fun s e => s.pixel e.2.1 e.1 y e.2.2) s
  s.endLine y

/-- All components of a frame in closing order, whether labels ran out, and the label of every pixel. -/
def labelFrame (rows : List (List (Bool × Nat))) : List Comp × Bool × List (Option Nat) :=
  let s0 : LabSt := ⟨0, [], [], [], [], false, []⟩
  let s := (mapIdxFrom (fun y r => (y, r)) 0 rows).foldl (fun s e => s.line e.1 e.2) s0
  (s.closed ++ s.open'.foldr insertComp [], s.ovf, s.labels.reverse)

/-! ### Blobs and tracks (R209 to R212) -/

/-- A component as a blob (R209). -/
def blobOf (cx : PassCtx) (grid : List (List Px)) (c : Comp) : Blob :=
  let bx := (32 * c.sx + c.area) / (2 * c.area)
  let by' := (32 * c.sy + c.area) / (2 * c.area)
  let px : Px := gridAt grid ⟨0, 0, 0, 0, 0⟩ ((bx + 8) / 16) ((by' + 8) / 16)
  let st := match cx.find px.stand with | some s => if s.occen then s.n else 0 | none => 0
  { area := c.area, cx := bx, cy := by', meant := meanRule c.st c.area
    x0 := c.x0, y0 := c.y0, x1 := c.x1, y1 := c.y1, stand := st
    nocc := if cx.aunit = 0 then 1
            else Nat.min 15 (Nat.max 1 ((2 * c.area + cx.aunit) / (2 * cx.aunit)))
    track := none }

/-- A candidate pair: squared distance, track ID, blob index (R210). -/
def pairLe (a b : Nat × Nat × Nat) : Bool :=
  decide (a.1 < b.1) || (a.1 == b.1 && (decide (a.2.1 < b.2.1) || (a.2.1 == b.2.1 && decide (a.2.2 ≤ b.2.2))))

def insertPair (p : Nat × Nat × Nat) : List (Nat × Nat × Nat) → List (Nat × Nat × Nat)
  | [] => [p]
  | q :: qs => if pairLe p q then p :: q :: qs else q :: insertPair p qs

def sqDist (ax ay bx by' : Nat) : Nat :=
  let dx : Int := (ax : Int) - bx
  let dy : Int := (ay : Int) - by'
  (dx * dx + dy * dy).toNat

/-- Pairs within the gate, in the order of R210. -/
def candidatePairs (gate : Nat) (tracks : List Track) (blobs : List Blob) : List (Nat × Nat × Nat) :=
  let all := (mapIdxFrom (fun i (b : Blob) => tracks.map fun t => (sqDist t.cx t.cy b.cx b.cy, t.id, i)) 0 blobs).flatten
  (all.filter fun p => decide (p.1 ≤ gate * gate)).foldr insertPair []

/-- Greedy acceptance (R210, step 3): accepted (track ID, blob index). -/
def acceptPairs : List (Nat × Nat × Nat) → List (Nat × Nat) → List (Nat × Nat)
  | [], acc => acc
  | p :: ps, acc =>
    if acc.any (fun a => a.1 == p.2.1 || a.2 == p.2.2) then acceptPairs ps acc
    else acceptPairs ps (acc ++ [(p.2.1, p.2.2)])

/-- The first free ID after `last`, round robin over 0 to 127 (R211). -/
def freeId (used : List Nat) (last : Nat) : Nat → Option Nat
  | 0 => none
  | k + 1 =>
    let i := (last + (128 - k)) % 128
    if memNat i used then freeId used last k else some i

structure TrackOut where
  blobs : List Blob
  tracks : List Track
  lastId : Nat
  /-- Blobs without a track. -/
  dropped : Nat
  deriving DecidableEq, Repr

/-- Give each blob its track (R211), in blob order. -/
def assignBlobs (pairs : List (Nat × Nat)) : Nat → List Blob → TrackOut → TrackOut
  | _, [], o => o
  | i, b :: bs, o =>
    match pairs.find? (fun p => p.2 == i) with
    | some p =>
      let upd (t : Track) : Track :=
        if t.id = p.1 then
          { t with cx := b.cx, cy := b.cy, misses := 0, stand := b.stand,
                   dwell := if t.stand = b.stand then t.dwell + 1 else 0 }
        else t
      let tr := o.tracks.map upd
      let dw := ((tr.find? fun t => t.id == p.1).map (·.dwell)).getD 0
      assignBlobs pairs (i + 1) bs
        { o with tracks := tr, blobs := o.blobs ++ [{ b with track := some (p.1, false, dw) }] }
    | none =>
      match freeId (o.tracks.map (·.id)) o.lastId 128 with
      | some id =>
        assignBlobs pairs (i + 1) bs
          { o with tracks := o.tracks ++ [⟨id, b.cx, b.cy, b.stand, 0, 0⟩], lastId := id,
                   blobs := o.blobs ++ [{ b with track := some (id, true, 0) }] }
      | none => assignBlobs pairs (i + 1) bs { o with blobs := o.blobs ++ [b], dropped := o.dropped + 1 }

/-- TRACK_PAIRING (R210, R211): `g` is the number of frame numbers since the last processed frame. -/
def pairTracks (cx : PassCtx) (g : Nat) (tracks : List Track) (lastId : Nat) (blobs : List Blob) : TrackOut :=
  let gate := 16 * cx.dgate * Nat.min 8 g
  let pairs := acceptPairs (candidatePairs gate tracks blobs) []
  let missed := tracks.filterMap fun t =>
    if pairs.any (fun p => p.1 == t.id) then some t
    else if cx.tlost ≤ t.misses + 1 then none
    else some { t with misses := t.misses + 1 }
  assignBlobs pairs 0 blobs ⟨[], missed, lastId, 0⟩

/-- OCC of a stand (R212). -/
def occOf (blobs : List Blob) (st : Nat) : Nat :=
  Nat.min 255 ((blobs.filter fun b => b.stand == st).foldl (fun a b => a + b.nocc) 0)

/-- R213: the stand's occupancy after a processed frame. -/
def occStep (vachold occ : Nat) (frame : BitVec 36) (o : StandOcc) : StandOcc :=
  if 0 < occ then ⟨some (o.since.getD frame), 0⟩
  else
    match o.since with
    | none => ⟨none, 0⟩
    | some f => if vachold ≤ o.zeros + 1 then ⟨none, 0⟩ else ⟨some f, o.zeros + 1⟩

/-- DWELL of R213: floor((F − F_occ) × N / ST rate), saturating. -/
def dwellOf (o : StandOcc) (frame : BitVec 36) (n stinc : Nat) : Nat :=
  match o.since with
  | none => 0
  | some f =>
    if stinc = 0 then 0
    else Nat.min 0x3FFFF (((frame - f).toNat * n * 2 ^ 40) / (25000000 * stinc))

/-! ### The record (Table 10-1) -/

def w18 (n : Nat) : Word := BitVec.ofNat 18 n

/-- Words 0 to 4 of a record. -/
def recHead (head set stand status occ : Nat) (uecc : Bool) (frame : BitVec 36) (gen : BitVec 18) : List Word :=
  [w18 (head * 2 ^ 16 + set * 2 ^ 14 + stand),
   w18 (status * 2 ^ 13 + (if uecc then 2 ^ 12 else 0) + occ),
   w18 frame.toNat, w18 (frame.toNat / 2 ^ 18), gen]

/-- A record with values (STATUS OK or LONG_FRAME). -/
def recFull (head set stand status occ : Nat) (uecc : Bool) (frame : BitVec 36) (gen : BitVec 18) (v : StandStats)
    (dwell : Nat) : List Word :=
  recHead head set stand status occ uecc frame gen ++
    [w18 v.nvalid, w18 (v.nvalid / 2 ^ 18), w18 v.mean, w18 v.min, w18 v.max, w18 v.std] ++
    v.hist.map w18 ++ [w18 dwell]

/-- A record without values (R199). -/
def recEmpty (head set stand status : Nat) (frame : BitVec 36) (gen : BitVec 18) : List Word :=
  recHead head set stand status 0 false frame gen ++ List.replicate 23 0

/-- A blob record (Table 10-3). -/
def blobWords (i : Nat) (b : Blob) : List Word :=
  let t := b.track
  [w18 ((if t.isSome then 2 ^ 17 else 0) + (match t with | some (_, true, _) => 2 ^ 16 | _ => 0) +
      (match t with | some (id, _, _) => id * 2 ^ 9 | none => 0) + i),
   w18 (b.nocc * 2 ^ 14 + b.stand), w18 b.cx, w18 b.cy, w18 (Nat.min 0x3FFFF b.area), w18 b.meant,
   w18 b.x0, w18 b.y0, w18 b.x1, w18 b.y1,
   w18 (match t with | some (_, _, d) => Nat.min 0x3FFFF d | none => 0)]

/-! ### A whole pass -/

structure PassOut where
  px : List Px
  /-- Per enabled stand: its number, statistics, and whether a member was excluded for an error. -/
  stats : List (Nat × StandStats × Bool)
  comps : List Comp
  lblovf : Bool
  /-- Label scratch (R196). -/
  labels : List Word
  foreign : Nat
  uecc : Nat
  deriving DecidableEq, Repr

/-- R196 to R198, R206 to R208. -/
def runPass (cx : PassCtx) (px : List Px) (uecc : List Nat) : PassOut :=
  let ps := mapIdxFrom (fun i p => (p, memNat i uecc)) 0 px
  let fgRows := (rowsOfList cx.width cx.height ps).map (·.map fun e => (pxForeground cx e.1 e.2, e.1.tmp.toNat))
  let (comps, ovf, labels) := labelFrame fgRows
  { px := ps.map fun e => { e.1 with bkg := newBkg cx e.1 e.2 }
    stats := cx.stands.map fun s =>
      let mem := ps.filter fun e => e.1.stand == s.n
      (s.n, standStats s ((mem.filter fun e => pxValid e.1 e.2).map fun e => e.1.tmp.toNat), mem.any (·.2))
    comps := comps
    lblovf := ovf
    labels := labels.map Config.labelWord
    foreign := (ps.filter fun e => e.1.stand != 0 && !(cx.find e.1.stand).isSome).length
    uecc := (ps.filter (·.2)).length }

end Sys2Proof.Machine
end

