-- ==== Sys2Proof/Machine/Export.lean ====
section
/-! DEFINITION. The bytes of an exported frame (R217, R218, Table 10-5). -/

namespace Sys2Proof.Machine

/-- An 18-bit word of an embedded line as 3 bytes, little-endian (R217). -/
def word3 (w : Word) : List Byte := leBytes 3 w.toNat

/-- Consecutive groups of `n` elements. -/
def groupsOf {α : Type} (n : Nat) : Nat → List α → List (List α)
  | 0, _ => []
  | _, [] => []
  | k + 1, l => l.take n :: groupsOf n k (l.drop n)

/-- One group of four samples in nine bytes (R218). -/
def pack4 (l : List Word) : List Byte :=
  let v (i : Nat) : Nat := (l.getD i 0).toNat
  leBytes 9 (v 0 + 2 ^ 18 * v 1 + 2 ^ 36 * v 2 + 2 ^ 54 * v 3)

/-- The sample of a pixel: TMP, or 0 where MASK is set (R218). -/
def exportSample (p : Px) : Word := if p.mask then 0 else p.tmp

/-- An image line in data type 0x30 (`raw16` false) or RAW16 (R218). -/
def imageLine (raw16 : Bool) (l : List Px) : List Byte :=
  let s := l.map exportSample
  if raw16 then (s.map fun w => leBytes 2 (w.toNat / 4)).flatten
  else ((groupsOf 4 s.length s).map pack4).flatten

/-- Statistics or occupancy lines: at most `n` records in a line. -/
def recordLines (n : Nat) (recs : List (List Word)) : List (List Byte) :=
  (groupsOf n recs.length recs).map fun g => ((g.map fun r => (r.map word3).flatten)).flatten

/-- The header line (Table 10-5). -/
def headerWords (head set status : Nat) (frozen rep priv : Bool) (frame : BitVec 36) (gen : BitVec 18)
    (src : BitVec 36) (nrec nblob width lines : Nat) (fpa : Word) : List Word :=
  [w18 (head * 2 ^ 16 + set * 2 ^ 14 + status * 2 ^ 9 + (if frozen then 2 ^ 8 else 0) +
      (if rep then 2 ^ 7 else 0) + (if priv then 2 ^ 6 else 0)),
   w18 frame.toNat, w18 (frame.toNat / 2 ^ 18), gen, w18 src.toNat, w18 (src.toNat / 2 ^ 18),
   w18 nrec, w18 nblob, w18 width, w18 lines, fpa, 0]

end Sys2Proof.Machine
end

