-- ==== Sys2Proof/Machine/Imaging.lean ====
section
/-! DEFINITION. What the imaging families share: a head and its raw ring, records without values (R199, R200), and the
frames that the CSI-2 transmitter is given (R217 to R221). -/

namespace Sys2Proof.Machine
open Sys2Proof

/-- Time since D0 left reset, in ns: the tick generator's crystal cycles (R17). -/
def State.now (s : State) : Nat := s.tick.cycles * 40

/-! ### Heads -/

def State.head (s : State) (h : Nat) : HeadSt := if p : h < 4 then s.heads[h] else s.heads[0]

def State.setHead (s : State) (h : Nat) (f : HeadSt → HeadSt) : State := { s with heads := vmod s.heads h f }

def State.shutHead (s : State) (h : Nat) : ShutHead := if p : h < 4 then s.shut[h] else s.shut[0]

def State.setShut (s : State) (h : Nat) (f : ShutHead → ShutHead) : State := { s with shut := vmod s.shut h f }

def State.occHead (s : State) (h : Nat) : OccHead := if p : h < 4 then s.stat.heads[h] else s.stat.heads[0]

def State.setOcc (s : State) (h : Nat) (f : OccHead → OccHead) : State :=
  { s with stat := { s.stat with heads := vmod s.stat.heads h f } }

/-- The engine of a sensor port, of a pixel engine. -/
def Blk.ofHead (h : Nat) : Blk := .head (Fin.ofNat 4 h)
def Blk.ofPe (h : Nat) : Blk := .pe (Fin.ofNat 4 h)
def Engine.ofHead (h : Nat) : Engine := .head (Fin.ofNat 4 h)

/-- A pixel engine that the variant has takes part in bursts: IN_SERVICE, or SERVICE (R150, R50, R86). -/
def State.peWorks (s : State) (n : Nat) : Bool := s.headPresent n && s.works (.pe (Fin.ofNat 4 n))

def State.anyPe (s : State) : Bool := (List.range 4).any s.peWorks

/-- A frame number is no later than another (R24). -/
def frameLe (a b : BitVec 36) : Bool := Nat.blt (b - a).toNat (2 ^ 35)

/-- HEAD_CUR shows the set in force and its CAL. -/
def State.curSync (s : State) (h : Nat) : State :=
  s.wr (Reg.HEAD_CUR_CAL h) (s.rd (Reg.HEAD_SETGAIN_CAL h (s.rd (Reg.HEAD_CUR_SET h))))

/-- Slots of a head's raw ring (R142). -/
def State.ringLen (s : State) (h : Nat) : Nat :=
  let n := s.rd (Reg.HEAD_HEIGHT h)
  n + n * 3 / 100

/-- The lines of a frame in `n` slots from `slot0` on no longer wait to be read (R142, R157). -/
def releaseSlots (ring : List (Option RingSlot)) (tag : Nat) : List (Option RingSlot) :=
  ring.map (fun o => o.map (fun sl => if sl.tagFrame = tag then { sl with unread := false } else sl))

/-- Bits 7:0 of a frame number: the tag of its lines (R158). -/
def frameTag (f : BitVec 36) : Nat := f.toNat % 256

def State.releaseLines (s : State) (h : Nat) (f : BitVec 36) : State :=
  s.setHead h (fun x => { x with ring := releaseSlots x.ring (frameTag f) })

/-- A frame of the head has had no completed burst; the eighth in a row makes the next one a filter-reset frame (R166). -/
def State.noBurst (s : State) (h : Nat) : State :=
  s.setHead h (fun x =>
    { x with noBurst := min 8 (x.noBurst + 1), filtReset := x.filtReset || Nat.ble 7 x.noBurst })

/-! ### The start-up stage (Table 6-1, step 12; Table 6-9) -/

/-- BOOT_STAT.STAGE takes a stage; a change sets its bit of HSP_IRQ (Table 16-4). -/
def State.setStage (s : State) (n : Nat) : State :=
  if s.rd Reg.BOOT_STAT_STAGE = n then s else (s.wr Reg.BOOT_STAT_STAGE n).irq 7

/-- A head with a profile is out of service, or has delivered its first corrected frame and, with the statistics engine
in service, the points of its stands. -/
def State.headReady (s : State) (h : Nat) : Bool :=
  s.headPixels h == 0 || (s.headState h != stInService && s.headState h != stService) ||
  ((s.head h).svc && (s.shutHead h).corrected && (!s.works .stat || (s.head h).lastPass.isSome ||
    (s.standsOf h).all (fun st => s.rd (Reg.STAND_SCFG0_PMASK st) == 0)))

/-- Stage RUN begins once the imaging sections are applied and every head in service has delivered (Table 6-1). -/
def State.bootRun (s : State) : State :=
  if s.rd Reg.BOOT_STAT_STAGE = 6 ∧ s.boot.imaged ∧ (List.range 4).all (fun h => !s.headPresent h || s.headReady h) then
    s.setStage 7
  else s

/-! ### Recalibration as the other engines see it -/

/-- From S, or the end of the negotiation before a start-up recalibration, until the first normal frame, a pending
finalization included (R174, R177, R181). -/
def State.inRecal (s : State) (h : Nat) : Bool :=
  let x := s.shutHead h
  x.recal.isSome || x.final.isSome || x.startup

/-! ### Points and records of a head -/

/-- The stand and occupancy points of a head's enabled stands go HELD (R42). -/
def State.holdStands (s : State) (h : Nat) : State :=
  let sts := s.standsOf h
  s.holdPoints (fun src => match src with | .stand st _ => memNat st sts | _ => false)

/-- OCC_FSTAT.STATUS and OCC_FRAME follow the latest frame (Table 10-22). -/
def State.occFrame (s : State) (h : Nat) (frame : BitVec 36) (status : Nat) : State :=
  ((s.wr (Reg.OCC_FSTAT_STATUS h) status).wr (Reg.OCC_FRAME0 h) (frame.toNat % 2 ^ 18)).wr (Reg.OCC_FRAME1 h)
    (frame.toNat / 2 ^ 18)

/-- The last record of a stand. -/
def State.putRecord (s : State) (st : Nat) (ws : List Word) : State :=
  { s with stat := { s.stat with records := assocPut s.stat.records st ws } }

/-- Every enabled stand of the head gets a record without values (R199, R200), and its points go HELD. -/
def State.emitEmpty (s : State) (h : Nat) (res : FrameRes) (status : Nat) : State :=
  let sts := s.standsOf h
  let s := sts.foldl (fun s st => s.putRecord st (recEmpty h res.set st status res.frame res.gen)) s
  ((s.holdStands h).occFrame h res.frame status).irq 2

/-! ### Frames given to the transmitter (R217, R219) -/

def State.exports (s : State) (h : Nat) : Bool :=
  s.rdB (Reg.CTX_HCFG_EXPIMG h) || s.rdB (Reg.CTX_HCFG_EXPSTAT h) || s.rdB (Reg.CTX_HCFG_EXPOCC h)

/-- Nothing is sent for a head before its first corrected frame (R219). -/
def State.ctxTakes (s : State) (h : Nat) : Bool := s.works .ctx && s.exports h && (s.head h).good.isSome

/-- A frame with a burst joins the waiting ones as its burst ends. -/
def State.ctxNormal (s : State) (h : Nat) (res : FrameRes) : State :=
  if s.ctxTakes h then
    { s with ctx := { s.ctx with waiting := s.ctx.waiting ++
        [{ head := h, res := res, frozen := false, repeated := false, noLines := false }] } }
  else s

/-- The request of a frame without a burst, with its header STATUS: DROPPED, or HELD within a recalibration. -/
def repeatReq (h : Nat) (res : FrameRes) (status : Nat) (frozen noLines : Bool) : CtxReq :=
  { head := h, res := { res with status := if status = Status.HELD then Status.HELD else Status.DROPPED }
    frozen := frozen, repeated := true, noLines := noLines }

/-- A frame without a burst waits for its send time (R219). -/
def State.ctxRepeat (s : State) (h : Nat) (res : FrameRes) (status : Nat) (noLines : Bool) : State :=
  if s.ctxTakes h then
    { s with ctx := { s.ctx with repeats := s.ctx.repeats ++ [repeatReq h res status (s.inRecal h) noLines] } }
  else s

/-- A frame whose send time has passed already (its result is known at the next FT edge, or later). -/
def State.ctxRepeatNow (s : State) (h : Nat) (res : FrameRes) (status : Nat) (noLines : Bool) : State :=
  if s.ctxTakes h then
    { s with ctx := { s.ctx with waiting := s.ctx.waiting ++ [repeatReq h res status (s.inRecal h) noLines] } }
  else s

/-- A frame of the head ends without a burst: records, points, export, and the count of R166. -/
def State.frameLost (s : State) (h : Nat) (res : FrameRes) (status : Nat) : State :=
  (((s.emitEmpty h res status).ctxRepeat h res status false).releaseLines h res.frame).noBurst h

/-! ### The transmitter (R217 to R221) -/

/-- Records that a frame carries: those of its enabled stands that are of frame F (R217). -/
def State.frameRecords (s : State) (h : Nat) (res : FrameRes) : List (List Word) :=
  ((s.standsOf h).filterMap (fun st => assocGet s.stat.records st)).filter (fun ws =>
    decide (ws.getD 2 0 = w18 res.frame.toNat) && decide (ws.getD 3 0 = w18 (res.frame.toNat / 2 ^ 18)))

/-- Blob records of frame F, where its pass has been done. -/
def State.frameBlobs (s : State) (h : Nat) (res : FrameRes) : List (List Word) :=
  match (s.head h).lastPass with
  | some p => if p.frame = res.frame then mapIdxFrom blobWords 0 (s.occHead h).blobs else []
  | none => []

/-- The image lines of a head, as its TMP plane stands. -/
def State.imageLines (s : State) (h : Nat) : List (List Byte) :=
  (rowsOfList (s.rd (Reg.HEAD_WIDTH h)) (s.rd (Reg.HEAD_HEIGHT h)) (s.px h)).map
    (imageLine (s.rdB (Reg.CTX_HCFG_DT h)))

/-- The time from `t` ns after the latest FT edge to the next FT of its head: the next edge, or at L3 in an even frame the one
after it (R27, R105). -/
def State.toNextFt (s : State) (t : Nat) : Frac :=
  ((ftPeriodNs s.stinc s.ftdiv).mul (Frac.ofNat (if s.therm.l3drop && s.tick.frame.toNat % 2 == 0 then 2 else 1))).sub
    (Frac.ofNat t)

/-- A link of the transmitter starts: above 1.5 Gbit/s with an initial deskew (R216). -/
def State.ctxLink (s : State) : State :=
  { s with ctx := { s.ctx with
    relink := false, deskews := s.ctx.deskews + (if Nat.blt 150 (s.rd Reg.CTX_LINK_RATE) then 1 else 0) } }

/-- The transmitter takes the first waiting frame, once it is free and in service, `t` ns after the latest FT edge. A repeat
carries image lines only where the whole read-out t_ro still fits before the next FT of its head (R219). The header announces a
record of every enabled stand; how many blobs it announces is known once the pass has ended, and open before
(notes/assumptions/1). -/
def State.ctxStart (s : State) (t : Nat) : State :=
  match s.ctx.sending, s.ctx.waiting with
  | none, q :: qs =>
    if !s.works .ctx then s
    else
      let h := q.head
      let img := s.rdB (Reg.CTX_HCFG_EXPIMG h)
      let fits := !q.noLines && (!q.repeated || (s.readOut h true).le (s.toNextFt t))
      let s := if img && s.privLock then s.lockStop 1 else s
      let lines := if img && !s.privLock && fits then s.imageLines h else []
      let s := if q.repeated && img && !s.privLock && !fits then s.bump Reg.CTX_NOIMG else s
      let blobs := s.rdB (Reg.CTX_HCFG_EXPOCC h) && !q.repeated
      let (nblob, s) := if blobs then s.freeN else (0, s)
      let src := match (s.head h).good with | some g => g.frame | none => q.res.frame
      let hdr := headerWords h q.res.set q.res.status q.frozen q.repeated s.privLock q.res.frame q.res.gen
        (if q.repeated then src else q.res.frame) (if s.rdB (Reg.CTX_HCFG_EXPSTAT h) then (s.standsOf h).length else 0)
        nblob (s.rd (Reg.HEAD_WIDTH h)) lines.length
        (if s.rdB (Reg.HEAD_TLMFPA_EN h) then q.res.fpa else 0)
      let out : CtxOut := { fs := q.res.frame.toNat % 65535 + 1, vc := s.rd (Reg.CTX_HCFG_VC h), header := hdr,
                            image := lines, stats := [], occ := [], cut := false }
      let s := { s with ctx := { s.ctx with waiting := qs, sending := some q, out := some out } }
      (s.wrB Reg.CTX_STAT_SENDING true).wr Reg.CTX_STAT_HEAD h
  | _, _ => s

/-- The whole of the frame being sent, as records and blobs stand, with their counts in the header (R217). -/
def State.ctxWhole (s : State) (q : CtxReq) (o : CtxOut) : CtxOut :=
  let h := q.head
  let recs := if s.rdB (Reg.CTX_HCFG_EXPSTAT h) then s.frameRecords h q.res else []
  let blobs := if s.rdB (Reg.CTX_HCFG_EXPOCC h) && !q.repeated then s.frameBlobs h q.res else []
  { o with header := (o.header.set 6 (w18 recs.length)).set 7 (w18 blobs.length)
           stats := recordLines 24 recs, occ := recordLines 62 blobs }

/-- The frame being sent ends: whole, or as it was cut short (R217, R221). -/
def State.ctxFinish (s : State) : State :=
  match s.ctx.sending, s.ctx.out with
  | some q, some o =>
    let s := { s with ctx := { s.ctx with sending := none, out := some (if o.cut then o else s.ctxWhole q o) } }
    (s.bump Reg.CTX_FRAMES).wrB Reg.CTX_STAT_SENDING false
  | _, _ => s

/-- The first `n` lines after the header; the rest are discarded, so that there are fewer than the header announces (R221). -/
def CtxOut.cutAt (o : CtxOut) (n : Nat) : CtxOut :=
  { o with image := o.image.take n, stats := o.stats.take (n - o.image.length)
           occ := o.occ.take (n - o.image.length - o.stats.length), cut := true }

/-- At the next FT of a head, a frame of it that has not finished is given up, or cut short after the line in progress, and
counted (R221). Which line that is, is open (notes/assumptions/1). -/
def State.ctxCut (s : State) (h : Nat) : State :=
  let mine := fun (q : CtxReq) => q.head == h
  let n := (s.ctx.waiting.filter mine).length + (s.ctx.repeats.filter mine).length
  let s := (List.range n).foldl (fun s _ => s.bump Reg.CTX_TRUNC) s
  let s := { s with ctx := { s.ctx with waiting := s.ctx.waiting.filter (fun q => !mine q)
                                        repeats := s.ctx.repeats.filter (fun q => !mine q) } }
  match s.ctx.sending, s.ctx.out with
  | some q, some o =>
    if mine q && !o.cut then
      let (k, s) := s.freeN
      let w := s.ctxWhole q o
      let lines := w.image.length + w.stats.length + w.occ.length
      let cut := { w.cutAt (k % max 1 lines) with header := w.header.set 7 (o.header.getD 7 0) }
      ({ s with ctx := { s.ctx with out := some cut } }).bump Reg.CTX_TRUNC
    else s
  | _, _ => s

/-- The transmitter stops with its engine or domain: nothing waits any longer, and the frame being sent is lost. -/
def State.ctxStop (s : State) : State :=
  ({ s with ctx := { s.ctx with waiting := [], repeats := [], sending := none, out := none } }).wrB
    Reg.CTX_STAT_SENDING false

def fpCtx : Footprint := { regs := [Blk.range .ctx], parts := [.ctx, .therm, .freeCtr] }

/-- CTX_FRAME_SEND: the transmitter is free and takes the next frame, `t` ns after the latest FT edge (R217, R219). -/
def execCtxFrameSend (t : Nat) (s : State) : Host.Outcome State Fault Refusal := done fpCtx s (s.ctxStart t)

/-- CTX_REPEAT_SEND: the send time of a head's frame without a burst has come, `t` ns after the latest FT edge (R219). -/
def execCtxRepeatSend (h : Fin 4) (t : Nat) (s : State) : Host.Outcome State Fault Refusal :=
  let mine := fun (q : CtxReq) => q.head == h.val
  let s' : State :=
    { s with ctx := { s.ctx with waiting := s.ctx.waiting ++ s.ctx.repeats.filter mine
                                 repeats := s.ctx.repeats.filter (fun q => !mine q) } }
  done fpCtx s (s'.ctxStart t)

/-- CTX_FRAME_DONE: the frame being sent ends, the band trim and a link change take effect, and the next frame starts, `t` ns
after the latest FT edge (R217, R106, 10: CTX registers). -/
def execCtxFrameDone (t : Nat) (s : State) : Host.Outcome State Fault Refusal :=
  done fpCtx s
    (match s.ctx.sending with
     | none => s
     | some _ =>
       let s := s.ctxFinish
       let s := { s with therm := { s.therm with portBand := vmod s.therm.portBand 4 (fun _ => s.rd Reg.THM_STAT_BAND) } }
       (if s.ctx.relink then s.ctxLink else s).ctxStart t)

/-- CTX_DESKEW: above 1.5 Gbit/s a periodic deskew is sent in a frame gap (R216). -/
def execCtxDeskew (s : State) : Host.Outcome State Fault Refusal :=
  done fpCtx s
    (if s.works .ctx && s.ctx.sending.isNone && Nat.blt 150 (s.rd Reg.CTX_LINK_RATE) then
      { s with ctx := { s.ctx with deskews := s.ctx.deskews + 1 } }
    else s)

end Sys2Proof.Machine
end

