-- ==== Sys2Proof/Machine/Valves.lean ====
section
/-! DEFINITION. Valve channels (R307 to R313): requests, peaks, holds, faults, the two high-side switches; analog outputs
(R314), general-purpose pins (R315) and the actuator trends (R316). The commands of the valves stand in ValveCmds. -/

namespace Sys2Proof.Machine
open Sys2Proof

def State.valve (s : State) (v : Nat) : ValveSt := if h : v < 8 then s.act.valves[v] else s.act.valves[0]

def State.setValve (s : State) (v : Nat) (f : ValveSt → ValveSt) : State :=
  { s with act := { s.act with valves := vmod s.act.valves v f } }

def State.vstate (s : State) (v : Nat) : Nat := s.rd (Reg.VLV_STAT_VSTATE v)

namespace VState
abbrev OFF : Nat := 0
abbrev WAIT : Nat := 1
abbrev PEAK : Nat := 2
abbrev HOLD : Nat := 3
abbrev FAULT : Nat := 4
end VState

def State.hsw (s : State) (g : Nat) : HswSt := if h : g < 2 then s.act.hsw[g] else s.act.hsw[0]

def State.setHsw (s : State) (g : Nat) (f : HswSt → HswSt) : State :=
  { s with act := { s.act with hsw := vmod s.act.hsw g f } }

/-- A channel changes state, and its state point with it (R312). -/
def State.setVstate (s : State) (v st : Nat) : State :=
  if s.vstate v = st then s
  else
    let s := s.wr (Reg.VLV_STAT_VSTATE v) st
    if s.rdB (Reg.VLV_STPT_STEN v) && !s.actSafe then
      s.srcTrig .vlv (.valve v) (s.rd (Reg.VLV_STPT_POINT v)) (.write (BitVec.ofNat 18 st))
    else s

/-- The members of a switch group (R309). -/
def members (g : Nat) : List Nat := (List.range 4).map (· + 4 * g)

/-- A switch is high while a member is in PEAK or HOLD (R309); HSWSTAT follows (Table 14-28). -/
def State.hswSync (s : State) (g : Nat) : State :=
  let high := (members g).any (fun v => s.vstate v == VState.PEAK || s.vstate v == VState.HOLD)
  let s := s.setHsw g (fun h => { h with high := high })
  let n := (s.hsw g).waiting.length
  if g = 0 then (s.wrB Reg.VLV_HSWSTAT_HSW0 high).wr Reg.VLV_HSWSTAT_WAIT0 n
  else (s.wrB Reg.VLV_HSWSTAT_HSW1 high).wr Reg.VLV_HSWSTAT_WAIT1 n

/-- VG turns on at `now` ns: the peak counts from here, and DLY shows the time from the request (R310, R311). -/
def State.valveVg (s : State) (v now : Nat) : State :=
  let req := (s.valve v).reqAt
  (s.setValve v (fun x => { x with vgAt := some now, leadUntil := none, vg := true })).wr (Reg.VLV_DLY v)
    (min (2 ^ 18 - 1) ((now - req) / 1000))

/-- A channel is granted its peak at `now`: a switch that is low goes high, and VG follows LEAD later (R309). -/
def State.valveGrant (s : State) (v now : Nat) : State :=
  let g := v / 4
  let lead := 1000 * (if g = 0 then s.rd Reg.VLV_HSWCFG_LEAD0 else s.rd Reg.VLV_HSWCFG_LEAD1)
  let wait := !(s.hsw g).high && lead != 0
  let s := (s.setVstate v VState.PEAK).setValve v (fun x =>
    { x with vgAt := none, ipkAt := none, vg := false, onSum := 0, periods := 0, offNs := none,
             leadUntil := some (now + lead) })
  let s := (s.batch (11 + v)).hswSync g
  if wait then s else s.valveVg v now

/-- The next waiting channel of a group is granted its peak once no member is in PEAK (R310); its RSTAT reads DELAYED no
longer (R311). -/
def State.valveNext (s : State) (g now : Nat) : State :=
  if (members g).any (fun v => s.vstate v == VState.PEAK) then s.hswSync g
  else match (s.hsw g).waiting with
    | [] => s.hswSync g
    | v :: vs => (((s.setHsw g (fun h => { h with waiting := vs })).wr (Reg.VLV_STAT_RSTAT v) Status.OK).valveGrant v now).hswSync g

def State.tpkMaxNs (s : State) (v : Nat) : Nat := 10000 * s.rd (Reg.VLV_TPKMAX v)

/-- The remaining worst-case peak of the member in PEAK (R310). -/
def State.peakLeft (s : State) (v now : Nat) : Nat :=
  let x := s.valve v
  let start := match x.vgAt with | some t => t | none => x.leadUntil.getD now
  match x.ipkAt with
  | some r => min (start + s.tpkMaxNs v) (r + 1000 * s.rd (Reg.VLV_TPK v)) - now
  | none => start + s.tpkMaxNs v - now

/-- The worst-case wait of a new request of a group (R310). -/
def State.worstWait (s : State) (g now : Nat) : Nat :=
  let run := ((members g).filter (fun v => s.vstate v == VState.PEAK)).map (fun v => s.peakLeft v now)
  (run ++ (s.hsw g).waiting.map s.tpkMaxNs).foldl (· + ·) 0

/-- A request refused with a reason: 1 LATENCY, 2 FAULTED, 3 HELDOFF (R310). -/
def State.valveRefuse (s : State) (v reason : Nat) : State :=
  ((s.wr (Reg.VLV_STAT_RSTAT v) Status.REFUSED).wr (Reg.VLV_STAT_RREASON v) reason).bump (Reg.VLV_REFCNT v)

/-- A channel is held in its safe state by row 1, 2 or 6 of Table 14-2; a shutter channel in SERVICE too (R313), but for a
console test. Row 4, SERVICE, comes before row 6. -/
def State.valveHeld (s : State) (v : Nat) : Bool :=
  s.actSafe || (s.pointHeld (s.rd (Reg.VLV_CFG_CMDPT v)) && !s.rdB (Reg.VLV_CFG_SHUT v) && !s.service) ||
  (s.service && s.rdB (Reg.VLV_CFG_SHUT v) && (s.valve v).test.isNone)

/-- A request: the transition of a channel from off to on, at `now` ns (R310). -/
def State.valveRequest (s : State) (v now : Nat) : State :=
  let g := v / 4
  if s.vstate v = VState.FAULT then s.valveRefuse v 2
  else if s.valveHeld v then s.valveRefuse v 3
  else
    let s := s.setValve v (fun x => { x with reqAt := now })
    let busy := (members g).any (fun m => s.vstate m == VState.PEAK) || !(s.hsw g).waiting.isEmpty
    if !busy then
      ((s.wr (Reg.VLV_STAT_RSTAT v) Status.OK).wr (Reg.VLV_STAT_RREASON v) 0).valveGrant v now
    else
      let w := s.worstWait g now
      let lim := 10000 * s.rd (Reg.VLV_MAXLAT v)
      if lim ≠ 0 ∧ lim < w then s.valveRefuse v 1
      else
        let s := ((s.wr (Reg.VLV_STAT_RSTAT v) Status.DELAYED).wr (Reg.VLV_STAT_RREASON v) 0).wr (Reg.VLV_DLY v)
          (min (2 ^ 18 - 1) (w / 1000))
        ((s.setHsw g (fun h => { h with waiting := h.waiting ++ [v] })).setVstate v VState.WAIT).hswSync g

/-- Nanoseconds of a chopping period (R307). -/
def State.chopNs (s : State) (v : Nat) : Nat := 10000000 / max 1 (s.rd (Reg.VLV_CHOP_CHOPF v))

/-- A hold phase ends: DUTY and its trend take one of 1 s or longer (R307, R316). -/
def State.holdEnd (s : State) (v : Nat) : State :=
  let x := s.valve v
  let len := x.periods * s.chopNs v
  let s := s.setValve v (fun x => { x with onSum := 0, periods := 0, offNs := none })
  if len < 1000000000 then s
  else
    let duty := min 65535 (x.onSum * 65536 / len)
    (s.wr (Reg.VLV_DUTY v) duty).setValve v (fun x =>
      { x with holds := x.holds + 1, dutySum := x.dutySum + duty, dutySq := x.dutySq + duty * duty })

/-- A channel goes off: it leaves the queue, or VG turns off and its switch serves the next (R310, R313). -/
def State.valveOff (s : State) (v now : Nat) : State :=
  let g := v / 4
  let st := s.vstate v
  if st = VState.OFF ∨ st = VState.FAULT then s
  else
    let s := if st = VState.HOLD then s.holdEnd v else s
    let s := (s.setVstate v VState.OFF).setValve v (fun x =>
      { x with vg := false, vgAt := none, ipkAt := none, leadUntil := none })
    let s := s.setHsw g (fun h => { h with waiting := h.waiting.filter (· != v) })
    s.valveNext g now

/-- A fault: 1 OPEN, 2 SHORT. The channel stays off until a CLEAR command (R308). The request whose peak fails reads FAULT
(Table 14-29; notes/assumptions/32). -/
def State.valveFault (s : State) (v cause now : Nat) : State :=
  let s := (s.setVstate v VState.FAULT).setValve v (fun x =>
    { x with vg := false, vgAt := none, ipkAt := none, leadUntil := none })
  let s := ((s.wr (Reg.VLV_STAT_FCAUSE v) cause).wr (Reg.VLV_STAT_RSTAT v) Status.FAULT).valveNext (v / 4) now
  (s.logEvent 0x08 [v, cause]).irq 10

/-- VS first reaches IPK at `t`. Within 2 µs of the VG turn-on it is a short; at TPKMAX or later it has not been reached
(R308). -/
def State.valveIpk (s : State) (v t : Nat) : State :=
  let x := s.valve v
  match x.vgAt with
  | some start =>
    if s.vstate v = VState.PEAK ∧ x.ipkAt.isNone ∧ t < start + s.tpkMaxNs v then
      if t ≤ start + 2000 then s.valveFault v 2 t
      else s.setValve v (fun x => { x with ipkAt := some t, vg := false })
    else s
  | none => s

/-- The peak ends at `t`: TPK after VS reached IPK, or TPKMAX; `half` says that VS has exceeded IPK / 2 (R307, R308). -/
def State.valvePeakEnd (s : State) (v t : Nat) (half : Bool) : State :=
  let x := s.valve v
  if s.vstate v ≠ VState.PEAK ∨ x.vgAt.isNone then s
  else if x.ipkAt.isNone && !half then s.valveFault v 1 t
  else
    let late := x.ipkAt.isNone
    let s := (s.setVstate v VState.HOLD).wrB (Reg.VLV_STAT_PKTO v) late
    let s := if late then s.bump (Reg.VLV_PKTOCNT v) else s
    s.valveNext (v / 4) t

/-! ### Commands of a valve channel (R312) -/

/-- The command value of a channel, whatever else drives it: none for the safe state. In SERVICE it is the value held at entry
(R64). -/
def State.valveCmd (s : State) (v : Nat) : Option Int × State :=
  let x := s.valve v
  let (usable, ny, val) := s.cmdPoint (s.rd (Reg.VLV_CFG_CMDPT v))
  let s := s.wrB (Reg.VLV_STAT_LOSS v) (!usable)
  if s.actSafe then (none, s)
  else if s.service then (x.svcCmd, s)
  else
    let (use, last) := takeCmd usable ny (s.rdB (Reg.VLV_CFG_LOSSACT v)) val x.lastCmd
    let s := s.setValve v (fun x => { x with lastCmd := last })
    (use, s)

/-- ST periods of `ms` thousandths of a second, to nearest. -/
def stPeriods (stinc ms : Nat) : Nat := (2 * 25000 * stinc * ms + 2 ^ 40) / (2 * 2 ^ 40)

/-- Length of a time-proportional cycle and its on time in ST periods (R312). -/
def cycleOf (stinc tcyc tmin : Nat) (v : Int) : Nat × Nat :=
  let len := stPeriods stinc (1000 * tcyc)
  let d := if v < 0 then 0 else v.toNat
  let on := min len ((2 * d * len + 131072) / 262144)
  let off := len - on
  -- an interval of n ST periods is shorter than TMIN ms
  let short := fun (n : Nat) => Nat.blt (n * 2 ^ 40) (tmin * 25000 * stinc)
  let on' := if short on && short off then (if off ≤ on then len else 0)
    else if short on then 0 else if short off then len else on
  (len, on')

/-- A channel is commanded on or off. -/
def State.valveDrive (s : State) (v : Nat) (on again : Bool) (now : Nat) : State :=
  let was := (s.valve v).on
  let s := s.setValve v (fun x => { x with on := on })
  if on && (!was || (again && s.vstate v == VState.OFF)) then s.valveRequest v now
  else if !on && was then s.valveOff v now
  else s

/-- A valve channel with a command point samples it after an ST edge (R312); a console test replaces it in SERVICE. -/
def State.valveSample (s : State) (now v : Nat) : State :=
  if !s.rdB (Reg.VLV_CFG_EN v) || s.rdB (Reg.VLV_CFG_SHUT v) then s
  else
    let (cmd, s) := s.valveCmd v
    let x := s.valve v
    let held := s.pointHeld (s.rd (Reg.VLV_CFG_CMDPT v)) && !s.actSafe && !s.service
    let s := (s.wrB (Reg.VLV_STAT_SAFE v) held).wrB (Reg.VLV_STAT_TEST v) (s.service && x.test.isSome)
    match (if s.service then x.test else none) with
    | some t => s.valveDrive v t.isSome false now
    | none =>
      if s.rd (Reg.VLV_CFG_MODE v) = 0 then
        -- on/off mode; a request made while row 6 holds the channel is refused, and not retried (R310)
        let up := match cmd with | some c => decide (65536 ≤ c) | none => false
        let refuse := held && up && !x.up
        let s := s.setValve v (fun x => { x with up := up, noReq := up && (x.noReq || refuse) })
        let s := if refuse then s.valveRefuse v 3 else s
        s.valveDrive v (up && !held && !(s.valve v).noReq) false now
      else match (if held then none else cmd) with
      | none => (s.setValve v (fun x => { x with cyc := 0, cycLen := 0, onLen := 0 })).valveDrive v false false now
      | some c =>
        let start := x.cycLen == 0 || Nat.ble x.cycLen (x.cyc + 1)
        let (len, on) := if start then cycleOf s.stinc (s.rd (Reg.VLV_TCYC v)) (s.rd (Reg.VLV_TMIN v)) c
          else (x.cycLen, x.onLen)
        let k := if start then 0 else x.cyc + 1
        let s := s.setValve v (fun x => { x with cyc := k, cycLen := len, onLen := on })
        s.valveDrive v (Nat.blt k on) start now

/-- Every channel with a command point, in ascending order. -/
def State.valvesSample (s : State) (now : Nat) : State := (List.range 8).foldl (fun s v => s.valveSample now v) s

/-- Every valve channel takes its safe state; the switches go low (R293). -/
def State.valvesSafe (s : State) (now : Nat) : State :=
  let s := { s with act := { s.act with hsw := Vector.replicate 2 { waiting := [], high := false } } }
  let s := (List.range 8).foldl (fun s v =>
    (s.setValve v (fun x => { x with on := false, cyc := 0, cycLen := 0, onLen := 0 })).valveOff v now) s
  (s.hswSync 0).hswSync 1

/-- Close of a shutter channel (R313): a request, none while it is already in WAIT, PEAK or HOLD. The outcome is a
status of Table 2-7. -/
def State.shutClose (s : State) (v now : Nat) : Nat × State :=
  let st := s.vstate v
  if st = VState.WAIT ∨ st = VState.PEAK ∨ st = VState.HOLD then (Status.OK, s)
  else
    let s := (s.setValve v (fun x => { x with on := true })).valveRequest v now
    (s.rd (Reg.VLV_STAT_RSTAT v), s)

/-- Release of a shutter channel (R313). -/
def State.shutRelease (s : State) (v now : Nat) : State :=
  (s.setValve v (fun x => { x with on := false })).valveOff v now

/-! ### Analog outputs (R314) -/

def State.dac (s : State) (d : Nat) : DacSt := if h : d < 6 then s.act.dacs[d] else s.act.dacs[0]

def State.setDac (s : State) (d : Nat) (f : DacSt → DacSt) : State :=
  { s with act := { s.act with dacs := vmod s.act.dacs d f } }

/-- A DAC channel loads its code after an ST edge. -/
def State.dacLoad (s : State) (d : Nat) : State :=
  if !s.rdB (Reg.DAC_CFG_EN d) then s
  else
    let x := s.dac d
    let (usable, ny, v) := s.cmdPoint (s.rd (Reg.DAC_CFG_CMDPT d))
    let s := s.wrB (Reg.DAC_STAT_LOSS d) (!usable)
    let safe := s.rd (Reg.DAC_SAFE d)
    let code := fun (v : Int) => (if v < 0 then 0 else v.toNat / 8)
    let off := s.actSafe || !s.domOn 27
    let held := s.pointHeld (s.rd (Reg.DAC_CFG_CMDPT d)) && !off && !s.service
    let s := (s.wrB (Reg.DAC_STAT_TEST d) (s.service && x.test.isSome)).wrB (Reg.DAC_STAT_SAFE d) held
    if off then s.wr (Reg.DAC_VAL d) safe
    else if s.service then (match x.test with | some c => s.wr (Reg.DAC_VAL d) c | none => s.wr (Reg.DAC_VAL d) x.svcVal)
    else
      let (use, last) := takeCmd usable ny (s.rdB (Reg.DAC_CFG_LOSSACT d)) v x.lastCmd
      let s := s.setDac d (fun x => { x with lastCmd := last })
      match (if held then none else use) with
      | some v => s.wr (Reg.DAC_VAL d) (code v)
      | none => s.wr (Reg.DAC_VAL d) safe

def State.dacsLoad (s : State) : State := (List.range 6).foldl (fun s d => s.dacLoad d) s

def State.dacsSafe (s : State) : State :=
  (List.range 6).foldl (fun s d => if s.rdB (Reg.DAC_CFG_EN d) then s.wr (Reg.DAC_VAL d) (s.rd (Reg.DAC_SAFE d)) else s) s

/-- Every fan, valve and DAC channel takes its safe state (R293, Table 5-4). -/
def State.actuatorsSafe (s : State) (now : Nat) : State := ((s.fansSafe).valvesSafe now).dacsSafe

/-! ### General-purpose pins (R315) -/

def State.gpin (s : State) (g : Nat) : GpioSt := if h : g < 4 then s.gpio.pins[g] else s.gpio.pins[0]

def State.setPin (s : State) (g : Nat) (f : GpioSt → GpioSt) : State :=
  { s with gpio := { s.gpio with pins := vmod s.gpio.pins g f } }

/-- An output pin samples its point after an ST edge, by rows 6 and 7 of Table 14-2; a GPIO reload holds the outputs. -/
def State.gpioLoad (s : State) (g : Nat) : State :=
  if !s.rdB (Reg.GPIO_CFG_EN g) || !s.rdB (Reg.GPIO_CFG_DIR g) || !s.works .gpio then s
  else
    let (w, q) := s.readPoint (s.rd (Reg.GPIO_CFG_POINT g))
    let x := s.gpin g
    let s := s.wrB (Reg.GPIO_STAT_LOSS g) (!q.usable)
    let kept := x.lastCmd
    let hold := !q.usable && q != .notYet && kept.isSome && !s.rdB (Reg.GPIO_CFG_LOSSACT g)
    if s.pointHeld (s.rd (Reg.GPIO_CFG_POINT g)) && !s.service then
      ((s.setPin g (fun x => { x with lastCmd := if q.usable then some w else kept })).wrB (Reg.GPIO_STAT_SAFE g) true).wr
        (Reg.GPIO_STAT_LEVEL g) (s.rd (Reg.GPIO_CFG_SAFELVL g))
    else if q.usable then
      ((s.setPin g (fun x => { x with lastCmd := some w })).wrB (Reg.GPIO_STAT_SAFE g) false).wrB (Reg.GPIO_STAT_LEVEL g)
        (w != 0#18)
    else if hold then
      (s.wrB (Reg.GPIO_STAT_SAFE g) false).wrB (Reg.GPIO_STAT_LEVEL g) (kept.getD 0#18 != 0#18)
    else (s.wrB (Reg.GPIO_STAT_SAFE g) true).wr (Reg.GPIO_STAT_LEVEL g) (s.rd (Reg.GPIO_CFG_SAFELVL g))

def State.gpiosLoad (s : State) : State := (List.range 4).foldl (fun s g => s.gpioLoad g) s

/-- An input pin writes its point (R315). -/
def State.gpioWrite (s : State) (g : Nat) (v : Bool) : State :=
  (s.setPin g (fun x => { x with value := some v })).srcTrig .gpio (.gpio g) (s.rd (Reg.GPIO_CFG_POINT g))
    (.write (if v then 1 else 0))

/-- GPIO enters IN_SERVICE: every input pin writes its value (R315). That of a pin which has none yet is open
(notes/assumptions/1). -/
def State.gpioEnter (s : State) : State :=
  (List.range 4).foldl (fun s g =>
    if s.rdB (Reg.GPIO_CFG_EN g) && !s.rdB (Reg.GPIO_CFG_DIR g) then
      let (v, s) := match (s.gpin g).value with | some v => (v, s) | none => s.freeB
      s.gpioWrite g v
    else s) s

def fpGpio : Footprint := { regs := [Blk.range .gpio], parts := [.gpio, .points] }

/-- Samples of 100 µs for which a level must be stable. -/
def debSamples (deb : Nat) : Nat := match deb with | 0 => 0 | 1 => 10 | 2 => 100 | _ => 1000

/-- GPIO_INPUT_SAMPLE: a pin is sampled every 100 µs (R315). A forced ball is disconnected from it (R65). -/
def execGpioInputSample (g : Fin 4) (level : Bool) (s : State) : Host.Outcome State Fault Refusal :=
  let g := g.val
  done fpGpio s
    (if !s.rdB (Reg.GPIO_CFG_EN g) || s.rdB (Reg.GPIO_CFG_DIR g) || !s.works .gpio || s.ballForced (gpioBall g) then s
     else
       let x := s.gpin g
       let n := if x.cand = level then x.stable + 1 else 0
       let s := (s.setPin g (fun x => { x with cand := level, stable := n })).wrB (Reg.GPIO_STAT_LEVEL g) level
       if debSamples (s.rd (Reg.GPIO_CFG_DEB g)) ≤ n ∧ x.value ≠ some level then s.gpioWrite g level else s)

/-! ### Trends (R316) -/

def natSqrt (n : Nat) : Nat :=
  -- the largest r with r² ≤ n, bit by bit from 2^31
  (List.range 32).foldl (fun r i => let c := r + 2 ^ (31 - i); if c * c ≤ n then c else r) 0

/-- The 16 bytes of a fan (Table 16-9). -/
def fanTrend (f : FanSt) : List Byte :=
  let mean := fun (x : Nat) => if f.starts = 0 then 0 else x / f.starts
  leBytes 4 f.starts ++ [BitVec.ofNat 8 (mean f.levelSum), BitVec.ofNat 8 f.levelMax] ++
    leBytes 2 (min 65535 (mean f.peakSum)) ++ List.replicate 8 0#8

/-- The 16 bytes of a valve; the spread is the standard deviation (notes/assumptions/33). -/
def valveTrend (v : ValveSt) : List Byte :=
  let mean := if v.holds = 0 then 0 else v.dutySum / v.holds
  let var := if v.holds = 0 then 0 else (v.dutySq * v.holds - v.dutySum * v.dutySum) / (v.holds * v.holds)
  leBytes 2 (min 65535 mean) ++ leBytes 2 (min 65535 (natSqrt var)) ++ leBytes 4 v.holds ++ List.replicate 8 0#8

/-- The daily trend page goes to its ring, pages 336 to 383 (R316, R355); the sums go on (notes/assumptions/33). -/
def State.trendPage (s : State) : State :=
  let (i, seq) := ringNext s.tallyView (fun i => 256 * (336 + i)) 48 256 0xA7
  let fans := ((List.range 3).map (fun c => fanTrend (s.fan c))).foldr (· ++ ·) []
  let valves := ((List.range 8).map (fun v => valveTrend (s.valve v))).foldr (· ++ ·) []
  let bytes := [0xA7#8, 0#8] ++ leBytes 2 seq ++ leBytes 4 s.rtc.sec.toNat ++ fans ++ valves ++ List.replicate 68 0#8
  s.pulsePage .aux (336 + i) (withCheck bytes)

/-- ACTUATOR_TREND_RECORD (R316). -/
def execActuatorTrendRecord (s : State) : Host.Outcome State Fault Refusal :=
  done { regs := fpEvents, parts := [.act, .tally] } s s.trendPage

end Sys2Proof.Machine
end

