-- ==== Sys2Proof/Machine/Shutter.lean ====
section
/-! DEFINITION. The shutter controller: triggers (R171 to R174), the recalibration sequence (Table 9-2), finalization
(R181) and the cruise (R188 to R192). -/

namespace Sys2Proof.Machine
open Sys2Proof

-- Phases of Table 9-17.
namespace Phase
abbrev IDLE : Nat := 0
abbrev CLOSING : Nat := 1
abbrev SETTLE1 : Nat := 2
abbrev AVERAGE : Nat := 3
abbrev OPENING : Nat := 4
abbrev SETTLE2 : Nat := 5
/-- Mode of a burst that finalizes (R181): no phase of its own. -/
abbrev FINAL : Nat := 7
end Phase

def State.phase (s : State) (h : Nat) : Nat := s.rd (Reg.SHUT_STAT_PHASE h)

def State.setPhase (s : State) (h p : Nat) : State := s.wr (Reg.SHUT_STAT_PHASE h) p

def State.setRecal (s : State) (h : Nat) (f : Recal → Recal) : State :=
  s.setShut h (fun x => { x with recal := x.recal.map f })

/-- Frames of NAVG (Table 9-11). -/
def navgOf (c : Nat) : Nat := match c with | 0 => 4 | 1 => 8 | _ => 16

/-- The curve of a set (Table 9-22). -/
def State.curve (s : State) (h i : Nat) : Curve :=
  { cvb := s.rd (Reg.SHUT_CVB h i), cvr := s.rdPair (Reg.SHUT_CVR0 h i) (Reg.SHUT_CVR1 h i)
    cvf := s.rd (Reg.SHUT_CVF h i), cvo := s.rdS (Reg.SHUT_CVO h i)
    tlo := s.rd (Reg.SHUT_TLO h i), thi := s.rd (Reg.SHUT_THI h i) }

/-! ### The end of a recalibration -/

/-- A recalibration ends (Table 9-2): IDLE, ELAPSED from 0, a new BREF, a filter-reset frame, its event record, and the
archive of a successful one (R171, R166, R182, R183). -/
def State.shutEnd (s : State) (h : Nat) : State :=
  match (s.shutHead h).recal with
  | none => s
  | some r =>
    let st := s.rd (Reg.SHUT_STAT_STATUS h)
    let s := s.setShut h (fun x => { x with
      recal := none, startAt := none, bref := none, blindCount := 0, counting := true })
    let s := ((s.setPhase h Phase.IDLE).wr (Reg.SHUT_ELAPSED h) 0).setHead h (fun x => { x with filtReset := true })
    let s := s.logEvent 0x04 ([h, r.set, s.rd (Reg.SHUT_STAT_CAUSE h), st, r.k] ++ le3 (min (2 ^ 18 - 1) (r.clipped.length / 16)))
    let s := s.irq 11
    if st = Status.OK then
      s.queueArchive h (r.start, r.set, BitVec.ofNat 18 (s.rd (Reg.SHUT_TSHUT h)),
        BitVec.ofNat 18 (s.rd (Reg.PE_TCAL h r.set)))
    else s

/-- Finalization of the frames averaged so far is pending; CLIP shows their limited pixels (R180, R181). -/
def State.shutFinal (s : State) (h : Nat) (r : Recal) : State :=
  let f : Final := { start := r.start, k := r.k, level := r.level, oldSums := r.oldSums, sumTsh := r.sumTsh,
                     sumFpa := r.sumFpa, set := r.set }
  (s.setShut h (fun x => { x with final := some f })).wr (Reg.SHUT_CLIP h) (min (2 ^ 18 - 1) (r.clipped.length / 16))

/-- OPENING with its STATUS; with `fin`, finalization is pending (Table 9-2). -/
def State.shutOpen (s : State) (h status : Nat) (partly fin : Bool) : State :=
  match (s.shutHead h).recal with
  | none => s
  | some r =>
    let s := s.setShut h (fun x => { x with recal := some { r with taken := 0, o1 := none } })
    let s := ((s.setPhase h Phase.OPENING).wr (Reg.SHUT_STAT_STATUS h) status).wrB (Reg.SHUT_STAT_PARTIAL h) partly
    if fin then s.shutFinal h r else s

/-- ABORT, or a channel that faults or takes its safe state (Table 9-2). -/
def State.shutLost (s : State) (h status : Nat) : State :=
  match (s.shutHead h).recal with
  | none => s
  | some r =>
    if Nat.ble Phase.CLOSING (s.phase h) && Nat.ble (s.phase h) Phase.AVERAGE then
      if 0 < r.k then s.shutOpen h Status.OK true true else s.shutOpen h status false false
    else s

/-- The shutter channels as the controller sees them (R170, R175): a peak that has begun after a delay, at the VG turn-on of
its channel; a FAULT, a safe state. -/
def State.shutWatch (s : State) : State :=
  (List.range 4).foldl (fun s h =>
    match (s.shutHead h).recal with
    | none => s
    | some r =>
      let v := s.vstate r.vlv
      if v = VState.FAULT then s.shutLost h Status.FAULT
      else if v = VState.OFF then s.shutLost h Status.DOWN
      else if s.phase h = Phase.CLOSING ∧ r.peakAt.isNone ∧ (v = VState.PEAK ∨ v = VState.HOLD) then
        let x := s.valve r.vlv
        s.setRecal h (fun r => { r with peakAt := some (x.vgAt.getD (x.leadUntil.getD s.now)) })
      else s) s

/-- The port leaves IN_SERVICE, or a HEADCAL reload starts: IDLE, the flag released, STATUS DOWN (Table 9-2). A pending
finalization stays, and one of the frames averaged so far becomes pending, since they cannot be undone (R180, R181). -/
def State.shutDrop (s : State) (h : Nat) : State :=
  match (s.shutHead h).recal with
  | none => s.setShut h (fun x => { x with startAt := none })
  | some r =>
    let p := s.phase h
    let short := p == Phase.AVERAGE && r.k != 0
    let s := if short then s.shutFinal h r else s
    let s := (s.shutRelease r.vlv s.now).wr (Reg.SHUT_STAT_STATUS h) Status.DOWN
    (if p = Phase.OPENING ∨ p = Phase.SETTLE2 then s else s.wrB (Reg.SHUT_STAT_PARTIAL h) short).shutEnd h

/-! ### The start and the phases (R175, Table 9-2) -/

/-- A recalibration starts at the FT edge of frame S with the close command. -/
def State.shutStart (s : State) (h causes : Nat) : State :=
  let v := s.rd (Reg.SHUT_CFG_VLV h)
  let r : Recal :=
    { start := s.tick.frame, set := s.rd (Reg.HEAD_CUR_SET h), vlv := v, nsettle := s.rd (Reg.SHUT_SEQ_NSETTLE h)
      navg := navgOf (s.rd (Reg.SHUT_SEQ_NAVG h)), tclose := s.rd (Reg.SHUT_CFG_TCLOSE h)
      topen := s.rd (Reg.SHUT_CFG_TOPEN h), peakAt := none, taken := 0, level := 0, oldSums := (0, 0, 0), k := 0
      sumTsh := 0, sumFpa := 0, clipped := [], o1 := none }
  let s := s.setShut h (fun x => { x with recal := some r, cmd := false, startCmd := false, startAt := none,
                                          startup := false })
  let s := ((s.setPhase h Phase.CLOSING).wr (Reg.SHUT_STAT_CAUSE h) causes).wrB (Reg.SHUT_STAT_PEND h) false
  let s := s.batch (4 + h)
  let (st, s) := s.shutClose v s.now
  if st = Status.OK then (s.setRecal h (fun r => { r with peakAt := some s.now })).shutWatch
  else if st = Status.DELAYED then s.shutWatch
  else ((s.wr (Reg.SHUT_STAT_STATUS h) Status.REFUSED).wrB (Reg.SHUT_STAT_PARTIAL h) false).shutEnd h

/-- A calibration burst of the head still runs (R379): its frame's count is not over. -/
def State.calRuns (s : State) (h : Nat) : Bool :=
  match s.bursts.running with
  | some b => b.head == h && b.cal != 0
  | none => false

/-- The release at O1. -/
def State.shutO1 (s : State) (h : Nat) : State :=
  match (s.shutHead h).recal with
  | none => s
  | some r => (s.shutRelease r.vlv s.now).setRecal h (fun r => { r with o1 := some s.now })

/-- A taken frame begins while a recalibration runs. -/
def State.shutAdvance (s : State) (h : Nat) : State :=
  match (s.shutHead h).recal with
  | none => s
  | some r =>
    let step := fun (s : State) => s.setRecal h (fun r => { r with taken := r.taken + 1 })
    match s.phase h with
    | 1 =>
      match r.peakAt with
      | some p =>
        if p + 1000000 * r.tclose ≤ s.now then (s.setPhase h Phase.SETTLE1).setRecal h (fun r => { r with taken := 1 })
        else s
      | none => s
    | 2 =>
      if r.nsettle + 8 ≤ r.taken ∧ !s.calRuns h then (s.shutOpen h Status.TIMEOUT false false).shutO1 h else step s
    | 3 =>
      if 2 * r.navg ≤ r.taken ∧ !s.calRuns h then
        (if 0 < r.k then s.shutOpen h Status.OK true true else s.shutOpen h Status.TIMEOUT false false).shutO1 h
      else step s
    | 4 =>
      match r.o1 with
      | none => s.shutO1 h
      | some t =>
        if t + 1000000 * r.topen ≤ s.now ∧ (s.shutHead h).final.isNone then
          (s.setPhase h Phase.SETTLE2).setRecal h (fun r => { r with taken := 1 })
        else s
    | _ => if r.nsettle ≤ r.taken then s.shutEnd h else step s

/-- The FT edge of a taken frame of the head: phases advance, a decided or start-up recalibration starts, and LASTF takes
the first normal frame (R172, R174, R175, R181). A decided one does not start once the controller has left IN_SERVICE (R50,
R129). -/
def State.shutFt (s : State) (h : Nat) : State :=
  let x := s.shutHead h
  let s :=
    if x.recal.isSome then s.shutAdvance h
    else if x.startup then (if s.eng .shut = stInService then s.shutStart h 32 else s)
    else match x.startAt with
      | some c => if s.eng .shut = stInService then s.shutStart h c else s.setShut h (fun x => { x with startAt := none })
      | none => s
  let x := s.shutHead h
  if x.lastfPend && !s.inRecal h then
    ((s.wrPair (Reg.SHUT_LASTF0 h) (Reg.SHUT_LASTF1 h) s.tick.frame.toNat)).setShut h (fun x => { x with lastfPend := false })
  else s

/-- A change to an uncalibrated set applies: a recalibration with cause FORCED (R174). -/
def State.shutForce (s : State) (h : Nat) : State :=
  if s.rdB (Reg.SHUT_CFG_EN h) && s.eng .shut == stInService && (s.shutHead h).recal.isNone then
    s.setShut h (fun x => { x with startAt := some (x.startAt.getD 0 ||| 32) })
  else s

/-! ### Triggers (R171, R172) -/

/-- |a − b| of two means as sums with counts, over a threshold. -/
def meansDiffer (a b : Int × Nat) (thr : Nat) : Bool :=
  decide (thr * (a.2 * b.2) < (a.1 * b.2 - b.1 * a.2).natAbs)

/-- The blind stand at a normal burst: BREF, BLRES and the count of bursts over BLTHR. BLRES is rounded to one of its two
neighbours: R171 does not say which (notes/assumptions/1). -/
def State.blindEval (s : State) (h : Nat) (b : Int × Nat) : State :=
  let stand := s.rd (Reg.SHUT_BLIND_BLSTAND h)
  if stand = 0 ∨ b.2 = 0 then s.setShut h (fun x => { x with blindCount := 0 })
  else
    let ref := (s.shutHead h).bref.getD b
    let num := b.1 * ref.2 - ref.1 * b.2
    let den : Int := (b.2 * ref.2 : Nat)
    let (up, s) := if num % den = 0 then (false, s) else s.freeB
    let v := clampInt (-131072) 131071 (num / den + if up then 1 else 0)
    let off := meansDiffer b ref (s.rd (Reg.SHUT_BLIND_BLTHR h))
    (s.setShut h (fun x => { x with bref := some ref, blindCount := if off then min 4 (x.blindCount + 1) else 0 })).wrS
      (Reg.SHUT_BLRES h) v

/-- A recalibration may start (R172), TMIN apart. -/
def State.canStart (s : State) (h : Nat) : Bool :=
  s.rdB (Reg.SHUT_CFG_EN h) && s.eng .shut == stInService && s.headState h == stInService &&
  s.rd (Reg.HEAD_NEXTCTL_CSTAGE h) != 1 && s.rd (Reg.HEAD_NEXTCTL_CSTAGE h) != 2

/-- The evaluation at the end of a normal burst (R171, R172). One that ends late, within a recalibration (R379), starts no
second one. -/
def State.shutEval (s : State) (h : Nat) (res : FrameRes) (refine : Bool) (blind : Int × Nat) : State :=
  let first := !(s.shutHead h).corrected
  let s := s.setShut h (fun x => { x with
    corrected := true
    cmd := x.cmd || (first && s.rdB (Reg.SHUT_SEQ_STARTCAL h))
    startCmd := x.startCmd || (first && s.rdB (Reg.SHUT_SEQ_STARTCAL h)) })
  if !s.works .shut then s
  else
    let s := s.blindEval h blind
    let x := s.shutHead h
    let elapsed := s.rd (Reg.SHUT_ELAPSED h)
    let held := (if x.blindCount = 4 then 1 else 0) +
      (if refine && Nat.blt (s.rd (Reg.SHUT_RATHR h)) (s.rd (Reg.PE_RACT h)) then 2 else 0) +
      (if s.rd (Reg.SHUT_FPATHR h) < ((res.fpa.toNat : Int) - s.rd (Reg.PE_TCAL h res.set)).natAbs then 4 else 0) +
      (if s.rd (Reg.SHUT_TMAX h) ≤ elapsed then 8 else 0)
    let act := (held &&& s.rd (Reg.SHUT_SEQ_TMASK h)) + (if x.cmd then 16 else 0)
    let ok := (Nat.ble (s.rd (Reg.SHUT_TMIN h)) elapsed || x.startCmd) && s.canStart h
    let idle := x.recal.isNone
    let s := s.wrB (Reg.SHUT_STAT_PEND h) (act != 0 && !ok && idle)
    if act ≠ 0 ∧ ok ∧ idle then s.setShut h (fun x => { x with startAt := some act }) else s

/-! ### Calibration bursts (R178 to R182) -/

/-- The drift sample record of a recalibration that reaches AVERAGE (R182, Table 16-7). -/
def State.driftRecord (s : State) (h : Nat) (start : BitVec 36) (d : List Int) (x : Int) (m : SettleSums) : State :=
  let sref := s.rdS (Reg.PE_SREF h m.set)
  let z (k : Nat) : Option Int :=
    match m.cls[k]? with
    | some (n, c) =>
      if n < 16 then none
      else
        let mean := (F64.ofInt c).div (.ofInt n)
        some (((F64.ofInt (d.getD k 0 - sref)).sub (mean.sub m.sExp)).roundSat (-8388608) 8388607)
    | none => none
  let zs := (List.range 64).map z
  let mask := (mapIdxFrom (fun k o => if (o : Option Int).isSome then 2 ^ k else 0) 0 zs).foldl (· + ·) 0
  let base := 64 + 64 * h + 16 * m.set
  let (i, q) := ringNext s.tallyView (fun i => 256 * (base + i)) 16 256 0xD5
  let body := [0xD5#8, BitVec.ofNat 8 (m.set + 4 * h)] ++ leBytes 2 q ++ leBytes 5 start.toNat ++
    leBytes 3 (ofSigned 24 x) ++ leBytes 8 mask ++
    (zs.map fun o => leBytes 3 (ofSigned 24 (o.getD 0))).flatten ++ List.replicate 40 0#8
  s.pulsePage .aux (base + i) (withCheck body)

/-- A completed settle frame (R179). `d` are the drift offsets D(k) of its burst, `x` its ΔT. -/
def State.settleEnd (s : State) (h : Nat) (late : Bool) (d : List Int) (x : Int) (m : SettleSums) : State :=
  match (s.shutHead h).recal with
  | none => s
  | some r =>
    if r.taken < r.nsettle + (if late then 1 else 0) then s
    else if !m.uniform then s.shutOpen h Status.IMPLAUSIBLE false false
    else
      let s := (s.setPhase h Phase.AVERAGE).setRecal h (fun r => { r with
        taken := if late then 1 else 0, level := m.levelL, oldSums := (m.sumOfs, m.sumGn, m.n), k := 0 })
      let s := s.setShut h (fun q => { q with gnSums := some (m.sumGn, m.n) })
      s.driftRecord h r.start d x m

/-- An averaged frame (R180): the burst's new pixels and the ones whose deviation was limited. -/
def State.averageEnd (s : State) (h : Nat) (res : FrameRes) (px : List Px) (clipped : List Nat) : State :=
  let s := s.setHead h (fun x => { x with px := px })
  let s := s.setRecal h (fun r => { r with
    k := r.k + 1, sumTsh := r.sumTsh + res.sht.toNat, sumFpa := r.sumFpa + res.fpa.toNat
    clipped := r.clipped ++ clipped.filter (fun i => !memNat i r.clipped) })
  match (s.shutHead h).recal with
  | some r => if r.navg ≤ r.k then s.shutOpen h Status.OK false true else s
  | none => s

/-- Mean of a sum over a count. -/
def meanF (sum : Int) (n : Nat) : F64 := if n = 0 then .fin 0 0 else .ofFrac sum n

/-- Finalization (R181): the planes, the level of the set, the re-based levels of the other calibrated sets, CAL. -/
def State.finalizeEnd (s : State) (h : Nat) (uecc : List Nat) : State :=
  match (s.shutHead h).final with
  | none => s
  | some f =>
    let px := finalizePx f.level f.k (s.px h) uecc
    let good := px.filter (fun p => !p.snag)
    let s := (s.setHead h (fun x => { x with px := px })).setShut h (fun x => { x with final := none, lastfPend := true })
    let tsh := meanF f.sumTsh f.k
    let fpa := meanF f.sumFpa f.k
    let dL := (meanF (sumInt (good.map (·.ofs.toInt))) good.length).sub (meanF f.oldSums.1 f.oldSums.2.2)
    let gnm := (meanF f.oldSums.2.1 f.oldSums.2.2).div (.ofInt 65536)
    let c := s.curve h f.set
    let sref := ((F64.ofInt c.cvo).add (c.w tsh)).roundSat (-131072) 131071
    let s := (List.range 4).foldl (fun s i =>
      if i = f.set ∨ !s.rdB (Reg.HEAD_SETGAIN_CAL h i) then s
      else
        let gt : Nat := (List.range 64).foldl (fun a k => a + s.rd (Reg.PE_GT h (64 * i + k))) 0
        let gtm := (meanF gt 64).div (.ofInt 65536)
        let d := ((((F64.ofInt 2).mul dL).mul gnm).mul gtm).roundSat (-1000000) 1000000
        s.wrS (Reg.PE_SREF h i) (sat18s (s.rdS (Reg.PE_SREF h i) + d))) s
    let s := (s.wrS (Reg.PE_SREF h f.set) sref).wr (Reg.PE_TCAL h f.set) (fpa.roundSat 0 262143).toNat
    let s := (s.wrB (Reg.HEAD_SETGAIN_CAL h f.set) true).curSync h
    s.wr (Reg.SHUT_TSHUT h) (tsh.roundSat 0 262143).toNat

/-! ### Commands (R173) -/

def fpShut : Footprint :=
  { regs := [Blk.range .shut, Blk.range .vlv, Blk.range .tally, Blk.range .cmp, (0x2006, 0x2007), (0x4000, 0x5000),
             (0x3000, 0x4000)]
    parts := [.shut, .heads, .act, .tally, .cmp, .cruise, .freeCtr] }

/-- SHUT_RECAL (R173). -/
def execShutRecal (h : Fin 4) (s : State) : Host.Outcome State Fault Refusal :=
  let g := s.gate .shut true
  let x := s.shutHead h.val
  let inTime := Nat.ble (s.rd (Reg.SHUT_TMIN h.val)) (s.rd (Reg.SHUT_ELAPSED h.val))
  let st := if g ≠ Status.OK then g
    else if !x.cmd ∧ s.phase h.val ≠ Phase.IDLE then Status.ILLEGAL_STATE
    else if inTime then Status.OK else Status.DELAYED
  let t := if st = Status.OK ∨ st = Status.DELAYED then s.setShut h.val (fun x => { x with cmd := true }) else s
  done fpShut s (t.answer .shut (0x48 + 0x20 * h.val) (some (Reg.SHUT_CMD_CSTAT h.val)) st)

/-- SHUT_ABORT (R173). -/
def execShutAbort (h : Fin 4) (s : State) : Host.Outcome State Fault Refusal :=
  let g := s.gate .shut true
  let p := s.phase h.val
  let st := if g ≠ Status.OK then g
    else if Nat.ble Phase.CLOSING p && Nat.ble p Phase.AVERAGE then Status.OK else Status.ILLEGAL_STATE
  let t := if st = Status.OK then s.shutLost h.val Status.DOWN else s
  done fpShut s (t.answer .shut (0x48 + 0x20 * h.val) (some (Reg.SHUT_CMD_CSTAT h.val)) st)

/-- ELAPSED_TICK (R171). -/
def execElapsedTick (h : Fin 4) (s : State) : Host.Outcome State Fault Refusal :=
  done fpShut s (if (s.shutHead h.val).counting then s.bump (Reg.SHUT_ELAPSED h.val) else s)

/-! ### The cruise (R188 to R192) -/

/-- The next head from `h` on that can be surveyed: one with pixels. -/
def State.cruiseHead (s : State) (h : Nat) : Option Nat :=
  ((List.range 4).filter (fun i => Nat.ble h i && s.headPixels i != 0)).head?

def State.cruiseAt (s : State) (o : Option Nat) : State :=
  let s := { s with cruise := { s.cruise with head := o } }
  match o with
  | some h => (s.wrB Reg.SHUT_CRSTAT_RUN true).wr Reg.SHUT_CRSTAT_HEAD h
  | none => s.wrB Reg.SHUT_CRSTAT_RUN false

/-- CRUISE_START: the RTC reaches CRTIME minutes after midnight (R188). -/
def execCruiseStart (s : State) : Host.Outcome State Fault Refusal :=
  done fpShut s
    (if s.rdB Reg.SHUT_CRCFG_EN && s.works .shut && s.cruise.head.isNone &&
        s.rtc.sec.toNat % 86400 == 60 * s.rd Reg.SHUT_CRCFG_CRTIME then s.cruiseAt (s.cruiseHead 0)
     else s)

/-- CRUISE_TIMEOUT (R188). -/
def execCruiseTimeout (s : State) : Host.Outcome State Fault Refusal :=
  done fpShut s
    (if s.cruise.head.isSome then (s.wr Reg.SHUT_CRSTAT_STATUS Status.TIMEOUT).cruiseAt none else s)

/-- The drift sample records of a head in the tally store (R182, R189). -/
def State.driftSamples (s : State) (h : Nat) : List DriftSample :=
  let m := s.tally.mem
  ((List.range 64).filterMap fun i =>
    let a := 256 * (64 + 64 * h + i)
    match ringEntry m a 256 0xD5 with
    | none => none
    | some _ =>
      let bs := viewBytes m a 256
      let mask := leNat (slice bs 12 8)
      some { start := BitVec.ofNat 36 (leNat (slice bs 4 5)), set := leNat (slice bs 1 1) % 4
             x := toSigned 24 (leNat (slice bs 9 3))
             z := (List.range 64).map fun k =>
               if mask / 2 ^ k % 2 = 1 then some (toSigned 24 (leNat (slice bs (20 + 3 * k) 3))) else none })

/-- The archive in a slot of the head's ring in flash, where its header and its stream are whole: an OFS plane of the head's
geometry (R183, R371). Neither header holds t_j: it is known of the planes archived since reset, and open of the others
(notes/assumptions/1). -/
def State.archiveAt (s : State) (h slot : Nat) : Option Archive :=
  let (addr, size) := s.archiveSlot h slot
  let chip := s.rd (Reg.SHUT_ARCH0_ARCHCS h)
  let byte (i : Nat) : Byte := s.flashByte chip (addr + i)
  let hd := (List.range 16).map byte
  let b1 := leNat (slice hd 1 1)
  let n := leNat (slice hd 8 4)
  if hd.take 1 ≠ [0xA9#8] ∨ (crc32 (hd.take 12)).toNat ≠ leNat (slice hd 12 4) ∨ b1 % 4 ≠ h ∨ size < 16 + n then none
  else match decodePlane ((List.range n).map (fun i => byte (16 + i))) with
    | .error _ => none
    | .ok (p, _, _) =>
      if p.kind ≠ 2 ∨ p.width ≠ s.rd (Reg.HEAD_WIDTH h) ∨ p.height ≠ s.rd (Reg.HEAD_HEIGHT h) then none
      else
        let f := BitVec.ofNat 36 p.frame
        let t := match (s.shutHead h).archTimes.find? (fun e => e.1 == slot && e.2.1 == f) with
          | some e => e.2.2
          | none => Config.freeNat (s.freeCtr + slot) % 2 ^ 32
        some { slot := slot, start := f, set := b1 / 4 % 4, tsh := BitVec.ofNat 18 (leNat (slice hd 2 3))
               fpa := BitVec.ofNat 18 (leNat (slice hd 5 3)), time := t, plane := p.samples.map (BitVec.ofNat 18 ·) }

/-- The archives of a head, slot by slot. -/
def State.archives (s : State) (h : Nat) : List Archive :=
  (List.range (s.rd (Reg.SHUT_ARCH1_SLOTS h))).filterMap (s.archiveAt h)

/-- What the survey of a head reads: the archives streamed from flash, and GNMEAN as the controller keeps it. Before a
recalibration since reset it keeps none, and GNMEAN is open (notes/assumptions/1). -/
def State.cruiseIn (s : State) (h : Nat) : CruiseIn :=
  let tab (f : Nat → Nat → Fld) : List (List Int) :=
    (List.range 4).map fun i => (List.range 64).map fun k => s.rdS (f h (64 * i + k))
  { px := s.px h, archives := s.archives h, samples := s.driftSamples h
    curves := (List.range 4).map (s.curve h)
    gt := (List.range 4).map fun i => (List.range 64).map fun k => s.rd (Reg.PE_GT h (64 * i + k))
    a1 := tab Reg.PE_A1, a2 := tab Reg.PE_A2, set := s.rd (Reg.HEAD_CUR_SET h)
    navg := navgOf (s.rd (Reg.SHUT_SEQ_NAVG h)), replan := s.rdB Reg.SHUT_CRCFG_REPLAN
    netdt := s.rd (Reg.SHUT_NETDT h)
    gnMean := match (s.shutHead h).gnSums with
      | some (g, n) => meanF g n
      | none => .ofFrac (Config.freeNat (s.freeCtr + 7)) (Config.freeNat (s.freeCtr + 8) + 1) }

/-- Register tables of a head from lists. -/
def State.putTab (s : State) (h : Nat) (f : Nat → Nat → Fld) (t : List (List Nat)) : State :=
  (List.range 4).foldl (fun s i => (List.range 64).foldl (fun s k =>
    s.wr (f h (64 * i + k)) ((t.getD i []).getD k 0)) s) s

/-- A head's results take effect and its cruise record is written (R192, Table 16-8). -/
def State.cruiseApply (s : State) (h : Nat) (o : CruiseOut) : State :=
  let sg (t : List (List Int)) : List (List Nat) := t.map (·.map (ofSigned 18))
  let s := s.setHead h (fun x => { x with px := o.px })
  let s := ((s.putTab h Reg.PE_GT o.gt).putTab h Reg.PE_A1 (sg o.a1)).putTab h Reg.PE_A2 (sg o.a2)
  let s := match o.netd with | some v => s.wr (Reg.SHUT_NETD h) v | none => s
  let s := match o.resp with | some v => s.wr (Reg.SHUT_RESP h) v | none => s
  let s := s.wr (Reg.SHUT_NEWSNAG h) (min (2 ^ 18 - 1) o.newSnags)
  let s := match o.plan1 with
    | some (alo, mlo, mhi, bl) =>
      ((((s.wr (Reg.PE_TFALPHA h) alo).wr (Reg.PE_TFMLO h) mlo).wr (Reg.PE_TFMHI h) mhi).wr (Reg.SHUT_BLIND_BLTHR h) bl)
    | none => s
  let s := match o.planFpa with | some v => s.wr (Reg.SHUT_FPATHR h) v | none => s
  let s := match o.planT with | some (a, b) => (s.wr (Reg.SHUT_TMAX h) a).wr (Reg.SHUT_TMIN h) b | none => s
  let st := if o.implausible then Status.IMPLAUSIBLE else Status.OK
  let s := s.wr Reg.SHUT_CRSTAT_STATUS st
  let bits (l : List Bool) : Nat := (mapIdxFrom (fun i (b : Bool) => if b then 2 ^ i else 0) 0 l).foldl (· + ·) 0
  let base := 320 + 4 * h
  let (i, q) := ringNext s.tallyView (fun i => 256 * (base + i)) 4 256 0xC7
  let body := [0xC7#8, BitVec.ofNat 8 h] ++ leBytes 2 q ++ leBytes 5 s.tick.frame.toNat ++
    [BitVec.ofNat 8 st, BitVec.ofNat 8 (bits o.steps)] ++ leBytes 2 (min 65535 (s.rd (Reg.SHUT_NETD h))) ++
    leBytes 3 (s.rd (Reg.SHUT_RESP h)) ++ leBytes 3 o.newSnags ++ (o.fitted.map fun l => leBytes 8 (bits l)).flatten ++
    leBytes 4 s.rtc.sec.toNat ++ List.replicate 197 0#8
  s.pulsePage .aux (base + i) (withCheck body)

/-- A burst, a pass or a resident run of the head is under way, which word writes wait for (R153, R364). -/
def State.pxBusy (s : State) (h : Nat) : Bool :=
  s.bursts.running.any (fun b => b.head == h) || s.stat.running.any (fun p => p.head == h) ||
  (s.runsResident h && s.cmp.running.any (fun j => j.run.isSome))

/-- CRUISE_SURVEY_END: the survey of head `h` ends, while the cruise is not paused, the head's words are free and no job uses
the coders that it decodes the archives with (R188, R192, R360); the next head follows. -/
def execCruiseSurveyEnd (h : Fin 4) (s : State) : Host.Outcome State Fault Refusal :=
  done fpShut s
    (if s.cruise.head = some h.val ∧ s.rd Reg.THM_STAT_LEVEL = 0 ∧ !s.inRecal h.val ∧ !s.pxBusy h.val ∧
        s.cmp.running.isNone then
      let s := { s.cruiseApply h.val (runCruise (s.cruiseIn h.val)) with freeCtr := s.freeCtr + 9 }
      s.cruiseAt (s.cruiseHead (h.val + 1))
    else s)

end Sys2Proof.Machine
end

