-- ==== Sys2Proof/Machine/Bursts.lean ====
section
/-! DEFINITION. Bursts and statistics passes: the run of the pixel engines over a frame (chapter 8), and what statistics,
occupants and the stands' records take from it (chapter 10). -/

namespace Sys2Proof.Machine
open Sys2Proof

/-- A field counted up by `n`, saturating. -/
def State.bumpBy (s : State) (f : Fld) (n : Nat) : State :=
  s.wr f (min (2 ^ (f.hi + 1 - f.lo) - 1) (s.rd f + n))

/-- A power domain takes a state. -/
def State.setDom (s : State) (d : Nat) (x : Domain) : State :=
  { s with power := { s.power with doms := vmod s.power.doms d (fun _ => x) } }

/-! ### Requests (R87, R141, R150) -/

/-- The domains of the pixel engines in service go to a state (R87). -/
def State.peDomains (s : State) (st : DomState) : State :=
  (List.range 4).foldl (fun s n => if s.peWorks n then s.setDom (10 + n) { st := st, pend := none } else s) s

/-- A resident run of a state or map field of the head is cut by a burst request (R364). -/
def State.cutForBurst (s : State) (h : Nat) : State :=
  match s.cmp.running with
  | some j => if j.kind = 6 then s.gapEnds h else (s.cutRun h).gapEnds h
  | none => s

/-- The port requests the burst of a closed frame; the engines wake (R141, R87). -/
def State.burstRequest (s : State) (h : Nat) (res : FrameRes) (slot0 : Nat) : State :=
  let b : Burst := { head := h, res := res, slot0 := slot0, cal := 0, late := false, ctx := none, raw := [],
                     frst := false, first := false }
  (({ s with bursts := { s.bursts with waiting := s.bursts.waiting ++ [b] } }).cutForBurst h).peDomains .on

/-- PE_RETENTION_ENTRY: after the last burst of a run the engines step down to retention (R87). -/
def execPeRetentionEntry (s : State) : Host.Outcome State Fault Refusal :=
  done { regs := [], parts := [.bursts, .power] } s
    (if s.bursts.running.isNone && s.bursts.waiting.isEmpty then
      ({ s with bursts := { s.bursts with awake := false } }).peDomains .ret
    else s)

/-! ### The latched values of a burst (R156, R161, R186) -/

/-- The values of a burst of head `h`, from the registers as they stand in `s`. -/
def State.burstCtx (s : State) (h : Nat) (res : FrameRes) (frst : Bool) : BurstCtx :=
  let i := res.set
  let dT := clampInt (-16384) 16383 ((res.fpa.toNat : Int) - s.rd (Reg.PE_TCAL h i))
  let sref := s.rdS (Reg.PE_SREF h i)
  let cv := s.curve h i
  let st := (s.standsOf h).map fun n => (n, corrPair cv (s.rd (Reg.STAND_SCFG_EPS n)) (s.rd (Reg.STAND_SCFG_TREFL n)))
  { width := s.rd (Reg.HEAD_WIDTH h), height := s.rd (Reg.HEAD_HEIGHT h), frame := res.frame.toNat
    d := (List.range 64).map fun k => driftOffset sref (s.rdS (Reg.PE_A1 h (64 * i + k))) (s.rdS (Reg.PE_A2 h (64 * i + k))) dT
    gt := (List.range 64).map fun k => s.rd (Reg.PE_GT h (64 * i + k))
    refine := s.rdB (Reg.PE_CTL_RFEN h) && res.frame.toNat % s.rd (Reg.PE_RPER h) == 0
    rgate := s.rd (Reg.PE_RGATE_RGATE h), rdead := s.rd (Reg.PE_RGATE_RDEAD h), rflat := s.rd (Reg.PE_RFLAT h)
    alpha256 := !s.rdB (Reg.PE_CTL_TFEN h) || frst
    mlo := s.rd (Reg.PE_TFMLO h), mhi := s.rd (Reg.PE_TFMHI h), alo := s.rd (Reg.PE_TFALPHA h)
    cvo := cv.cvo, wlo := s.rdS (Reg.SHUT_WLO h i), wscl := s.rd (Reg.SHUT_WSCL h i)
    lut := (s.head h).radTab.getD i []
    pair := (0, corrPair cv (s.rd (Reg.SHUT_EPS h)) (s.rd (Reg.SHUT_TREFL h))) :: st }

/-- The lines of a frame in ring order, where each slot carries the frame's tag and its line index (R158). -/
def State.ringLines (s : State) (h : Nat) (frame : BitVec 36) (slot0 : Nat) : Option (List (List Nat)) :=
  let ring := (s.head h).ring
  let line (y : Nat) : Option (List Nat) :=
    match (ring[(slot0 + y) % ring.length]?).join with
    | some sl => if sl.tagFrame = frameTag frame ∧ sl.tagLine = y then some (sl.pixels.map (·.toNat)) else none
    | none => none
  let ls := (List.range (s.rd (Reg.HEAD_HEIGHT h))).map line
  if ls.any (·.isNone) then none else some (ls.filterMap id)

/-! ### Start (R150, R153, R156, R158) -/

def fpBurst : Footprint :=
  { regs := [(0x3000, 0x5000), Blk.range .shut, Blk.range .stand, Blk.range .occ, Blk.range .ctx, Blk.range .cmp,
             Blk.range .vlv, Blk.range .clk, Blk.range .fab, Blk.range .tally, (0x2006, 0x2007), (0x9800, 0x9C00),
             (0x1000, 0x1001)]
    parts := [.bursts, .heads, .shut, .stat, .ctx, .points, .act, .tally, .cmp, .clock, .therm, .power, .freeCtr] }

/-- A frame dropped on the burst side, before or instead of its burst: PE_BSTAT reports DROPPED with its reason (R157,
R158). Within a recalibration its records carry HELD (R177, R200). -/
def State.burstDrop (s : State) (b : Burst) (late : Bool) : State :=
  let h := b.head
  let s := ((s.wr (Reg.PE_BSTAT_STATUS h) Status.DROPPED).wrB (Reg.PE_BSTAT_LATE h) late).wrB (Reg.PE_BSTAT_RING h) (!late)
  let s := if late then s.bump (Reg.PE_LATE h) else s.bump (Reg.PE_RING h)
  s.frameLost h b.res (if s.inRecal h then Status.HELD else Status.DROPPED)

/-- The mode of a burst that starts: finalization first, then the phase of a recalibration, else the normal pipeline. -/
def State.burstMode (s : State) (h : Nat) : Nat :=
  let x := s.shutHead h
  if x.final.isSome then Phase.FINAL
  else if x.recal.isSome then s.phase h
  else 0

/-- BURST_START: the first waiting burst starts once no burst runs, an engine is in service, PLLB is locked, and no pass of
its head runs (R150, R91, R153). -/
def execBurstStart (s : State) : Host.Outcome State Fault Refusal :=
  done fpBurst s
    (match s.bursts.running, s.bursts.waiting with
     | none, b :: bs =>
       let h := b.head
       if !s.anyPe || !s.rdB Reg.CLK_STAT_PLLBLK || s.stat.running.any (fun p => p.head == h) then s
       else
         let s := { s with bursts := { s.bursts with waiting := bs } }
         match s.ringLines h b.res.frame b.slot0 with
         | none => s.burstDrop b false
         | some raw =>
           let m := s.burstMode h
           let normal := m == 0
           let b := { b with cal := m, ctx := some s.regs, raw := raw, frst := normal && (s.head h).filtReset
                             first := !s.bursts.awake }
           let s := { s with bursts := { s.bursts with running := some b, awake := true } }
           let s := if normal then s.setHead h (fun x => { x with filtReset := false }) else s
           s.wrB (Reg.PE_BSTAT_RUN h) true
     | _, _ => s)

/-! ### End (R150 to R168, R178 to R181, R379) -/

/-- PLLB takes a new multiplier when no burst runs; it then relocks (R91). -/
def State.fbkTake (s : State) : State :=
  match s.clock.pendFbk with
  | some k =>
    (({ s with clock := { s.clock with pendFbk := none } }).wr Reg.CLK_FB_FBK k).wrB Reg.CLK_STAT_PLLBLK false
  | none => s

/-- Where the band takes effect in the fabric and the SRAM assist: at once where no burst runs, else as it ends; a later change
overtakes one that waits (R106). -/
def State.bandFollow (s : State) : State :=
  let b := s.rd Reg.THM_STAT_BAND
  { s with therm :=
    if s.bursts.running.isSome then { s.therm with pendBand := if b = s.therm.storeBand then none else some b }
    else { s.therm with pendBand := none, storeBand := b } }

/-- What waits for the end of the running burst: a change of the burst clock (R91) and of the band (R106). -/
def State.burstGap (s : State) : State := s.fbkTake.bandFollow

/-- Time of a burst in units of 10 ns: 0.625 × P(h) cycles at 150 MHz × FBK, with the wake for the first of a run. R150
gives no rounding (notes/assumptions/1). -/
def State.burstUnits (s : State) (b : Burst) (fbk : Nat) : Nat × State :=
  let num := 5 * s.headPixels b.head
  let den := 12 * max 1 fbk
  let (up, s) := if num % den = 0 then (false, s) else s.freeB
  (min (2 ^ 18 - 1) (num / den + (if up then 1 else 0) + if b.first then 380 else 0), s)

/-- Sixteen averages on a 4 × 4 grid and a histogram of the raw codes (R203). -/
def tzWords (w h : Nat) (raw16 : Bool) (raw : List (List Nat)) : List Nat :=
  let flat := raw.flatten
  let hist := (List.range 64).map fun b =>
    min 0x3FFFF (flat.filter fun r => r / (if raw16 then 1024 else 256) == b).length
  let cells := (mapIdxFrom (fun y row => mapIdxFrom (fun x r => (4 * x / w + 4 * (4 * y / h), r)) 0 row) 0 raw).flatten
  let avg := (List.range 16).map fun c =>
    let v := (cells.filter fun e => e.1 == c).map (·.2)
    if v.isEmpty then 0 else (2 * v.foldl (· + ·) 0 + v.length) / (2 * v.length)
  hist ++ avg

def State.tzStore (s : State) (h : Nat) (raw : List (List Nat)) : State :=
  if s.rd Reg.STAND_TZCFG / 2 ^ h % 2 = 0 then s
  else
    let ws := tzWords (s.rd (Reg.HEAD_WIDTH h)) (s.rd (Reg.HEAD_HEIGHT h)) (s.rd (Reg.HEAD_LINK_DT h) == 2) raw
    (mapIdxFrom (fun i v => (i, v)) 0 ws).foldl (fun s e => s.wr (Reg.STAND_TZ (80 * h + e.1)) e.2) s

/-- The burst side's report of a burst that ended (Table 8-18). -/
def State.burstReport (s : State) (b : Burst) (status : Nat) (refine uecc : Bool) (fbk : Nat) : State :=
  let h := b.head
  let s := ((s.wr (Reg.PE_BSTAT_STATUS h) status).wrB (Reg.PE_BSTAT_RUN h) false).wrB (Reg.PE_BSTAT_LATE h) false
  let s := ((s.wrB (Reg.PE_BSTAT_RING h) false).wrB (Reg.PE_BSTAT_UECC h) uecc).wrB (Reg.PE_BSTAT_FRST h) b.frst
  let s := ((s.wrB (Reg.PE_BSTAT_REFINE h) refine).wrB (Reg.PE_BSTAT_CAL h) (b.cal != 0)).wrB (Reg.PE_BSTAT_LATEEND h) b.late
  let s := (s.wr (Reg.PE_BSTAT_SET h) b.res.set).wrPair (Reg.PE_BFRAME h 0) (Reg.PE_BFRAME h 1) b.res.frame.toNat
  let (t, s) := s.burstUnits b fbk
  let s := (s.wr (Reg.PE_BTIME h) t).wr (Reg.PE_BMAX h) (max t (s.rd (Reg.PE_BMAX h)))
  if b.late then s.bump Reg.FAB_LATEEND else s

/-- A statistics pass waits for a frame whose burst ended in time; with the engine out of service the frame is not processed
(Table 6-7). -/
def State.passRequest (s : State) (h : Nat) (res : FrameRes) : State :=
  { s with stat := { s.stat with waiting := s.stat.waiting ++
      [{ head := h, res := res, ctx := none, seed := false, clear := false, lapsed := !s.works .stat }] } }

/-- The end of a burst of the normal pipeline. -/
def State.normalEnd (s : State) (b : Burst) (uecc : List Nat) : State :=
  let h := b.head
  let c := { s with regs := b.ctx.getD s.regs }
  let cx := c.burstCtx h b.res b.frst
  let o := runBurst cx (s.px h) b.raw uecc
  let s := s.setHead h (fun x => { x with px := o.px, good := some b.res })
  let s := { s with bursts := { s.bursts with
    scratch := (o.cds.drop (o.cds.length - 8)).map (fun (l : List Cd) => l.map (fun (v : Cd) => v.cd)) } }
  let s := s.wr (Reg.PE_SAT h) (min (2 ^ 18 - 1) (o.sat / 16))
  let s := if cx.refine then s.wr (Reg.PE_RACT h) (min (2 ^ 18 - 1) (o.moved / 16)) else s
  let s := (s.bumpBy (Reg.PE_UECC h) uecc.length).tzStore h b.raw
  let s := s.burstReport b (if b.late then Status.DROPPED else b.res.status) cx.refine (!uecc.isEmpty) (c.rd Reg.CLK_FB_FBK)
  let s := if b.late then s.ctxRepeatNow h b.res Status.DROPPED true else (s.passRequest h b.res).ctxNormal h b.res
  s.shutEval h b.res cx.refine (blindSum o.cds (s.px h) (s.rd (Reg.SHUT_BLIND_BLSTAND h)))

/-- The end of a burst of the calibration mode (Table 9-4). The phase has not changed since its start but to OPENING or
IDLE, in which it only releases its lines. Every phase reads words of each pixel (R167); a phase that runs neither stage 3 nor
stage 4 saturates no pixel. -/
def State.calEnd (s : State) (b : Burst) (uecc : List Nat) : State :=
  let h := b.head
  let c := { s with regs := b.ctx.getD s.regs }
  let cx := c.burstCtx h b.res false
  let raw := b.raw.flatten
  let s := (s.bumpBy (Reg.PE_UECC h) uecc.length).wr (Reg.PE_SAT h)
    (if b.cal = Phase.SETTLE1 then min (2 ^ 18 - 1) (settleSat cx (s.px h) raw uecc / 16) else 0)
  let s := s.burstReport b (if b.late then Status.OK else b.res.status) false (!uecc.isEmpty) (c.rd Reg.CLK_FB_FBK)
  let s :=
    if b.cal = Phase.FINAL then s.finalizeEnd h uecc
    else if b.cal ≠ s.phase h then s
    else match (s.shutHead h).recal with
      | none => s
      | some r =>
        if b.cal = Phase.SETTLE1 then
          let cv := c.curve h b.res.set
          let sExp := (F64.ofInt cv.cvo).add (cv.w (.ofInt b.res.sht.toNat))
          let m := settleSums cx (s.px h) raw uecc sExp (c.rd (Reg.SHUT_UNIF h)) b.res.fpa b.res.set
          let x := clampInt (-16384) 16383 ((b.res.fpa.toNat : Int) - c.rd (Reg.PE_TCAL h b.res.set))
          s.settleEnd h b.late cx.d x m
        else if b.cal = Phase.AVERAGE then
          let (px, clip) := averagePx r.level r.navg r.k (s.px h) raw uecc
          s.averageEnd h b.res px clip
        else s
  let s := s.emitEmpty h b.res Status.HELD
  if b.late then s.ctxRepeatNow h b.res Status.HELD false else s.ctxRepeat h b.res Status.HELD false

/-- BURST_END: the running burst writes its last state word. `uecc` lists the pixels read with an uncorrectable error,
`cecc` counts the corrected words (R150, R167). -/
def execBurstEnd (uecc : List Nat) (cecc : Nat) (s : State) : Host.Outcome State Fault Refusal :=
  done fpBurst s
    (match s.bursts.running with
     | none => s
     | some b =>
       let h := b.head
       let s := { s with bursts := { s.bursts with running := none } }
       let s := s.bumpBy (Reg.PE_CECC h) cecc
       let s := (s.releaseLines h b.res.frame).setHead h (fun x => { x with
         noBurst := 0, lastBurst := some (b.res, b.slot0) })
       let s := s.gapBegins h true
       (if b.cal = 0 then s.normalEnd b uecc else s.calEnd b uecc).burstGap.bootRun)

/-- PLLB loses lock during a burst: it stops at a pixel boundary, which is open; the words before it are written, the
others not, and the frame is DROPPED on every path (R380). -/
def State.burstAbort (s : State) : State :=
  match s.bursts.running with
  | none => s
  | some b =>
    let h := b.head
    let (n, s) := s.freeN
    let old := s.px h
    let k := n % (old.length + 1)
    let c := { s with regs := b.ctx.getD s.regs }
    let cx := c.burstCtx h b.res b.frst
    let raw := b.raw.flatten
    let new := if b.cal = 0 then (runBurst cx old b.raw []).px
      else if b.cal = Phase.FINAL then
        match (s.shutHead h).final with | some f => finalizePx f.level f.k old [] | none => old
      else if b.cal = Phase.AVERAGE then
        match (s.shutHead h).recal with | some r => (averagePx r.level r.navg r.k old raw []).1 | none => old
      else old
    let s := { s with bursts := { s.bursts with running := none } }
    let s := s.setHead h (fun x => { x with
      px := new.take k ++ old.drop k, filtReset := x.filtReset || b.frst
      good := if b.cal = 0 then some b.res else x.good })
    let s := (((s.wr (Reg.PE_BSTAT_STATUS h) Status.DROPPED).wrB (Reg.PE_BSTAT_RUN h) false).bump Reg.FAB_BABORT).burstGap
    let st := if b.cal = 0 then Status.DROPPED else Status.HELD
    ((((s.emitEmpty h b.res st).ctxRepeat h b.res st (b.cal == 0)).releaseLines h b.res.frame).noBurst h)

/-- FILTER_RESET: the next frame processed is a filter-reset frame (R166, Table 8-15). -/
def execFilterReset (h : Fin 4) (s : State) : Host.Outcome State Fault Refusal :=
  let b : Blk := .pe h
  let st := s.gate b true
  let t := if st = Status.OK then s.setHead h.val (fun x => { x with filtReset := true }) else s
  done { regs := [b.range], parts := [.heads] } s (t.result b 0x007 st)

/-! ### Statistics passes (R195 to R213) -/

/-- The values of a pass, from the registers as they stand in `s` (R195). -/
def State.passCtx (s : State) (h : Nat) (res : FrameRes) (seed : Bool) : PassCtx :=
  { width := s.rd (Reg.HEAD_WIDTH h), height := s.rd (Reg.HEAD_HEIGHT h), frame := res.frame.toNat
    stands := (s.standsOf h).map fun n =>
      { n := n, occen := s.rdB (Reg.STAND_SCFG0_OCCEN n), hlo := s.rd (Reg.STAND_SCFG_HLO n), hhi := s.rd (Reg.STAND_SCFG_HHI n) }
    occEn := s.rdB (Reg.OCC_CFG_EN h), bsh := s.rd (Reg.OCC_CFG_BSH h), bper := s.rd (Reg.OCC_CFG_BPER h)
    fgthr := s.rd (Reg.OCC_FGTHR h), skinlo := s.rd (Reg.OCC_SKINLO h), skinhi := s.rd (Reg.OCC_SKINHI h)
    aunit := s.rd (Reg.OCC_AREA_AUNIT h), amin := s.rd (Reg.OCC_AREA_AMIN h), dgate := s.rd (Reg.OCC_TRK_DGATE h)
    tlost := s.rd (Reg.OCC_TRK_TLOST h), seed := seed }

def fpStat : Footprint :=
  { regs := [Blk.range .stand, Blk.range .occ, (0x2006, 0x2007), (0x9800, 0x9C00), Blk.range .ctx, (0x1000, 0x1001)]
    parts := [.stat, .heads, .points, .ctx, .cmp, .freeCtr] }

/-- STATISTICS_PASS_START: after the last burst, the first waiting pass starts (R196, R30), of a frame that the engine was in
service for. -/
def execStatisticsPassStart (s : State) : Host.Outcome State Fault Refusal :=
  done fpStat s
    (match s.stat.running, s.stat.waiting.find? (fun p => !p.lapsed) with
     | none, some q =>
       if !s.works .stat || s.bursts.running.isSome || !s.bursts.waiting.isEmpty then s
       else
         let o := s.occHead q.head
         let p := { q with ctx := some s.regs, seed := o.seedNext, clear := o.clearNext }
         ({ s with stat := { s.stat with running := some p, waiting := s.stat.waiting.erase q } }).setOcc p.head (fun o =>
           { o with seedNext := false, clearNext := false })
     | _, _ => s)

/-- A quantity of a stand goes to its point, where PMASK selects it (R201). -/
def State.standPoint (s : State) (st k : Nat) (t : PTrig) : State :=
  let mask := s.rd (Reg.STAND_SCFG0_PMASK st)
  if mask / 2 ^ k % 2 = 0 then s
  else
    let j := ((List.range k).filter fun b => mask / 2 ^ b % 2 == 1).length
    s.srcTrig .stand (.stand st k) (s.rd (Reg.STAND_SCFG5 st) + j) t

/-- The record with values of one stand, and its points (R199, R201, R212, R213). `c` holds the latched registers. -/
def State.standEnd (s c : State) (h : Nat) (res : FrameRes) (cx : PassCtx) (blobs : List Blob) (e : Nat × StandStats × Bool) :
    State :=
  let (st, v, uecc) := e
  let occ := if cx.seed then 0 else occOf blobs st
  let o := occStep (c.rd (Reg.OCC_VACHOLD h)) occ res.frame ((assocGet s.stat.stands st).getD ⟨none, 0⟩)
  let dwell := dwellOf o res.frame s.ftdiv s.stinc
  let s := { s with stat := { s.stat with stands := assocPut s.stat.stands st o } }
  let s := s.putRecord st (recFull h res.set st res.status occ uecc res.frame res.gen v dwell)
  let temp (s : State) (k x : Nat) : State := s.standPoint st k (if v.nvalid = 0 then .noResult else .write (w18 x))
  let s := temp (temp (temp (temp s 0 v.mean) 1 v.min) 2 v.max) 3 v.std
  let s := s.standPoint st 4 (if 262143 < v.nvalid then .clip (w18 262143) else .write (w18 v.nvalid))
  (s.standPoint st 5 (.write (w18 occ))).standPoint st 6 (.write (w18 dwell))

/-- STATISTICS_PASS_END: records, blobs, tracks and points of the frame are complete (R196). -/
def execStatisticsPassEnd (uecc : List Nat) (s : State) : Host.Outcome State Fault Refusal :=
  done fpStat s
    (match s.stat.running with
     | none => s
     | some p =>
       let h := p.head
       let c := { s with regs := p.ctx.getD s.regs }
       let cx := c.passCtx h p.res p.seed
       let o := runPass cx (s.px h) uecc
       let comps := o.comps.filter fun x => Nat.ble cx.amin x.area
       let blobs := (comps.take 256).map (blobOf cx (rowsOfList cx.width cx.height (s.px h)))
       let oh := s.occHead h
       let tracks := if p.seed || p.clear then [] else oh.tracks
       let g := match oh.lastFrame with | some f => (p.res.frame - f).toNat | none => 1
       let tr := pairTracks cx g tracks oh.lastId blobs
       let s := { s with stat := { s.stat with running := none } }
       let s := s.setHead h (fun x => { x with px := o.px, lastPass := some p.res })
       let s := s.gapBegins h false
       let s := s.setOcc h (fun q => { q with
         blobs := tr.blobs, tracks := tr.tracks, lastId := tr.lastId, lastFrame := some p.res.frame, labels := o.labels })
       let s := (s.bumpBy Reg.STAND_FOREIGN o.foreign).bumpBy Reg.STAND_UECC o.uecc
       let lost := comps.length - 256
       let s := (s.bumpBy (Reg.OCC_BOVF h) lost).bumpBy (Reg.OCC_TOVF h) tr.dropped
       let s := if o.lblovf then s.bump (Reg.OCC_LOVF h) else s
       let s := (s.occFrame h p.res.frame p.res.status).wrB (Reg.OCC_FSTAT_SEED h) p.seed
       let s := ((s.wrB (Reg.OCC_FSTAT_BLOBOVF h) (lost != 0)).wrB (Reg.OCC_FSTAT_LBLOVF h) o.lblovf).wrB
         (Reg.OCC_FSTAT_TRKOVF h) (tr.dropped != 0)
       let s := (s.wr (Reg.OCC_FSTAT_NBLOB h) blobs.length).wr (Reg.OCC_TRACKS h) tr.tracks.length
       ((o.stats.foldl (fun s e => s.standEnd c h p.res cx tr.blobs e) s).irq 2).bootRun)

/-- The waiting pass of a head, or its running one, is abandoned at the frame's deadline: the records carry DROPPED; of a
running pass, BKG of an open number of pixels is written (R27, R200). -/
def State.passAbandon (s : State) (h : Nat) : State :=
  let mine := fun (p : Pass) => p.head == h
  let ps := s.stat.waiting.filter mine
  let s := { s with stat := { s.stat with waiting := s.stat.waiting.filter (fun p => !mine p) } }
  let s := match s.stat.running with
    | some p =>
      if !mine p then s
      else
        let (n, s) := s.freeN
        let c := { s with regs := p.ctx.getD s.regs }
        let old := s.px h
        let new := (runPass (c.passCtx h p.res p.seed) old []).px
        let k := n % (old.length + 1)
        let s := { s with stat := { s.stat with running := none } }
        let s := s.setOcc h (fun o => { o with seedNext := o.seedNext || p.seed, clearNext := o.clearNext || p.clear })
        (s.setHead h (fun x => { x with px := new.take k ++ old.drop k })).emitEmpty h p.res Status.DROPPED
    | none => s
  ps.foldl (fun s p => s.emitEmpty h p.res Status.DROPPED) s

/-- STATISTICS_DEADLINE (R25, R27). -/
def execStatisticsDeadline (h : Fin 4) (s : State) : Host.Outcome State Fault Refusal := done fpStat s (s.passAbandon h.val)

/-! ### Reading and clearing (R202, Tables 10-21, 10-26) -/

/-- STAND_RSEL_WRITE: the last record of a stand is copied (R202). -/
def execStandRselWrite (v : Word) (s : State) : Host.Outcome State Fault Refusal :=
  let st := s.gate .stand false
  let n := v.toNat % 1024
  let en := n != 0 && s.rdB (Reg.STAND_SCFG0_EN n)
  let rec_ := if en then assocGet s.stat.records n else none
  let rs := if !en then Status.HOLE else if rec_.isSome then Status.OK else Status.NOT_YET
  let put := fun (s : State) (ws : List Word) =>
    (List.range 28).foldl (fun s i => s.wr (Reg.STAND_REC i) (ws.getD i 0).toNat) s
  done fpStat s
    (if st ≠ Status.OK then s.result .stand 0x008 st
     else
       let s := (s.wr Reg.STAND_RSEL_STAND n).wr Reg.STAND_RSEL_RSTAT rs
       let s := match rec_ with
         | some ws => put s ws
         | none => if en then s else put s []
       s.result .stand 0x008 Status.OK)

/-- OCC_BSEL_WRITE: one blob of a head's latest processed frame is captured (Tables 10-26, 10-27). -/
def execOccBselWrite (v : Word) (s : State) : Host.Outcome State Fault Refusal :=
  let st := s.gate .occ false
  let h := v.toNat / 256 % 4
  let i := v.toNat % 256
  let o := s.occHead h
  let put := fun (s : State) (ws : List Word) =>
    (List.range 11).foldl (fun s i => s.wr (Reg.OCC_BREC i) (ws.getD i 0).toNat) s
  done fpStat s
    (if st ≠ Status.OK then s.result .occ 0x100 st
     else if !s.headPresent h then s.result .occ 0x100 Status.BAD_ARG
     else
       let s := (s.wr Reg.OCC_BSEL_HEAD h).wr Reg.OCC_BSEL_BLOB i
       let s := match o.lastFrame, o.blobs[i]? with
         | none, _ => s.wr Reg.OCC_BCAP_STATUS Status.NOT_YET
         | some f, some b => ((put s (blobWords i b)).wr Reg.OCC_BCAP_STATUS Status.OK).wr Reg.OCC_BCAP_FRAME (frameTag f)
         | some f, none => ((put s []).wr Reg.OCC_BCAP_STATUS Status.HOLE).wr Reg.OCC_BCAP_FRAME (frameTag f)
       s.result .occ 0x100 Status.OK)

/-- A command of OCC_CMD (Table 10-21). -/
def State.occCommand (s : State) (h : Nat) (f : OccHead → OccHead) : State :=
  let st := s.gate .occ true
  (if st = Status.OK then s.setOcc h f else s).result .occ (0x007 + 0x20 * h) st

/-- BKG_RESET: the next pass is a seeding frame (R205). -/
def execBkgReset (h : Fin 4) (s : State) : Host.Outcome State Fault Refusal :=
  done fpStat s (s.occCommand h.val (fun o => { o with seedNext := true }))

/-- TRACK_CLEAR: the head's tracks are deleted at the next pass (R211). -/
def execTrackClear (h : Fin 4) (s : State) : Host.Outcome State Fault Refusal :=
  done fpStat s (s.occCommand h.val (fun o => { o with clearNext := true }))

end Sys2Proof.Machine
end

