-- ==== Sys2Proof/Machine/Descriptor.lean ====
section
/-! DEFINITION. The head descriptor (R138, Table 7-2), the outcome of a negotiation (R139) and the telemetry conversion
(R143), as functions. -/

namespace Sys2Proof.Machine

/-- A telemetry map as its register holds it: EN, SRC, WIDTH, BE, OFFSET packed as HEAD_TLMFPA. -/
structure Desc where
  width : Nat
  height : Nat
  lanes : Nat
  adcbits : Nat
  maxrate : Nat
  dtmask : Nat
  maxsck : Nat
  tstart : Nat
  troic : Nat
  lineovh : Nat
  aint : Nat
  abias : Nat
  again : Nat
  alink : Nat
  applylat : Nat
  tlmfpa : Nat
  fpagain : Nat
  fpaofs : Nat
  tlmsht : Nat
  shtgain : Nat
  shtofs : Nat
  tlmset : Nat
  deriving DecidableEq, Repr

/-- A telemetry map of the descriptor as a HEAD_TLM register: byte 0 bits 6:0 are bits 16:10, bit 7 is EN. -/
def tlmReg (b0 b1 : Nat) : Nat := (b0 / 128) * 2 ^ 17 + (b0 % 128) * 2 ^ 10 + b1

/-- The descriptor in 64 bytes, where it is valid (R138). -/
def parseDesc (bs : List Byte) : Option Desc :=
  let n (o k : Nat) : Nat := leNat (slice bs o k)
  if bs.length < 64 then none
  else if slice bs 0 4 ≠ [0x53, 0x5A, 0x48, 0x44] then none
  else if n 4 1 ≠ 1 ∨ n 5 1 ≠ 64 then none
  else if n 60 4 ≠ (crc32 (bs.take 60)).toNat then none
  else some
    { width := n 6 2, height := n 8 2, lanes := n 10 1, adcbits := n 11 1, maxrate := n 12 2
      dtmask := n 14 1, maxsck := n 15 1, tstart := n 16 2, troic := n 18 2, lineovh := n 20 2
      aint := n 22 2, abias := n 24 2, again := n 26 2, alink := n 28 2, applylat := n 30 1 % 2
      tlmfpa := tlmReg (n 32 1) (n 33 1), fpagain := n 35 3 % 2 ^ 18, fpaofs := n 38 3 % 2 ^ 18
      tlmsht := tlmReg (n 41 1) (n 42 1), shtgain := n 44 3 % 2 ^ 18, shtofs := n 47 3 % 2 ^ 18
      tlmset := tlmReg (n 50 1) (n 51 1) }

/-- The profile's side of a negotiation (HEAD_LINKCFG, WIDTH, HEIGHT, TFE). -/
structure LinkProfile where
  bond : Bool
  width : Nat
  height : Nat
  tfe : Nat
  dtpref : Nat
  maxlanes : Nat
  maxrate : Nat
  deriving DecidableEq, Repr

/-- Outcome of R139: a refusal with its reason (Table 7-3), or lanes, rate and data type (1 RAW14, 2 RAW16). -/
inductive NegOut where
  | refuse (reason : Nat)
  | link (lanes rate dt : Nat)
  deriving DecidableEq, Repr

/-- The negotiation of R139. A valid descriptor whose LANES is 0 leaves no lane and no line period: it is refused with LINK
(DESIGN CHOICE, notes/assumptions/108). -/
def negotiate (p : LinkProfile) : Option Desc → NegOut
  | none => .link p.maxlanes p.maxrate (if p.dtpref = 0 then 2 else p.dtpref)
  | some d =>
    if d.width ≠ p.width ∨ d.height ≠ p.height then .refuse 1
    else
      let lanes := Nat.min d.lanes (Nat.min p.maxlanes (if p.bond then 4 else 2))
      let rate := Nat.min d.maxrate p.maxrate
      if rate < 8 ∨ lanes = 0 then .refuse 2
      else
        let ok14 := d.dtmask % 2 = 1 ∧ d.adcbits ≤ 14 ∧ p.width % 4 = 0 ∧ p.dtpref ≠ 2
        let ok16 := d.dtmask / 2 % 2 = 1 ∧ p.dtpref ≠ 1
        let dt := if ok14 then 1 else if ok16 then 2 else 0
        if dt = 0 then .refuse 2
        else
          let bytes := if dt = 1 then p.width * 7 / 4 else p.width * 2
          -- times in units of 1 / (lanes × rate) ns, so that the quotient of R139 is exact
          let u := lanes * rate
          let tline := Nat.max (d.troic * 10 * u) ((bytes + 6) * 8 * 100 + d.lineovh * u)
          if p.tfe * 1000 * u < d.tstart * 1000 * u + p.height * tline then .refuse 3
          else .link lanes rate dt

/-- Lane code of ALINK (R139). It gives none for the three lanes that a descriptor with LANES = 3 makes of a bonded port: that
code is open (notes/assumptions/1). -/
def laneCode (lanes : Nat) : Nat :=
  if lanes = 4 then 2 else if lanes = 2 then 1 else if lanes = 1 then 0 else (Config.laneCode lanes).toNat

/-! ### Transactions with a head (R137) -/

/-- The two bytes of a 16-bit address or value, most significant first. -/
def headWord (v : Nat) : List Byte := [BitVec.ofNat 8 (v / 256), BitVec.ofNat 8 v]

/-- The bytes that open a read, and those of a write. -/
def headRead (a : Nat) : List Byte := 0x03#8 :: headWord a
def headWrite (a v : Nat) : List Byte := 0x02#8 :: (headWord a ++ headWord v)

/-- Registers written and read back one after the other: what is sent, whether all verified, and the read-backs left over.
`reads` are the values the head answers, in order; a register that reads back otherwise is written once more, and a second
mismatch ends the programming (R137). A read-back that does not come is a mismatch. -/
def progRegs : List (Nat × Nat) → List (BitVec 16) → List (List Byte) × Bool × List (BitVec 16)
  | [], rs => ([], true, rs)
  | (a, v) :: ws, rs =>
    let once := [headWrite a v, headRead a]
    if (rs[0]?).any (fun r => r.toNat == v) then
      let p := progRegs ws (rs.drop 1)
      (once ++ p.1, p.2)
    else if (rs[1]?).any (fun r => r.toNat == v) then
      let p := progRegs ws (rs.drop 2)
      (once ++ once ++ p.1, p.2)
    else (once ++ once, false, rs.drop 2)

/-- T = ((raw × GAIN + 2^15) >> 16) + OFS, saturated (R143). -/
def tlmConvert (raw gain : Nat) (ofs : Int) : Nat :=
  (clampInt 0 262143 ((((raw * gain + 2 ^ 15) / 2 ^ 16 : Nat) : Int) + ofs)).toNat

/-- The raw value of a telemetry quantity in its packet (R143): `width` code 0 to 2 for 1 to 3 bytes. A value that its
packet is too short for is absent (DEDUCED, notes/assumptions/23). -/
def tlmRaw (bs : List Byte) (offset width : Nat) (be : Bool) : Option Nat :=
  let k := width + 1
  if bs.length < offset + k then none
  else
    let v := slice bs offset k
    some (if be then beNat v else leNat v)

end Sys2Proof.Machine
end

