-- ==== Sys2Proof/Machine/Heads.lean ====
section
/-! DEFINITION. The sensor ports (chapter 7): frames and packets, negotiation, and setting changes. -/

namespace Sys2Proof.Machine
open Sys2Proof

/-- What the commands of a sensor port may change: the ports, what a closed frame sets off, and the programming port. -/
def fpHead : Footprint :=
  { regs := [(0x3000, 0x6000), Blk.range .psp, Blk.range .tally, Blk.range .cmp, Blk.range .vlv, (0x9800, 0x9C00),
             (0x2006, 0x2007), (0x1000, 0x1400)]
    parts := [.heads, .bursts, .shut, .stat, .ctx, .points, .act, .tally, .cmp, .psp, .power, .therm, .balls, .boot,
              .freeCtr] }

-- Stage codes of a setting change (Table 7-21).
namespace Stage
abbrev IDLE : Nat := 0
abbrev PENDING : Nat := 1
abbrev PROGRAMMING : Nat := 2
abbrev APPLIED : Nat := 3
end Stage

def State.cstage (s : State) (h : Nat) : Nat := s.rd (Reg.HEAD_NEXTCTL_CSTAGE h)

/-- Domain D5 + h of a sensor port is ON. -/
def State.headPowered (s : State) (h : Nat) : Bool :=
  match s.power.doms[5 + h]? with | some d => decide (d.st = .on) | none => false

/-- A frame of the head is DROPPED with reason NOTSVC (R129, R144, R147, R150), or because its resident state was lost
with a slice and not reloaded (R84). -/
def State.headNotSvc (s : State) (h : Nat) : Bool :=
  let x := s.head h
  !s.works (Engine.ofHead h) || !s.headPowered h || x.restore || x.dropUntil || !s.anyPe ||
  x.px.length != s.headPixels h

/-- The port receives: its domain is ON, and its head is in service or its first FS is awaited. -/
def State.headListens (s : State) (h : Nat) : Bool :=
  let x := s.head h
  s.headPowered h && (x.svc || (decide (x.neg = some .waitFs) && Nat.ble 1 x.negFt))

/-! ### The programming port (R137, R147) -/

/-- The end of a head's transaction at the PSP: the next waiting one is served. -/
def State.pspFinish (s : State) (r : PspReq) : State :=
  if s.psp.running = some r then ({ s with psp := { s.psp with running := none } }).pspStart
  else { s with psp := { s.psp with waiting := s.psp.waiting.filter (fun q => decide (q ≠ r)) } }

/-- What the port has sent to its head (R137). -/
def State.sendHead (s : State) (h : Nat) (ts : List (List Byte)) : State :=
  s.setHead h (fun x => { x with sent := ts })

/-- The three writes of a set's values (R147). -/
def State.setWrites (s : State) (h int bias gain : Nat) : List (Nat × Nat) :=
  [(s.rd (Reg.HEAD_AINT h), int), (s.rd (Reg.HEAD_ABIAS h), bias), (s.rd (Reg.HEAD_AGAIN h), gain)]

/-- The values of a set as its registers hold them. -/
def State.setVals (s : State) (h i : Nat) : Nat × Nat × Nat :=
  (s.rd (Reg.HEAD_SETINT h i), s.rd (Reg.HEAD_SETBIAS h i), s.rd (Reg.HEAD_SETGAIN_GAIN h i))

/-- A set takes values, which clears its CAL (R145, R146). -/
def State.putSet (s : State) (h i : Nat) (v : Nat × Nat × Nat) : State :=
  ((((s.wr (Reg.HEAD_SETINT h i) v.1).wr (Reg.HEAD_SETBIAS h i) v.2.1).wr (Reg.HEAD_SETGAIN_GAIN h i) v.2.2).wrB
    (Reg.HEAD_SETGAIN_CAL h i) false).curSync h

/-! ### Frames (R141 to R144) -/

/-- The ring has the slots of the geometry in force (R142). -/
def State.ringFit (s : State) (h : Nat) : State :=
  if (s.head h).ring.length = s.ringLen h then s
  else s.setHead h (fun x => { x with ring := List.replicate (s.ringLen h) none, ringNext := 0 })

/-- The raw value of a telemetry quantity in a frame (R143); `m` gives the map register's EN, SRC, WIDTH, BE, OFFSET. -/
def FrameRx.tlm (rx : FrameRx) (src width offset : Nat) (be : Bool) : Option Nat :=
  let packet := if src = 8 then rx.embedded else assocGet rx.user src
  packet.bind (fun bs => tlmRaw bs offset width be)

/-- The focal-plane temperature of a closed frame, and whether the frame is DROPPED for want of it (R143). -/
def State.frameFpa (s : State) (h : Nat) (rx : FrameRx) : Nat × Bool × State :=
  if !s.rdB (Reg.HEAD_TLMFPA_EN h) then (s.rd (Reg.PE_TCAL h rx.set), false, s.wr (Reg.HEAD_FPA h) 0)
  else
    let x := s.head h
    match rx.tlm (s.rd (Reg.HEAD_TLMFPA_SRC h)) (s.rd (Reg.HEAD_TLMFPA_WIDTH h)) (s.rd (Reg.HEAD_TLMFPA_OFFSET h))
        (s.rdB (Reg.HEAD_TLMFPA_BE h)) with
    | some raw =>
      let v := tlmConvert raw (s.rd (Reg.HEAD_FPAGAIN h)) (s.rdS (Reg.HEAD_FPAOFS h))
      (v, false, (s.wr (Reg.HEAD_FPA h) v).setHead h (fun x => { x with tlmMiss := 0, fpaSeen := true }))
    | none =>
      let v := s.rd (Reg.HEAD_FPA h)
      let drop := !x.fpaSeen || Nat.ble (s.rd (Reg.HEAD_SETCFG_TLMMAX h)) x.tlmMiss
      (v, drop, (s.bump (Reg.HEAD_TLMMISS h)).setHead h (fun x => { x with tlmMiss := min 15 (x.tlmMiss + 1) }))

/-- The shutter temperature: the last value is kept where a frame brings none (R143). -/
def State.frameSht (s : State) (h : Nat) (rx : FrameRx) : State :=
  if !s.rdB (Reg.HEAD_TLMSHT_EN h) then s
  else
    match rx.tlm (s.rd (Reg.HEAD_TLMSHT_SRC h)) (s.rd (Reg.HEAD_TLMSHT_WIDTH h)) (s.rd (Reg.HEAD_TLMSHT_OFFSET h))
        (s.rdB (Reg.HEAD_TLMSHT_BE h)) with
    | some raw => s.wr (Reg.HEAD_SHT h) (tlmConvert raw (s.rd (Reg.HEAD_SHTGAIN h)) (s.rdS (Reg.HEAD_SHTOFS h)))
    | none => s

/-- The set echo is present and differs from the set expected (R143). -/
def State.setMismatch (s : State) (h : Nat) (rx : FrameRx) : Bool :=
  s.rdB (Reg.HEAD_TLMSET_EN h) &&
  (match rx.tlm (s.rd (Reg.HEAD_TLMSET_SRC h)) (s.rd (Reg.HEAD_TLMSET_WIDTH h)) (s.rd (Reg.HEAD_TLMSET_OFFSET h))
      (s.rdB (Reg.HEAD_TLMSET_BE h)) with
   | some v => v != rx.set
   | none => false)

/-- HEAD_FSTAT of a closed frame: its result and every reason that holds (Table 7-27), counted (Table 7-29). -/
def State.frameStat (s : State) (h status : Nat) (l3 notsvc ovr nofs tlm setm few short hdr crc nofe long : Bool) : State :=
  let s := (s.wr (Reg.HEAD_FSTAT_STATUS h) status).wrB (Reg.HEAD_FSTAT_L3 h) l3
  let s := ((s.wrB (Reg.HEAD_FSTAT_NOTSVC h) notsvc).wrB (Reg.HEAD_FSTAT_OVR h) ovr).wrB (Reg.HEAD_FSTAT_NOFS h) nofs
  let s := ((s.wrB (Reg.HEAD_FSTAT_TLM h) tlm).wrB (Reg.HEAD_FSTAT_SETMISM h) setm).wrB (Reg.HEAD_FSTAT_FEW h) few
  let s := ((s.wrB (Reg.HEAD_FSTAT_SHORTLINE h) short).wrB (Reg.HEAD_FSTAT_HDR h) hdr).wrB (Reg.HEAD_FSTAT_CRC h) crc
  let s := (s.wrB (Reg.HEAD_FSTAT_NOFE h) nofe).wrB (Reg.HEAD_FSTAT_LONG h) long
  let s := if nofs then s.bump (Reg.HEAD_NOFS h) else s
  if status = Status.DROPPED then s.bump (Reg.HEAD_DROP h)
  else if status = Status.SHORT_FRAME then s.bump (Reg.HEAD_SHORT h)
  else if status = Status.LONG_FRAME then s.bump (Reg.HEAD_LONG h)
  else s

/-- The head of a change waits for a recalibration: frame `k` = latest frame + 1 + APPLYLAT would fall within one (R147). -/
def State.changeHeld (s : State) (h : Nat) : Bool :=
  let x := s.shutHead h
  let lat := s.rd (Reg.HEAD_SETCFG_APPLYLAT h)
  let past := match x.recal with
    | some r => s.phase h == Phase.SETTLE2 && Nat.ble r.nsettle (r.taken + lat)
    | none => false
  x.startAt.isSome || (s.inRecal h && !past)

/-- The time from `t` ns after the FT edge to the next one is at least twice the programming time plus 20 µs; the
programming time is the PSP's and is left free (R147, notes/assumptions/1). That the time left runs to the FT edge, and not to
the window's close 20 µs before it, is DEDUCED (notes/assumptions/109). -/
def State.windowTime (s : State) (t : Nat) : Bool × State :=
  let (pt, s) := s.freeN
  ((Frac.ofNat (t + 2 * pt + 20000)).le (ftPeriodNs s.stinc s.ftdiv), s)

/-- The frame whose window opens after the latest frame: the next one, later by APPLYLAT (R147). -/
def State.nextWindow (s : State) (h : Nat) : BitVec 36 :=
  s.tick.frame + 1 + BitVec.ofNat 36 (s.rd (Reg.HEAD_SETCFG_APPLYLAT h))

/-- CSTAT of a change that is going to apply later than its target (R147); known once. -/
def State.changeLate (s : State) (h : Nat) : State :=
  if s.rd (Reg.HEAD_NEXTCTL_CSTAT h) = Status.DELAYED then s
  else (s.wr (Reg.HEAD_NEXTCTL_CSTAT h) Status.DELAYED).irq 12

/-- The setting window opens at a frame's close, `t` ns after its FT edge: a change that is due is ready to be programmed
where the time left allows it (R147). -/
def State.windowOpen (s : State) (h t : Nat) : State :=
  let s := s.setHead h (fun x => { x with winOpen := true, restoreTried := false })
  match (s.head h).change with
  | some c =>
    if s.cstage h = Stage.PENDING ∧ frameLe c.target (s.nextWindow h) then
      let (ok, s) := s.windowTime t
      if ok && !s.changeHeld h then
        let s := if c.target = s.nextWindow h then s else s.changeLate h
        s.setHead h (fun x => { x with change := some { c with ready := true } })
      else s.changeLate h
    else s
  | none => s

/-- The lines of a frame that is not DROPPED stand in consecutive slots of the raw ring (R142). -/
def State.ringStore (s : State) (h : Nat) (rx : FrameRx) : State :=
  let store (p : List (Option RingSlot) × Nat) (px : List (BitVec 16)) : List (Option RingSlot) × Nat :=
    let sl : RingSlot := { tagFrame := frameTag rx.frame, tagLine := p.2, pixels := px, unread := true }
    (p.1.set ((rx.slot0 + p.2) % p.1.length) (some sl), p.2 + 1)
  s.setHead h (fun x => { x with
    ring := (rx.held.foldl store (x.ring, 0)).1, ringNext := (rx.slot0 + rx.held.length) % x.ring.length })

/-- The open frame closes with its result (R144), `t` ns after the latest FT edge. The setting window opens with it where no
FT edge has passed since its FS (R147). -/
def State.frameClose (s : State) (h : Nat) (nofe : Bool) (t : Nat) : State :=
  match (s.head h).rx with
  | none => s
  | some rx =>
    let (fpa, tlm, s) := s.frameFpa h rx
    let s := s.frameSht h rx
    let setm := s.setMismatch h rx
    let notsvc := rx.notsvc || s.headNotSvc h
    let few := Nat.blt rx.lines (s.rd (Reg.HEAD_HEIGHT h))
    let nofe := nofe || rx.nofe
    let status :=
      if rx.l3 || notsvc || rx.ovr || tlm || setm then Status.DROPPED
      else if few || rx.shortline || rx.hdr || rx.crc || nofe then Status.SHORT_FRAME
      else if rx.long then Status.LONG_FRAME
      else Status.OK
    let s := s.frameStat h status rx.l3 notsvc rx.ovr false tlm setm few rx.shortline rx.hdr rx.crc nofe rx.long
    let sht := if s.rdB (Reg.HEAD_TLMSHT_EN h) then s.rd (Reg.HEAD_SHT h) else fpa
    let res : FrameRes := { frame := rx.frame, set := rx.set, gen := rx.gen, fpa := BitVec.ofNat 18 fpa,
                            sht := BitVec.ofNat 18 sht, status := status }
    let s := s.setHead h (fun x => { x with rx := none })
    let s := if status = Status.DROPPED then s else s.ringStore h rx
    let s := if rx.frame = s.tick.frame then s.windowOpen h t else s
    if status = Status.OK ∨ status = Status.LONG_FRAME then
      if (s.shutHead h).startup then s.frameLost h res Status.HELD
      else if rx.frame ≠ (s.head h).curFrame then
        s.burstDrop { head := h, res := res, slot0 := rx.slot0, cal := 0, late := true, ctx := none, raw := [],
                      frst := false, first := false } true
      else s.burstRequest h res rx.slot0
    else s.frameLost h res status

/-- The first FS within the time allowed ends a negotiation: the head is in service (R136, R140, R148, R171, R174). GEN counts
every negotiation but the first, one after the domain was OFF too (DESIGN CHOICE, notes/assumptions/110). An odd frame at L3 is
dropped though it ends the negotiation; THM_L3DROP has counted it at its FT edge where the head was in service then (R105). -/
def State.negotiated (s : State) (h : Nat) : State :=
  let x := s.head h
  let first := !x.everNeg
  let s := if x.curL3 && !x.svc then s.bump Reg.THM_L3DROP else s
  let s := s.setHead h (fun x => { x with
    neg := none, svc := true, everNeg := true, tlmMiss := 0, fpaSeen := false, dropUntil := false, reneg := false
    filtReset := true, curFrame := if x.curL3 then x.curFrame else s.tick.frame })
  let s := (s.wr (Reg.HEAD_NEG_NSTAT h) Status.OK).wr (Reg.HEAD_NEG_NREASON h) 0
  if first then
    let i := s.rd (Reg.HEAD_CUR_SET h)
    let uncal := !s.rdB (Reg.HEAD_SETGAIN_CAL h i)
    (s.wr (Reg.HEAD_GEN h) 0).setShut h (fun q => { q with
      bref := none, counting := true, startup := uncal && s.rdB (Reg.SHUT_CFG_EN h) })
  else s.wr (Reg.HEAD_GEN h) ((s.rd (Reg.HEAD_GEN h) + 1) % 2 ^ 18)

/-- The port takes a packet of virtual channel `vc` (R132). -/
def State.takes (s : State) (h : Nat) (vc : Fin 4) : Bool := vc.val == s.rd (Reg.HEAD_LINKCFG_VC h)

/-- A packet that the port discards: counted in DISC, and in CRC where it is a long one that fails its check (R132, R133). -/
def State.discard (s : State) (h : Nat) (crcOk : Bool) : State :=
  (if crcOk then s else s.bump (Reg.HEAD_CRC h)).bump (Reg.HEAD_DISC h)

/-- FRAME_START: an FS packet of channel `vc`, `t` ns after the latest FT edge (R141). A negotiation ends with the first FS after
SYNC has started (R140). -/
def execFrameStart (h vc : Fin 4) (t : Nat) (s : State) : Host.Outcome State Fault Refusal :=
  done fpHead s
    (if !s.headListens h.val then s
     else if !s.takes h.val vc then s.discard h.val true
     else
       let x := s.head h.val
       let s := if x.neg = some .waitFs ∧ 1 ≤ x.negFt then s.negotiated h.val else s
       let s := s.frameClose h.val true t
       let x := s.head h.val
       if x.fsSeen then
         (s.bump (Reg.HEAD_EXTRA h.val)).setHead h.val (fun x => { x with extra := true })
       else
         let s := s.ringFit h.val
         let rx : FrameRx :=
           { frame := s.tick.frame, set := s.rd (Reg.HEAD_CUR_SET h.val)
             gen := BitVec.ofNat 18 (s.rd (Reg.HEAD_GEN h.val)), lines := 0, slot0 := (s.head h.val).ringNext, held := []
             l3 := x.curL3, notsvc := s.headNotSvc h.val, ovr := false, shortline := false, hdr := false, crc := false
             nofe := false, long := false, embedded := none, user := [] }
         s.setHead h.val (fun x => { x with rx := some rx, extra := false, fsSeen := true, winOpen := false }))

def State.setRx (s : State) (h : Nat) (f : FrameRx → FrameRx) : State :=
  s.setHead h (fun x => { x with rx := x.rx.map f })

/-- Whether the slot for the next line is free: a line that the running burst of its frame may have read by now is open,
since sweep A releases its lines one by one at times of its own (R142, notes/assumptions/1). -/
def State.slotFree (s : State) (h : Nat) (o : Option RingSlot) : Bool × State :=
  match o with
  | none => (true, s)
  | some sl =>
    if !sl.unread then (true, s)
    else match s.bursts.running with
      | some b => if b.head = h ∧ frameTag b.res.frame = sl.tagFrame then s.freeB else (false, s)
      | none => (false, s)

/-- An image line of a taken frame, for the next slot of the raw ring (R142). RAW14 has 14 significant bits. -/
def State.ringTake (s : State) (h : Nat) (rx : FrameRx) (px : List (BitVec 16)) : State :=
  let ring := (s.head h).ring
  let (free, s) := s.slotFree h ((ring[(rx.slot0 + rx.lines) % ring.length]?).join)
  if ring.length = 0 ∨ !free then s.setRx h (fun r => { r with ovr := true, held := [] })
  else
    let mask : BitVec 16 := if s.rd (Reg.HEAD_LINK_DT h) = 1 then 0x3FFF#16 else 0xFFFF#16
    s.setRx h (fun r => { r with held := r.held ++ [px.map (· &&& mask)] })

/-- A raw-ring run of the compression engine is cut where the ring is about to overwrite its lines (R364); when that is,
the ring's own timing decides. -/
def State.cutRawRun (s : State) (h : Nat) : State :=
  match s.cmp.running with
  | some j =>
    if j.kind = 6 ∧ j.head = h ∧ j.run.isSome then
      let (b, s) := s.freeB
      if b then s.cutRun h else s
    else if j.kind = 6 then s.gapEnds h
    else s
  | none => s

/-- IMAGE_LINE: a packet of type RAW14 or RAW16 (R132, R133, R142, R144). The excess of a frame is discarded. -/
def execImageLine (h vc : Fin 4) (raw16 : Bool) (px : List (BitVec 16)) (eccFixed crcOk : Bool) (s : State) :
    Host.Outcome State Fault Refusal :=
  done fpHead s
    (if !s.headListens h.val then s
     else
       let s := if eccFixed then s.bump (Reg.HEAD_ECC1 h.val) else s
       if !s.takes h.val vc || s.rd (Reg.HEAD_LINK_DT h.val) != (if raw16 then 2 else 1) then s.discard h.val crcOk
       else
         let s := if crcOk then s else s.bump (Reg.HEAD_CRC h.val)
         let x := s.head h.val
         match x.rx with
         | none => s
         | some rx =>
           let w := s.rd (Reg.HEAD_WIDTH h.val)
           let excess := Nat.ble (s.rd (Reg.HEAD_HEIGHT h.val)) rx.lines
           if x.extra then s
           else
             let s := if excess || rx.l3 || rx.notsvc || rx.ovr then s else (s.cutRawRun h.val).ringTake h.val rx (px.take w)
             s.setRx h.val (fun r => { r with
               lines := if excess then r.lines else r.lines + 1, shortline := r.shortline || Nat.blt px.length w
               long := r.long || excess || Nat.blt w px.length, crc := r.crc || !crcOk }))

/-- TELEMETRY_PACKET: the first packet of a source in a frame counts (R143); one that fails its CRC is discarded (R133). -/
def execTelemetryPacket (h vc : Fin 4) (dt : Nat) (bytes : List Byte) (crcOk : Bool) (s : State) :
    Host.Outcome State Fault Refusal :=
  done fpHead s
    (if !s.headListens h.val then s
     else if !s.takes h.val vc || (dt != 0x12 && (Nat.blt dt 0x30 || Nat.blt 0x37 dt)) then s.discard h.val crcOk
     else if !crcOk then s.bump (Reg.HEAD_CRC h.val)
     else if (s.head h.val).extra then s
     else if dt = 0x12 then
       s.setRx h.val (fun r => { r with embedded := r.embedded.orElse (fun _ => some bytes) })
     else
       s.setRx h.val (fun r => if (assocGet r.user (dt - 0x30)).isSome then r
         else { r with user := assocPut r.user (dt - 0x30) bytes }))

/-- PACKET_DISCARD: a packet of any other type (Table 7-1). -/
def execPacketDiscard (h : Fin 4) (crcOk : Bool) (s : State) : Host.Outcome State Fault Refusal :=
  done fpHead s (if s.headListens h.val then s.discard h.val crcOk else s)

/-- HEADER_ECC_ERROR (R133): `image` says that the packet lost was an image line. -/
def execHeaderEccError (h : Fin 4) (corrected image : Bool) (s : State) : Host.Outcome State Fault Refusal :=
  done fpHead s
    (if !s.headListens h.val then s
     else if corrected then s.bump (Reg.HEAD_ECC1 h.val)
     else
       let s := s.bump (Reg.HEAD_ECC2 h.val)
       if image && !(s.head h.val).extra then s.setRx h.val (fun r => { r with hdr := true }) else s)

/-- The termination trim of a port follows the band at an end-of-frame packet (R106). -/
def State.portTrim (s : State) (h : Nat) : State :=
  { s with therm := { s.therm with portBand := vmod s.therm.portBand h (fun _ => s.rd Reg.THM_STAT_BAND) } }

/-- FRAME_END: an FE packet of channel `vc`, `t` ns after the latest FT edge (R141). -/
def execFrameEnd (h vc : Fin 4) (t : Nat) (s : State) : Host.Outcome State Fault Refusal :=
  done fpHead s
    (if !s.headListens h.val then s
     else if !s.takes h.val vc then s.discard h.val true
     else if (s.head h.val).extra then (s.portTrim h.val).setHead h.val (fun x => { x with extra := false })
     else (s.portTrim h.val).frameClose h.val false t)

/-- FRAME_END_TIMEOUT: no FE by TFE + 50 µs (R141). -/
def execFrameEndTimeout (h : Fin 4) (s : State) : Host.Outcome State Fault Refusal :=
  done fpHead s (s.frameClose h.val true (s.rd (Reg.HEAD_TFE h.val) * 1000 + 50000))

/-! ### The port goes down (R136, Table 9-2, Table 7-21) -/

/-- A frame of the head without lines: its values are those in force (R143). -/
def State.blankRes (s : State) (h : Nat) (frame : BitVec 36) : FrameRes :=
  let i := s.rd (Reg.HEAD_CUR_SET h)
  let fpa := if s.rdB (Reg.HEAD_TLMFPA_EN h) then s.rd (Reg.HEAD_FPA h) else s.rd (Reg.PE_TCAL h i)
  { frame := frame, set := i, gen := BitVec.ofNat 18 (s.rd (Reg.HEAD_GEN h)), fpa := BitVec.ofNat 18 fpa
    sht := BitVec.ofNat 18 fpa, status := Status.DROPPED }

/-- The frame being received as its port leaves IN_SERVICE is DROPPED with reason NOTSVC (R144). -/
def State.frameCut (s : State) (h : Nat) : State :=
  match (s.head h).rx with
  | none => s
  | some rx =>
    ((s.setHead h (fun x => { x with rx := none })).frameStat h Status.DROPPED rx.l3 true rx.ovr false false false false
      rx.shortline rx.hdr rx.crc rx.nofe rx.long).frameLost h (s.blankRes h rx.frame) Status.DROPPED

/-- The head is no longer in service: SYNC ends, a frame being received is lost, a pending change ends with DOWN. -/
def State.headLost (s : State) (h : Nat) : State :=
  let had := (s.head h).change.isSome
  let s := s.frameCut h
  let s := s.setHead h (fun x => { x with
    svc := false, neg := none, extra := false, change := none, restore := false, restoring := false, reneg := false
    dropUntil := false, winOpen := false })
  let s := { s with balls := { s.balls with sync := vmod s.balls.sync h (fun _ => false) } }
  let s := if had then (s.wr (Reg.HEAD_NEXTCTL_CSTAT h) Status.DOWN).wr (Reg.HEAD_NEXTCTL_CSTAGE h) Stage.IDLE else s
  s.shutDrop h

/-- The port goes DOWN after a refusal or the third failed attempt (R140). -/
def State.portDown (s : State) (h : Nat) : State :=
  (((s.setEng (Engine.ofHead h) stDown).wrB Reg.BOOT_ALERT_SECDOWN true).headLost h).bootRun

/-! ### Negotiation (R135 to R140) -/

/-- An attempt fails: the next one starts with a reset, until the third has failed (R140). -/
def State.attemptFailed (s : State) (h status reason : Nat) : State :=
  let s := (s.wr (Reg.HEAD_NEG_NSTAT h) status).wr (Reg.HEAD_NEG_NREASON h) reason
  if 3 ≤ (s.head h).attempt then s.portDown h
  else s.setHead h (fun x => { x with neg := some .pending, reneg := false })

/-- NEGOTIATION_START: an attempt begins with HRST_N low; a renegotiation after a reload without a pulse (R135, R136). -/
def execNegotiationStart (h : Fin 4) (s : State) : Host.Outcome State Fault Refusal :=
  done fpHead s
    (let x := s.head h.val
     if x.neg = some .pending then
       let s := s.wr (Reg.HEAD_NEG_ATTEMPTS h.val) (min 3 (x.attempt + 1))
       if x.reneg then
         (s.setHead h.val (fun x => { x with neg := some .descriptor, attempt := x.attempt + 1 })).pspRequest (.head h.val)
       else
         s.setHead h.val (fun x => { x with neg := some .reset, hrst := some false, attempt := x.attempt + 1 })
     else s)

/-- HRST_RELEASE: after HRSTLEN ms HRST_N is driven high (R135). -/
def execHrstRelease (h : Fin 4) (s : State) : Host.Outcome State Fault Refusal :=
  done fpHead s
    (if (s.head h.val).neg = some .reset then
      s.setHead h.val (fun x => { x with neg := some .wait, hrst := some true })
    else s)

/-- HRSTWAIT_EXPIRY: the first PSP access, the read of the descriptor (R135, R138). -/
def execHrstwaitExpiry (h : Fin 4) (s : State) : Host.Outcome State Fault Refusal :=
  done fpHead s
    (if (s.head h.val).neg = some .wait then
      ((s.setHead h.val (fun x => { x with neg := some .descriptor })).pspOwn h.val 10).pspRequest (.head h.val)
    else s)

/-- A descriptor's values replace the profile's (R139). -/
def State.copyDesc (s : State) (h : Nat) (d : Desc) : State :=
  let s := (((s.wr (Reg.HEAD_AINT h) d.aint).wr (Reg.HEAD_ABIAS h) d.abias).wr (Reg.HEAD_AGAIN h) d.again).wr
    (Reg.HEAD_ALINK h) d.alink
  let s := s.wr (Reg.HEAD_SETCFG_APPLYLAT h) d.applylat
  let s := (((s.wrKey (0x300A + 0x400 * h) d.tlmfpa).wrKey (0x300B + 0x400 * h) d.tlmsht).wrKey (0x300C + 0x400 * h)
    d.tlmset)
  (((s.wr (Reg.HEAD_FPAGAIN h) d.fpagain).wr (Reg.HEAD_FPAOFS h) d.fpaofs).wr (Reg.HEAD_SHTGAIN h) d.shtgain).wr
    (Reg.HEAD_SHTOFS h) d.shtofs

/-- The profile's side of the negotiation (Tables 7-6 to 7-9). -/
def State.linkProfile (s : State) (h : Nat) : LinkProfile :=
  { bond := s.rdB (Reg.HEAD_LINKCFG_BOND h), width := s.rd (Reg.HEAD_WIDTH h), height := s.rd (Reg.HEAD_HEIGHT h)
    tfe := s.rd (Reg.HEAD_TFE h), dtpref := s.rd (Reg.HEAD_LINKCFG_DTPREF h)
    maxlanes := s.rd (Reg.HEAD_LINKCFG_MAXLANES h), maxrate := s.rd (Reg.HEAD_LINKCFG_MAXRATE h) }

/-- The registers that a negotiation programs: the link, unless ALINK is 0, and the set in force (R139). -/
def State.linkWrites (s : State) (h lanes rate dt : Nat) : List (Nat × Nat) :=
  let alink := s.rd (Reg.HEAD_ALINK h)
  let v := s.setVals h (s.rd (Reg.HEAD_CUR_SET h))
  (if alink = 0 then [] else [(alink, laneCode lanes + 4 * (dt - 1) + 16 * rate)]) ++ s.setWrites h v.1 v.2.1 v.2.2

/-- DESCRIPTOR_READ_DONE: the 64 bytes read at 0xFF00, and what the head answers to the read-backs of the registers then
programmed (R137 to R139). -/
def execDescriptorReadDone (h : Fin 4) (bytes : List Byte) (reads : List (BitVec 16)) (s : State) :
    Host.Outcome State Fault Refusal :=
  done fpHead s
    (if (s.head h.val).neg ≠ some .descriptor then s
     else
       let h := h.val
       let s := (s.pspFinish (.head h)).sendHead h [headRead 0xFF00]
       let d := parseDesc bytes
       let s := s.wr (Reg.HEAD_LINK_NEGSRC h) (if d.isSome then 1 else 2)
       match negotiate (s.linkProfile h) d with
       | .refuse r =>
         ((s.wr (Reg.HEAD_NEG_NSTAT h) Status.REFUSED).wr (Reg.HEAD_NEG_NREASON h) r).portDown h
       | .link lanes rate dt =>
         let s := match d with | some d => (s.copyDesc h d).pspOwn h d.maxsck | none => s.pspOwn h 10
         let s := ((s.wr (Reg.HEAD_LINK_LANES h) lanes).wr (Reg.HEAD_LINK_RATE h) rate).wr (Reg.HEAD_LINK_DT h) dt
         let s := if (s.head h).everNeg then s
           else (s.wr (Reg.HEAD_CUR_SET h) (s.rd (Reg.HEAD_SETCFG_STARTSET h))).curSync h
         let p := progRegs (s.linkWrites h lanes rate dt) reads
         let s := s.sendHead h (headRead 0xFF00 :: p.1)
         if p.2.1 then s.setHead h (fun x => { x with neg := some .waitFs, negFt := 0 })
         else s.attemptFailed h Status.FAULT 5)

/-- NEGOTIATION_FS_TIMEOUT: no FS within two FT periods of the first SYNC pulse (R140). -/
def execNegotiationFsTimeout (h : Fin 4) (s : State) : Host.Outcome State Fault Refusal :=
  done fpHead s
    (let x := s.head h.val
     if x.neg = some .waitFs ∧ 2 ≤ x.negFt then s.attemptFailed h.val Status.TIMEOUT 4 else s)

/-! ### Setting changes (R145 to R148) -/

/-- The judgement of a COMMIT (R146). -/
def State.commitJudge (s : State) (h : Nat) : Nat :=
  let g := s.gate (Blk.ofHead h) false
  if g ≠ Status.OK then g
  else if s.cstage h = Stage.PROGRAMMING then Status.BUSY
  else Status.OK

/-- Target T of a COMMIT: the current frame + 2, or NEXTTGT (R146, R149). -/
def State.commitTarget (s : State) (h : Nat) : BitVec 36 :=
  if s.rdB (Reg.HEAD_NEXTSET_TGTAUTO h) then s.tick.frame + 2
  else BitVec.ofNat 36 (s.rdPair (Reg.HEAD_NEXTTGT h 0) (Reg.HEAD_NEXTTGT h 1))

/-- HEAD_COMMIT: a setting change is staged, `t` ns after the latest FT edge (R146, R147). -/
def execHeadCommit (h : Fin 4) (t : Nat) (s : State) : Host.Outcome State Fault Refusal :=
  let st := s.commitJudge h.val
  let off := 0x035
  done fpHead s
    (if !s.headPresent h.val then s
     else if st ≠ Status.OK then s.answer (.head h) off (some (Reg.HEAD_NEXTCTL_CSTAT h.val)) st
     else
       let h := h.val
       let i := s.rd (Reg.HEAD_NEXTSET_SET h)
       let target := s.commitTarget h
       let v := (s.rd (Reg.HEAD_NEXTINT h 0), s.rd (Reg.HEAD_NEXTINT h 1), s.rd (Reg.HEAD_NEXTSET_GAIN h))
       let modify := s.rdB (Reg.HEAD_NEXTSET_MODIFY h)
       let inForce := i == s.rd (Reg.HEAD_CUR_SET h)
       let s := if modify && !inForce then s.putSet h i v else s
       -- the first window that can still be used: the open one where it leaves enough time, else the next to open
       let open' := (s.head h).winOpen
       let (fits, s) := if open' then s.windowTime t else (true, s)
       let usable := fits && !(open' && s.changeHeld h)
       let first := if usable then s.nextWindow h else s.nextWindow h + 1
       let ready := open' && usable && frameLe target first
       let c : SetChange := { target := target, set := i, modify := if modify && inForce then some v else none
                              ready := ready, programmedFor := none, done := false }
       let late := target != first && frameLe target first
       let st := if late then Status.DELAYED else Status.OK
       let s := (s.setHead h (fun x => { x with change := some c })).wr (Reg.HEAD_NEXTCTL_CSTAGE h) Stage.PENDING
       let s := s.answer (Blk.ofHead h) off (some (Reg.HEAD_NEXTCTL_CSTAT h)) st
       if late then s.irq 12 else s)

/-- HEAD_CANCEL (R146). -/
def execHeadCancel (h : Fin 4) (s : State) : Host.Outcome State Fault Refusal :=
  let g := s.gate (.head h) false
  let st := if g ≠ Status.OK then g
    else if s.cstage h.val = Stage.PENDING then Status.OK
    else if s.cstage h.val = Stage.PROGRAMMING then Status.BUSY
    else Status.ILLEGAL_STATE
  let t := if st = Status.OK then
      (s.setHead h.val (fun x => { x with change := none })).wr (Reg.HEAD_NEXTCTL_CSTAGE h.val) Stage.IDLE
    else s
  done fpHead s (if s.headPresent h.val then t.answer (.head h) 0x035 (some (Reg.HEAD_NEXTCTL_CSTAT h.val)) st else s)

/-- SETTING_PROGRAM_START: ahead of other PSP traffic, the restore of the set in force where one failed before, once in each
window; else the programming of a change that is ready (R147). While a programmed change waits for its frame there is no
restore: the head has the values of that change already. -/
def execSettingProgramStart (h : Fin 4) (s : State) : Host.Outcome State Fault Refusal :=
  done fpHead s
    (let x := s.head h.val
     if !x.winOpen || x.restoring then s
     else if x.restore && !x.restoreTried && x.change.all (fun c => c.programmedFor.isNone) then
       (s.setHead h.val (fun x => { x with restoring := true, restoreTried := true })).pspRequest (.setting h.val)
     else match x.change with
       | some c =>
         if s.cstage h.val = Stage.PENDING ∧ c.ready then
           let s := s.setHead h.val (fun x => { x with
             change := some { c with programmedFor := some (s.nextWindow h.val) } })
           (s.wr (Reg.HEAD_NEXTCTL_CSTAGE h.val) Stage.PROGRAMMING).pspRequest (.setting h.val)
         else s
       | none => s)

/-- SETTING_PROGRAM_DONE: `reads` answers the read-backs of INT, BIAS and GAIN; where a change fails, those of the set in
force, written back in the same window (R137, R147). A change so abandoned returns CSTAGE to IDLE (DESIGN CHOICE,
notes/assumptions/111). -/
def execSettingProgramDone (h : Fin 4) (reads : List (BitVec 16)) (s : State) : Host.Outcome State Fault Refusal :=
  done fpHead s
    (let h := h.val
     let s := s.pspFinish (.setting h)
     let x := s.head h
     let cur := s.setVals h (s.rd (Reg.HEAD_CUR_SET h))
     let back := progRegs (s.setWrites h cur.1 cur.2.1 cur.2.2)
     if x.restoring then
       let p := back reads
       (s.sendHead h p.1).setHead h (fun x => { x with restoring := false, restore := !p.2.1 })
     else match x.change with
       | some c =>
         if s.cstage h ≠ Stage.PROGRAMMING ∨ c.done then s
         else
           let v := c.modify.getD (s.setVals h c.set)
           let p := progRegs (s.setWrites h v.1 v.2.1 v.2.2) reads
           if p.2.1 then (s.sendHead h p.1).setHead h (fun x => { x with change := some { c with done := true } })
           else
             let q := back p.2.2
             let s := s.sendHead h (p.1 ++ q.1)
             ((s.wr (Reg.HEAD_NEXTCTL_CSTAT h) Status.FAULT).wr (Reg.HEAD_NEXTCTL_CSTAGE h) Stage.IDLE).setHead h (fun x =>
               { x with change := none, restore := !q.2.1, restoreTried := true })
       | none => s)

/-- The field of a set register at block offset `off`: INT, BIAS or GAIN of set s (Tables 7-16, 7-17). -/
def setField (h off : Nat) : Option (Nat × Fld) :=
  if off < 0x020 ∨ 0x02F < off then none
  else
    let i := (off - 0x020) / 4
    match off % 4 with
    | 0 => some (i, Reg.HEAD_SETINT h i)
    | 1 => some (i, Reg.HEAD_SETBIAS h i)
    | 2 => some (i, Reg.HEAD_SETGAIN_GAIN h i)
    | _ => none

/-- A write to a set register (R145): the set in force is closed, another set loses its CAL. An absent head has none (R6). -/
def State.headSetWrite (s : State) (h off : Nat) (v : Word) : State :=
  match (if s.headPresent h then setField h off else none) with
  | none => s
  | some (i, f) =>
    let new := bitsOf v.toNat f.hi f.lo
    let b := Blk.ofHead h
    if s.therm.tripped then s.result b off Status.DOWN
    else
      let g := s.gate b false
      if g ≠ Status.OK then s.result b off g
      else if new = s.rd f then s.result b off Status.OK
      else if !s.unlocked b ∨ i = s.rd (Reg.HEAD_CUR_SET h) then s.result b off Status.ILLEGAL_STATE
      else ((s.wr f new).wrB (Reg.HEAD_SETGAIN_CAL h i) false).result b off Status.OK

/-- HEAD_SET_WRITE (R145). -/
def execHeadSetWrite (h : Fin 4) (off : Nat) (v : Word) (s : State) : Host.Outcome State Fault Refusal :=
  done fpHead s (s.headSetWrite h.val off v)

/-! ### The FT edge of a head (R105, R134, R141, R147, R148, R157) -/

/-- The FT edge has dropping at L3, and the frame that begins at it has an odd number (R105). -/
def State.l3Odd (s : State) : Bool := s.therm.l3drop && s.tick.frame.toNat % 2 == 1

/-- The frame that ends at this edge had no FS: DROPPED with reason NOFS (R141), or with NOTSVC alone where the head was not
in service and its port not IN_SERVICE (R144; DEDUCED, notes/assumptions/112). A frame with no FS does not count as one without
an FPA value, in TLMMISS or for TLMMAX (DESIGN CHOICE, notes/assumptions/112). -/
def State.frameMissed (s : State) (h : Nat) : State :=
  let x := s.head h
  if x.fsSeen then s
  else
    let res := s.blankRes h (s.tick.frame - 1)
    let ns := s.headNotSvc h
    let s := s.frameStat h Status.DROPPED x.curL3 ns false (x.svc || !ns) false false false false false false false false
    (((s.emitEmpty h res Status.DROPPED).ctxRepeatNow h res Status.DROPPED false).releaseLines h res.frame).noBurst h

/-- A programmed change applies at A; one whose window has closed unused is DELAYED (R147, R148). -/
def State.changeApply (s : State) (h : Nat) : State :=
  match (s.head h).change with
  | none => s
  | some c =>
    let due := match c.programmedFor with | some a => c.done && frameLe a s.tick.frame | none => false
    if due then
      let s := match c.modify with | some v => s.putSet h c.set v | none => s
      let s := (s.wr (Reg.HEAD_CUR_SET h) c.set).curSync h
      let s := s.wr (Reg.HEAD_GEN h) ((s.rd (Reg.HEAD_GEN h) + 1) % 2 ^ 18)
      let s := s.wrPair (Reg.HEAD_APPLIED h 0) (Reg.HEAD_APPLIED h 1) s.tick.frame.toNat
      let s := (s.wr (Reg.HEAD_NEXTCTL_CSTAGE h) Stage.APPLIED).irq 12
      -- the programmed values have verified: nothing is left to restore
      let s := s.setHead h (fun x => { x with change := none, filtReset := true, restore := false })
      if s.rdB (Reg.HEAD_SETGAIN_CAL h c.set) then s else s.shutForce h
    else if c.programmedFor.isNone then
      let lat := BitVec.ofNat 36 (s.rd (Reg.HEAD_SETCFG_APPLYLAT h))
      let s := s.setHead h (fun x => { x with change := some { c with ready := false } })
      if frameLe c.target (s.tick.frame + lat) then s.changeLate h else s
    else s

/-- A taken FT edge ends what is left of the head's earlier frame: its burst, pass and export (R27, R157, R221, R379). -/
def State.frameDeadline (s : State) (h : Nat) : State :=
  let s := s.ctxCut h
  let mine := s.bursts.waiting.filter (fun b => b.head == h)
  let s := { s with bursts := { s.bursts with waiting := s.bursts.waiting.filter (fun b => b.head != h) } }
  let s := mine.foldl (fun s b => s.burstDrop b true) s
  let s := match s.bursts.running with
    | some b =>
      if b.head = h then
        let s := { s with bursts := { s.bursts with running := some { b with late := true } } }
        if b.cal = 0 then s.emitEmpty h b.res Status.DROPPED else s
      else s
    | none => s
  s.passAbandon h

/-- The frames of a head have results: it has a profile, and its first negotiation has ended (R144, R200; DEDUCED,
notes/assumptions/112). -/
def State.headCounts (s : State) (h : Nat) : Bool :=
  let x := s.head h
  s.headPixels h != 0 && (x.svc || x.everNeg || (x.neg.isNone && s.rd (Reg.HEAD_NEG_NSTAT h) != Status.NOT_YET))

/-- What an FT edge does for head `h`: SYNC, the frame before, the setting change, and the frame that begins. SYNC starts at the
first edge after a negotiation's programming (R140). -/
def State.headFt (s : State) (h : Nat) : State :=
  let x := s.head h
  let counts := s.headCounts h
  let s := if x.svc ∨ x.neg = some .waitFs then
      { s with balls := { s.balls with sync := vmod s.balls.sync h (fun _ => true) } }
    else s
  let s := if counts then s.frameMissed h else s
  let s := s.setHead h (fun x => { x with
    fsSeen := false, winOpen := false, negFt := if x.neg = some .waitFs then x.negFt + 1 else x.negFt
    curL3 := s.l3Odd })
  let s := if x.svc then s.changeApply h else s
  if x.svc && s.l3Odd then s.bump Reg.THM_L3DROP
  else if x.svc then ((s.frameDeadline h).setHead h (fun x => { x with curFrame := s.tick.frame })).shutFt h
  else if counts then s.frameDeadline h
  else s

end Sys2Proof.Machine
end

