-- ==== Sys2Proof/Machine/Compensator.lean ====
section
/-! DEFINITION. The control law of chapter 11 as functions of coefficients and histories (R225 to R233). -/

namespace Sys2Proof.Machine

/-- Limit to −2^47 to 2^47 − 1. -/
def sat48 (v : Int) : Int := clampInt (-(2 ^ 47 : Nat)) ((2 ^ 47 : Nat) - 1) v

/-- Input conversion (R225): v and IOFS already read as unsigned or signed. -/
def convertInput (v ofs scl : Int) (ish : Nat) : Int := sat18s (rshr ((v - ofs) * scl) ish)

/-- scale(P, E) (R227): saturating for E ≥ 0, a rounded right shift for E < 0. -/
def scaleExp (p e : Int) : Int :=
  if 0 ≤ e then sat48 (p * (2 ^ e.toNat : Nat)) else rshr p (-e).toNat

/-- Coefficients and limits of a slot. -/
structure Coef where
  b0 : Int
  b1 : Int
  b2 : Int
  a1 : Int
  a2 : Int
  c0 : Int
  c1 : Int
  d1 : Int
  eb : Int
  ef : Int
  olo : Int
  ohi : Int
  /-- INT: the first-order pole is the integrator. -/
  int : Bool
  /-- Class ACT (R231). -/
  act : Bool
  deriving DecidableEq, Repr

/-- Histories of the two stages. -/
structure Hist where
  i : Int
  e1 : Int
  e2 : Int
  w1 : Int
  w2 : Int
  x1 : Int
  y1 : Int
  deriving DecidableEq, Repr

/-- The biquad output w0 (R227). -/
def biquad (c : Coef) (h : Hist) (e : Int) : Int :=
  let p := c.b0 * e + c.b1 * h.e1 + c.b2 * h.e2
  let a := sat48 (scaleExp p c.eb - 2 * (c.a1 * h.w1) - c.a2 * h.w2)
  sat18s (sar (a + 2 ^ 16) 17)

/-- Initialization of marked histories (R237): e1 = e2 = e, w1 = w2 = 0, and x1 = w0 as computed with them. -/
def initHist (c : Coef) (h : Hist) (e : Int) : Hist :=
  let h1 := { h with e1 := e, e2 := e, w1 := 0, w2 := 0 }
  { h1 with x1 := biquad c h1 e }

/-- Limits of the output (R230). -/
def limitOut (c : Coef) (v : Int) : Int := clampInt c.olo c.ohi v

/-- Result of the compensator: new histories, output, SAT and SATDIR (R230). -/
structure LawOut where
  hist : Hist
  u : Int
  sat : Bool
  satHi : Bool
  deriving DecidableEq, Repr

/-- u from y0 (R230), with the histories advanced. -/
def formOutput (c : Coef) (h : Hist) (e w0 y0 ff : Int) (i : Int) (satHi : Bool) : LawOut :=
  let raw := sat18s (y0 + ff)
  let u := limitOut c raw
  { hist := { i := i, e1 := e, e2 := h.e1, w1 := w0, w2 := h.w1, x1 := w0,
              y1 := if c.int then h.y1 else y0 }
    u := u, sat := decide (u ≠ raw), satHi := if u = raw then satHi else decide (c.ohi < raw) }

/-- A full automatic evaluation (R227 to R233): `lastSat` is SAT, `lastHi` is SATDIR of the last evaluation. -/
def lawStep (c : Coef) (h : Hist) (e ff : Int) (lastSat lastHi : Bool) : LawOut :=
  let w0 := biquad c h e
  let q := scaleExp (c.c0 * w0 + c.c1 * h.x1) c.ef
  if c.int then
    let ic := sat48 (h.i + q)
    let i :=
      if c.act then
        if lastSat && lastHi && decide (0 < q) then h.i
        else if lastSat && !lastHi && decide (q < 0) then h.i
        else ic
      else clampInt ((c.olo - ff) * 2 ^ 17) ((c.ohi - ff) * 2 ^ 17) ic
    formOutput c h e w0 (sat18s (sar (i + 2 ^ 16) 17)) ff i lastHi
  else
    let y0 := sat18s (sar (sat48 (q + c.d1 * h.y1) + 2 ^ 16) 17)
    formOutput c h e w0 y0 ff h.i lastHi

/-- The first automatic evaluation (R238): preset from u_m; the last component is BUMP. -/
def lawPreset (c : Coef) (h : Hist) (e ff um : Int) : LawOut × Bool :=
  let w0 := biquad c h e
  let y0 := sat18s (um - ff)
  let i := if c.int then y0 * 2 ^ 17 else h.i
  let o := formOutput c h e w0 y0 ff i false
  (o, decide (y0 ≠ um - ff))

/-- An evaluation in MANUAL (Table 11-3): the biquad runs when `e` is given (all inputs usable), the first-order state
tracks the output. -/
def lawManual (c : Coef) (h : Hist) (e : Option Int) (ff mout : Int) : Hist × Int :=
  let u := limitOut c mout
  let h := match e with
    | some e => let w0 := biquad c h e
                { h with e1 := e, e2 := h.e1, w1 := w0, w2 := h.w1, x1 := w0 }
    | none => h
  let h := if c.int then { h with i := (u - ff) * 2 ^ 17 } else { h with y1 := sat18s (u - ff) }
  (h, u)

end Sys2Proof.Machine
end

