-- ==== Sys2Proof/Machine/Loops.lean ====
section
/-! DEFINITION. Control loops (R222 to R248), their supervision (R257 to R262) and the trace units (R263 to R265): the
evaluation of a slot, what an ST edge does to the slots, and the commands. -/

namespace Sys2Proof.Machine
open Sys2Proof

def fpLoop : Footprint :=
  { regs := [Blk.range (.ctl 0), Blk.range (.ctl 1), Blk.range .trc, (0x10000, 0x18000)] ++ fpEvents
    parts := [.loops, .points, .traces, .freeCtr] }

/-! ### Slots -/

def State.loop (s : State) (l : Nat) : LoopSt := (assocGet s.loops l).getD LoopSt.init

/-- A slot is configured when its CTL section sets OUTEN (R222). -/
def State.configured (s : State) (l : Nat) : Bool := (assocGet s.loops l).isSome

def State.setLoop (s : State) (l : Nat) (f : LoopSt → LoopSt) : State :=
  match assocGet s.loops l with
  | some x => { s with loops := assocPut s.loops l (f x) }
  | none => s

namespace LState
abbrev OFF : Nat := 0
abbrev OPEN : Nat := 1
abbrev MANUAL : Nat := 2
abbrev AUTO : Nat := 3
abbrev TRIPPED : Nat := 4
end LState

/-- State of a slot (Table 11-7). -/
def State.lstate (s : State) (l : Nat) : Nat := s.rd (Reg.CTL_SSTAT_STATE (l / 256) (l % 256))

def State.setLstate (s : State) (l st : Nat) : State := s.wr (Reg.CTL_SSTAT_STATE (l / 256) (l % 256)) st

/-- The cluster of a slot works: IN_SERVICE, or SERVICE. -/
def State.clusterWorks (s : State) (c : Nat) : Bool := s.works (.ctl (if c = 0 then 0 else 1))

/-- A rate ST/2^K with a phase is due at the present sample counter (R19). -/
def dueAt (sample : BitVec 20) (k phase : Nat) : Bool := sample.toNat % 2 ^ k == phase

def State.loopDue (s : State) (l : Nat) : Bool :=
  dueAt s.tick.sample (s.rd (Reg.CTL_MODE_K l)) (s.rd (Reg.CTL_PHASE l) + 2 ^ 18 * s.rd (Reg.CTL_MODE_PHASE l))

/-- The last committed output: the value that the slot's source last wrote to the output point. -/
def State.lastCommitted (s : State) (l : Nat) : Option Word :=
  match s.point (s.rd (Reg.CTL_OUTPT_POINT l)) with
  | some p => if p.live.quality = .notYet then none else some p.live.value
  | none => none

/-- A trigger at the slot's output point. -/
def State.loopPoint (s : State) (l : Nat) (t : PTrig) : State :=
  s.srcTrig (.ctl (if l < 256 then 0 else 1)) (.loop l) (s.rd (Reg.CTL_OUTPT_POINT l)) t

/-! ### Trace units (R263, R264) -/

namespace TState
abbrev IDLE : Nat := 0
abbrev ARMED : Nat := 1
abbrev TRIGGERED : Nat := 2
abbrev DONE : Nat := 3
end TState

def State.trace (s : State) (u : Nat) : TraceSt := if h : u < 4 then s.traces[u] else s.traces[0]

def State.setTrace (s : State) (u : Nat) (f : TraceSt → TraceSt) : State := { s with traces := vmod s.traces u f }

def State.traceState (s : State) (u : Nat) : Nat := s.rd (Reg.TRC_STAT_STATE u)

/-- The units that record a slot. -/
def State.unitsOf (s : State) (l : Nat) : List Nat :=
  (List.range 4).filter (fun u => s.rd (Reg.TRC_CFG_SLOT u) == l)

/-- The node codes of a unit, NODE0 first. -/
def State.traceNodes (s : State) (u : Nat) : List Nat :=
  [s.rd (Reg.TRC_NODES_NODE0 u), s.rd (Reg.TRC_NODES_NODE1 u), s.rd (Reg.TRC_NODES_NODE2 u),
   s.rd (Reg.TRC_NODES_NODE3 u)]

/-- A node's word as a number in the node's encoding (Table 12-4): nodes 9 to 11 in the format of their point. -/
def State.nodeValue (s : State) (l code : Nat) (w : Word) : Int :=
  if code ≤ 8 then toSigned 18 w.toNat
  else if code ≤ 11 then
    match s.point (s.rd ⟨0x10010 + 0x40 * l + 5 * (code - 9), 11, 0⟩) with
    | some p => formatValue p.format w
    | none => w.toNat
  else w.toNat

/-- A capture ends. With a trigger taken, entries older than PRE before it are discarded (R264). -/
def State.traceDone (s : State) (u : Nat) (short : Bool) : State :=
  let t := s.trace u
  let cut := if s.rdB (Reg.TRC_STAT_TRIGD u) then s.rd (Reg.TRC_TRIGIDX u) - s.rd (Reg.TRC_PRE u) else 0
  let s := (s.setTrace u (fun t => { t with ring := t.ring.drop cut, cmdTrig := false })).wr (Reg.TRC_TRIGIDX u)
    (s.rd (Reg.TRC_TRIGIDX u) - cut)
  ((s.wr (Reg.TRC_STAT_STATE u) TState.DONE).wrB (Reg.TRC_STAT_SHORT u) short).wr (Reg.TRC_STAT_COUNT u)
    (t.ring.length - cut)

/-- The newest entry of a unit is its trigger entry. -/
def State.traceTrig (s : State) (u : Nat) : State :=
  let n := (s.trace u).ring.length
  let f := s.tick.frame.toNat
  ((((s.setTrace u (fun t => { t with after := 0, cmdTrig := false })).wrB (Reg.TRC_STAT_TRIGD u) true).wr
    (Reg.TRC_TRIGIDX u) (n - 1)).wr (Reg.TRC_TFRAME0 u) (f % 2 ^ 18)).wr (Reg.TRC_TFRAME1 u) (f / 2 ^ 18)

/-- Is the trigger condition of an armed unit met at its newest entry? `prev` is the entry before it, once one has been
written since ARM. -/
def State.traceCond (s : State) (u l : Nat) (e : TraceEntry) (prev : Option TraceEntry) (errAbs : Nat) : Bool :=
  let node := s.rd (Reg.TRC_CFG_TNODE u)
  let code := (s.traceNodes u).getD node 0
  let pick := fun (x : TraceEntry) =>
    s.nodeValue l code (match node with | 0 => x.n0 | 1 => x.n1 | 2 => x.n2 | _ => x.n3)
  let lvl := s.nodeValue l code (BitVec.ofNat 18 (s.rd (Reg.TRC_LVL u)))
  (s.trace u).cmdTrig ||
  (match s.rd (Reg.TRC_CFG_TRIG u), prev with
   | 1, some p =>
     if s.rdB (Reg.TRC_CFG_DIR u) then decide (lvl < pick p) && decide (pick e ≤ lvl)
     else decide (pick p < lvl) && decide (lvl ≤ pick e)
   | 2, _ => Nat.ble (s.rd (Reg.TRC_LVL u)) errAbs
   | _, _ => false)

/-- A unit writes an entry and judges its trigger (R263, R264, Table 12-5). -/
def State.traceWrite (s : State) (u l : Nat) (e : TraceEntry) : State :=
  let st := s.traceState u
  let t := s.trace u
  let prev := if t.started then t.ring.getLast? else none
  let full := Nat.ble 4096 t.ring.length
  let s := s.setTrace u (fun t =>
    { t with ring := (if full then t.ring.drop 1 else t.ring) ++ [e], started := true, after := t.after + 1 })
  let s := s.wr (Reg.TRC_STAT_COUNT u) (s.trace u).ring.length
  let errAbs := (toSigned 18 ((t.nodes.getD 3 0#18).toNat)).natAbs
  if st = TState.ARMED then
    if s.traceCond u l e prev errAbs then
      let s := (s.traceTrig u).wr (Reg.TRC_STAT_STATE u) TState.TRIGGERED
      if 4095 ≤ s.rd (Reg.TRC_PRE u) then s.traceDone u false else s
    else s
  else
    let s := if full then s.wr (Reg.TRC_TRIGIDX u) (s.rd (Reg.TRC_TRIGIDX u) - 1) else s
    if 4095 - s.rd (Reg.TRC_PRE u) ≤ (s.trace u).after then s.traceDone u false else s

/-- One evaluation of a slot in MANUAL or AUTO is recorded: `upd` are the nodes that it computed. -/
def State.traceEval (s : State) (l : Nat) (miss : Bool) (upd : List (Nat × Int)) : State :=
  if !s.works .trc then s
  else (s.unitsOf l).foldl (fun s u =>
    let old := (s.trace u).nodes ++ List.replicate (13 - (s.trace u).nodes.length) 0#18
    let nodes := (List.range 13).zipWith (fun i w =>
      match assocGet upd i with | some v => BitVec.ofNat 18 (ofSigned 18 v) | none => w) old
    let s := s.setTrace u (fun t => { t with nodes := nodes })
    let st := s.traceState u
    if st = TState.ARMED ∨ st = TState.TRIGGERED then
      let sel := s.traceNodes u
      let at' := fun i => nodes.getD (sel.getD i 0) 0#18
      if miss then
        match (s.trace u).ring.getLast? with
        | some p => s.traceWrite u l { p with miss := true }
        | none =>
          -- a miss with no entry before it: its words are open
          let (a, s) := s.freeW 263
          let (b, s) := s.freeW 263
          let (c, s) := s.freeW 263
          let (d, s) := s.freeW 263
          s.traceWrite u l { n0 := a, n1 := b, n2 := c, n3 := d, miss := true }
      else s.traceWrite u l { n0 := at' 0, n1 := at' 1, n2 := at' 2, n3 := at' 3, miss := false }
    else s) s

/-- A slot leaves MANUAL and AUTO, or its cluster IN_SERVICE: a triggered capture ends short (Table 12-5). -/
def State.traceLeave (s : State) (l : Nat) : State :=
  (s.unitsOf l).foldl (fun s u => if s.traceState u = TState.TRIGGERED then s.traceDone u true else s) s

/-- A slot trips: an armed unit with TRIG = TRIP is done; its last entry is the trigger entry. -/
def State.traceTrip (s : State) (l : Nat) : State :=
  (s.unitsOf l).foldl (fun s u =>
    if s.traceState u = TState.ARMED ∧ s.rd (Reg.TRC_CFG_TRIG u) = 3 then (s.traceTrig u).traceDone u false else s) s

/-! ### The evaluation (R236 to R243, R258, R259) -/

/-- An input as read: enabled, accepted, the point's value, and the value converted (R225, Table 11-4). -/
structure InRead where
  en : Bool
  ok : Bool
  raw : Word
  x : Int
  deriving DecidableEq, Repr

/-- Table 11-4. -/
def inputOk (q : Quality) (freq : Bool) (age alw : Nat) : Bool :=
  match q with
  | .fresh | .forced | .clipped => true
  | .held => !freq || Nat.ble age alw
  | .stale => !freq
  | .fault | .notYet => false

/-- Input `j` of a slot: 0 SP, 1 PV, 2 FF. -/
def State.readInput (s : State) (l j : Nat) : InRead :=
  let k := 0x10010 + 0x40 * l + 5 * j
  if !s.rdB ⟨k, 17, 17⟩ then { en := false, ok := true, raw := 0#18, x := 0 }
  else
    match s.point (s.rd ⟨k, 11, 0⟩) with
    | none => { en := true, ok := false, raw := BitVec.ofNat 18 0x3FFFF, x := 0 }
    | some p =>
      let ofs := formatValue p.format (BitVec.ofNat 18 (s.rd ⟨k + 1, 17, 0⟩))
      { en := true, ok := inputOk p.v.quality (s.rdB ⟨k, 16, 16⟩) p.v.age (s.rd ⟨k + 4, 15, 0⟩), raw := p.v.value,
        x := convertInput (formatValue p.format p.v.value) ofs (s.rdS ⟨k + 2, 17, 0⟩) (s.rd ⟨k + 3, 4, 0⟩) }

/-- The coefficients and limits of a slot (Table 11-15). -/
def State.coef (s : State) (l : Nat) : Coef :=
  { b0 := s.rdS (Reg.CTL_B0 l), b1 := s.rdS (Reg.CTL_B1 l), b2 := s.rdS (Reg.CTL_B2 l), a1 := s.rdS (Reg.CTL_A1 l),
    a2 := s.rdS (Reg.CTL_A2 l), c0 := s.rdS (Reg.CTL_C0 l), c1 := s.rdS (Reg.CTL_C1 l), d1 := s.rdS (Reg.CTL_D1 l),
    eb := s.rdS (Reg.CTL_EXP_EB l), ef := s.rdS (Reg.CTL_EXP_EF l), olo := s.rdS (Reg.CTL_OLO l),
    ohi := s.rdS (Reg.CTL_OHI l), int := s.rdB (Reg.CTL_MODE_INT l), act := s.rdB (Reg.CTL_MODE_CLASS l) }

def LoopSt.hist (x : LoopSt) : Hist :=
  { i := x.i, e1 := x.e1, e2 := x.e2, w1 := x.w1, w2 := x.w2, x1 := x.x1, y1 := x.y1 }

def LoopSt.withHist (x : LoopSt) (h : Hist) : LoopSt :=
  { x with i := h.i, e1 := h.e1, e2 := h.e2, w1 := h.w1, w2 := h.w2, x1 := h.x1, y1 := h.y1 }

/-- The set-point of the lowest-numbered loop in AUTO, with an evaluation not missed, whose SP input is this point, by the
states in force at the last ST edge (R239 item 1). -/
def State.innerSp (s : State) (pt : Nat) : List (Nat × LoopSt) → Option Word
  | [] => none
  | (m, x) :: rest =>
    if s.rdB ⟨0x10010 + 0x40 * m, 17, 17⟩ && s.rd ⟨0x10010 + 0x40 * m, 11, 0⟩ == pt && x.seen.isSome then x.seen
    else s.innerSp pt rest

/-- u_m of the first automatic evaluation (R128, R238, R239). -/
def State.presetValue (s : State) (l : Nat) (c : Coef) : Int :=
  let pt := s.rd (Reg.CTL_OUTPT_POINT l)
  let mout := s.rdS (Reg.CTL_MOUT l)
  let held : Option Word := match s.point pt with
    | some p => (match p.v.quality with
      | .fresh | .held | .forced | .clipped => some p.v.value
      | _ => none)
    | none => none
  let other : Int :=
    match s.innerSp pt s.loops, held with
    | some w, _ => toSigned 18 w.toNat
    | none, some w => toSigned 18 w.toNat
    | none, none => mout
  match (s.loop l).preset with
  | .manual => (s.loop l).um.getD (limitOut c mout)
  | .reload => (match held with | some w => toSigned 18 w.toNat | none => other)
  | _ => other

/-- Status node of a slot (Table 12-4, code 12). -/
def State.statusNode (s : State) (l : Nat) : Nat :=
  let c := l / 256
  let n := l % 256
  s.rd (Reg.CTL_SSTAT_STATE c n) * 2 ^ 15 + s.rd (Reg.CTL_SSTAT_SAT c n) * 2 ^ 14 +
    s.rd (Reg.CTL_SSTAT_SATDIR c n) * 2 ^ 13 + s.rd (Reg.CTL_SSTAT_BUMP c n) * 2 ^ 12 + s.rd (Reg.CTL_SSTAT_CMISS c n)

/-- A missed evaluation: only the miss status changes; in AUTO, MISSLIM misses in a row trip (R243, R244, R259). -/
def State.loopMiss (s : State) (l cause : Nat) : State :=
  let c := l / 256
  let n := l % 256
  let s := (((s.wrB (Reg.CTL_SSTAT_MISSED c n) true).bump (Reg.CTL_SSTAT_CMISS c n)).wr (Reg.CTL_SSTAT_MISSIN c n)
    cause).bump (Reg.CTL_MISSCNT c n)
  let s := s.bump (Reg.CTL_TMISS c)
  let lim := s.rd (Reg.CTL_SUPCFG_MISSLIM l)
  let trips := cause != 3 && lim != 0 && Nat.ble lim (s.rd (Reg.CTL_SSTAT_CMISS c n))
  s.setLoop l (fun x =>
    { x with evaluated := true, hold := true, out := none, trip := if trips then some .miss else x.trip })

/-- An evaluation that is not missed clears the miss status and keeps its output for the next ST edge. -/
def State.loopOut (s : State) (l : Nat) (u : Int) : State :=
  let c := l / 256
  let n := l % 256
  let w := BitVec.ofNat 18 (ofSigned 18 u)
  (((s.wrB (Reg.CTL_SSTAT_MISSED c n) false).wr (Reg.CTL_SSTAT_CMISS c n) 0).wr (Reg.CTL_OUT l) w.toNat).setLoop l
    (fun x => { x with evaluated := true, hold := false, out := some w, done := true })

/-- FECNT after an automatic evaluation that was not missed; at FETIME it trips (R258). -/
def State.loopFollow (s : State) (l : Nat) (e : Int) : State :=
  let lim := s.rd (Reg.CTL_FELIM l)
  if lim = 0 then s
  else
    let n := if lim < e.natAbs then min 65535 (s.rd (Reg.CTL_SUPSTAT_FECNT l) + 1) else 0
    let s := s.wr (Reg.CTL_SUPSTAT_FECNT l) n
    if s.rd (Reg.CTL_FETIME l) ≤ n then s.setLoop l (fun x => { x with trip := some .follow }) else s

/-- The nodes that the inputs give (Table 12-4). -/
def inputNodes (sp pv ff : InRead) : List (Nat × Int) :=
  [(0, sp.x), (1, pv.x), (2, ff.x), (3, sat18s (sp.x - pv.x))] ++
  ([(9, sp), (10, pv), (11, ff)].filter (fun p => p.2.en)).map (fun p => (p.1, (p.2.raw.toNat : Int)))

/-- An evaluation in MANUAL (Table 11-3). SAT says that MOUT was limited (DEDUCED from Table 11-7, notes/assumptions/36). -/
def State.loopManual (s : State) (l : Nat) : State :=
  let c := s.coef l
  let sp := s.readInput l 0
  let pv := s.readInput l 1
  let ff := s.readInput l 2
  let all := sp.ok && pv.ok && ff.ok
  let e := sat18s (sp.x - pv.x)
  let f := if ff.ok then ff.x else 0
  let x := s.loop l
  let h := if all && x.mark then initHist c x.hist e else x.hist
  let mout := s.rdS (Reg.CTL_MOUT l)
  let (h2, u) := lawManual c h (if all then some e else none) f mout
  let s := s.setLoop l (fun x => { x.withHist h2 with mark := if all then false else x.mark })
  let s := if sp.en then s.wr (Reg.CTL_SPLAST l) sp.raw.toNat else s
  let s := s.loopOut l u
  let s := s.wrB (Reg.CTL_SSTAT_SAT (l / 256) (l % 256)) (u != mout)
  let s := if u = mout then s else s.wrB (Reg.CTL_SSTAT_SATDIR (l / 256) (l % 256)) (decide (u < mout))
  let nodes := (if all then inputNodes sp pv ff ++ [(4, h2.w1)] else []) ++ [(7, u)] ++
    (if c.int then [(8, sar h2.i 30)] else []) ++ [(12, (s.statusNode l : Int))]
  s.traceEval l false nodes

/-- An evaluation in AUTO (R226 to R233, R237 to R239, R242, R243). -/
def State.loopAuto (s : State) (l : Nat) : State :=
  let c := s.coef l
  let sp := s.readInput l 0
  let pv := s.readInput l 1
  let ff := s.readInput l 2
  if !sp.ok || !pv.ok || !ff.ok then
    (s.loopMiss l (if !sp.ok then 0 else if !pv.ok then 1 else 2)).traceEval l true []
  else
    let cl := l / 256
    let n := l % 256
    let e := sat18s (sp.x - pv.x)
    let x := s.loop l
    let h := if x.mark then initHist c x.hist e else x.hist
    let first := x.preset != .none
    let (o, s) :=
      if first then
        let (o, bump) := lawPreset c h e ff.x (s.presetValue l c)
        (o, s.wrB (Reg.CTL_SSTAT_BUMP cl n) bump)
      else (lawStep c h e ff.x (s.rdB (Reg.CTL_SSTAT_SAT cl n)) (s.rdB (Reg.CTL_SSTAT_SATDIR cl n)), s)
    let s := (s.wrB (Reg.CTL_SSTAT_SAT cl n) o.sat).wrB (Reg.CTL_SSTAT_SATDIR cl n) o.satHi
    let s := s.setLoop l (fun x => { x.withHist o.hist with mark := false, preset := .none })
    let s := if sp.en then s.wr (Reg.CTL_SPLAST l) sp.raw.toNat else s
    let s := (s.loopOut l o.u).loopFollow l e
    let y0 := if c.int then sat18s (sar (o.hist.i + 2 ^ 16) 17) else o.hist.y1
    let nodes := inputNodes sp pv ff ++ [(4, o.hist.w1), (5, y0), (6, sat18s (y0 + ff.x)), (7, o.u)] ++
      (if c.int then [(8, sar o.hist.i 30)] else []) ++ [(12, (s.statusNode l : Int))]
    s.traceEval l false nodes

/-- A slot in MANUAL or AUTO that is due and has not been evaluated since the ST edge. -/
def State.loopWaits (s : State) (l : Nat) : Bool :=
  s.configured l && s.loopDue l && !(s.loop l).evaluated && (s.lstate l == LState.MANUAL || s.lstate l == LState.AUTO)

/-- No slot of the same cluster with a lower number waits: the slots of a cluster run in ascending order (R29). -/
def State.loopTurn (s : State) (l : Nat) : Bool :=
  s.loops.all (fun p => p.1 / 256 != l / 256 || !Nat.blt p.1 l || !s.loopWaits p.1)

/-- LOOP_EVALUATION: a configured slot at an ST edge at which it is due, once per edge, the slots of a cluster in ascending order
(R29, R222, R236). In OFF, OPEN and
TRIPPED nothing is read or run; what those states do at a due edge is done at the edge itself. A slot of a cluster under
reload misses in MANUAL and AUTO (R128, R244). -/
def execLoopEvaluation (l : Fin 512) (s : State) : Host.Outcome State Fault Refusal :=
  let l := l.val
  let c := l / 256
  let reload := match s.boot.reload with | some (ty, u, _) => ty == 7 && u == c | none => false
  let st := s.lstate l
  done fpLoop s
    (if !s.loopWaits l || !s.loopTurn l then s
     else if !s.clusterWorks c then (if reload then s.loopMiss l 3 else s)
     else if st = LState.MANUAL then s.loopManual l else s.loopAuto l)

/-! ### What an ST edge does to the slots (R28, R235, R260 to R262) -/

/-- Fans whose command point is the output point of a slot that trips with SAFE stop at once; valve, DAC and GPIO channels follow
at their next sampling, and every channel stays so while the slot does (`State.pointHeld`; R14, R261, R294). -/
def State.stopFans (s : State) (pt : Nat) : State :=
  (List.range 3).foldl (fun s c =>
    if s.rdB (Reg.FAN_CFG_EN c) && s.rd (Reg.FAN_TGTPT c) == pt && !s.service && !s.fanOverride c then s.fanSafe c else s) s

/-- The trip action of a slot: at the trip edge (`first`), or at a later due edge (Table 12-3). -/
def State.tripAction (s : State) (l : Nat) (first : Bool) : State :=
  match s.rd (Reg.CTL_SUPCFG_ACTION l) with
  | 0 =>
    if (s.loop l).fromOpen then s
    else match s.lastCommitted l with
      | some w => s.loopPoint l (.write w)
      | none => s
  | 1 => if first then s.loopPoint l .noResult else s
  | 2 =>
    let s := s.loopPoint l (.write (BitVec.ofNat 18 (s.rd (Reg.CTL_SAFEVAL l))))
    if first then s.stopFans (s.rd (Reg.CTL_OUTPT_POINT l)) else s
  | _ => if first then s.loopPoint l (.fail none) else s

def LoopTrip.code : LoopTrip → Nat
  | .follow => 1 | .miss => 2 | .group => 3

/-- A trip takes effect (R260, R261): the evaluation's output is not committed, a pending command is discarded and CSTAT
reads ILLEGAL_STATE where it shows this slot (R235). -/
def State.loopTrip (s : State) (l : Nat) (cause : LoopTrip) : State :=
  let c := l / 256
  let fromOpen := s.lstate l == LState.OPEN
  let pend := (s.loop l).cmd.isSome
  let s := (s.traceTrip l).setLoop l (fun x =>
    { x with trip := none, fromOpen := fromOpen, out := none, hold := false, cmd := none })
  let s := (((s.setLstate l LState.TRIPPED).wr (Reg.CTL_SUPSTAT_TCAUSE l) cause.code).bump (Reg.CTL_NTRIP c)).traceLeave l
  let s := if pend && s.rd (Reg.CTL_SCMD_CSLOT c) == l % 256 then s.wr (Reg.CTL_SCMD_CSTAT c) Status.ILLEGAL_STATE else s
  let s := s.tripAction l true
  (s.logEvent 0x05 [l % 256, l / 256, cause.code, s.rd (Reg.CTL_SUPCFG_ACTION l)]).irq 9

/-- Entry to AUTO: FECNT and TCAUSE are cleared, and the first evaluation presets (R238, R239, R258, R262). -/
def State.enterAuto (s : State) (l : Nat) (p : Preset) : State :=
  (((s.setLoop l (fun x => { x with preset := p })).wr (Reg.CTL_SUPSTAT_FECNT l) 0).wr (Reg.CTL_SUPSTAT_TCAUSE l)
    0).setLstate l LState.AUTO

/-- A command takes effect (Table 11-2). -/
def State.loopCmd (s : State) (l : Nat) (cmd : LoopCmd) : State :=
  let st := s.lstate l
  let marked := fun (s : State) => s.setLoop l (fun x => { x with mark := true })
  match cmd with
  | .off =>
    if st = LState.OFF then s
    else (s.setLoop l (fun x => x.withHist ⟨0, 0, 0, 0, 0, 0, 0⟩)).setLstate l LState.OFF
  | .open' =>
    if st = LState.OFF then marked (s.setLstate l LState.OPEN)
    else if st = LState.OPEN then s
    else (s.setLstate l LState.OPEN).traceLeave l
  | .manual =>
    if st = LState.OPEN then
      (marked (s.setLstate l LState.MANUAL)).setLoop l (fun x => { x with um := none, preset := .none })
    else if st = LState.AUTO then
      let s := match s.lastCommitted l with | some w => s.wr (Reg.CTL_MOUT l) w.toNat | none => s
      (s.setLstate l LState.MANUAL).setLoop l (fun x => { x with um := none, preset := .none })
    else s
  | .auto =>
    if st = LState.OPEN then marked (s.enterAuto l .other)
    else if st = LState.MANUAL then s.enterAuto l .manual
    else s
  | .reset => if st = LState.TRIPPED then marked (s.setLstate l LState.OPEN) else s

/-- The output of the last tick commits, or the point goes HELD after a miss (R28, R243). -/
def State.loopCommit (s : State) (l : Nat) : State :=
  let x := s.loop l
  let um := fun (w : Word) (x : LoopSt) =>
    { x with um := if s.lstate l = LState.MANUAL then some (toSigned 18 w.toNat) else x.um }
  (match x.out with
   | some w => (s.loopPoint l (.write w)).setLoop l (um w)
   | none => if x.hold then s.loopPoint l .noResult else s).setLoop l
    (fun x => { x with out := none, hold := false, evaluated := false })

/-- The device has entered SERVICE since the last ST edge: a slot that is not OFF goes OPEN (R246). -/
def State.loopService (s : State) (l : Nat) : State :=
  if !(s.loop l).svc then s
  else
    let s := s.setLoop l (fun x => { x with svc := false })
    if s.lstate l = LState.OFF ∨ s.lstate l = LState.OPEN then s else (s.setLstate l LState.OPEN).traceLeave l

/-- The device enters SERVICE: every slot that is not OFF, of a cluster that does, will go OPEN at the next ST edge; its pending
command is discarded (R246, Table 11-2). -/
def State.loopsService (s : State) : State :=
  { s with loops := s.loops.map (fun p =>
      if s.lstate p.1 != LState.OFF && s.clusterWorks (p.1 / 256) then (p.1, { p.2 with svc := true, cmd := none }) else p) }

/-- The command accepted last takes effect (R235). -/
def State.loopTake (s : State) (l : Nat) : State :=
  match (s.loop l).cmd with
  | some cmd => (s.setLoop l (fun x => { x with cmd := none })).loopCmd l cmd
  | none => s

/-- A due edge in OFF, OPEN or TRIPPED (Tables 11-3, 12-3). -/
def State.loopIdle (s : State) (l : Nat) : State :=
  let st := s.lstate l
  if !s.loopDue l then s
  else if st = LState.OFF ∨ st = LState.OPEN then s.loopPoint l .noResult
  else if st = LState.TRIPPED then s.tripAction l false
  else s

/-- The set-point that other loops may preset from, by the states in force at this edge (R239). -/
def State.loopSeen (s : State) (l : Nat) : State :=
  let auto := s.lstate l == LState.AUTO
  let sp := BitVec.ofNat 18 (s.rd (Reg.CTL_SPLAST l))
  s.setLoop l (fun x => { x with seen := if auto && x.done then some sp else none })

/-- One slot at an ST edge, after the trips. What OFF, OPEN and TRIPPED do at a due edge they do from the first one after
the edge at which the state was entered. -/
def State.loopEdge (s : State) (l : Nat) : State :=
  let t := ((s.loopCommit l).loopService l).loopTake l
  (if t.lstate l = s.lstate l then t.loopIdle l else t).loopSeen l

/-- The trips decided in the previous tick, and the groups they reach (R260). -/
def State.loopTrips (s : State) : State :=
  let own := s.loops.filter (fun p => p.2.trip.isSome)
  let groups := (own.filter (fun p => s.rdB (Reg.CTL_SUPCFG_GPROP p.1))).map (fun p => s.rd (Reg.CTL_SUPCFG_GROUP p.1))
  s.loops.foldl (fun s p =>
    let st := s.lstate p.1
    let open' := st == LState.OPEN || st == LState.MANUAL || st == LState.AUTO
    match p.2.trip with
    | some t => if open' then s.loopTrip p.1 t else s.setLoop p.1 (fun x => { x with trip := none })
    | none =>
      let g := s.rd (Reg.CTL_SUPCFG_GROUP p.1)
      if open' && g != 0 && memNat g groups && s.clusterWorks (p.1 / 256) then s.loopTrip p.1 .group else s) s

/-- Trips, commits and commands of every slot at an ST edge; a cluster that does not work has nothing pending, but for the
points of a reload's missed edges. -/
def State.loopsEdge (s : State) : State :=
  let s := s.loopTrips
  s.loops.foldl (fun s p =>
    if s.clusterWorks (p.1 / 256) then s.loopEdge p.1
    else s.setLoop p.1 (fun x => { x with evaluated := false, hold := false, out := none })) s

/-- A cluster leaves IN_SERVICE: the captures of its slots end short (Table 12-5). -/
def State.clusterLeave (s : State) (c : Nat) : State :=
  s.loops.foldl (fun s p => if p.1 / 256 = c then s.traceLeave p.1 else s) s

/-- The counters and status flags of a cluster are 0: at its domain's return to ON (R244). -/
def State.clusterClear (s : State) (c : Nat) : State :=
  (s.loops.foldl (fun s p =>
    if p.1 / 256 = c then
      let n := p.1 % 256
      ((((s.wrKey (Reg.CTL_SSTAT_STATE c n).key 0).wrKey (Reg.CTL_SUPSTAT_FECNT p.1).key 0).wr (Reg.CTL_MISSCNT c n) 0).wr
        (Reg.CTL_OUT p.1) 0).wr (Reg.CTL_SPLAST p.1) 0
    else s) s).wr (Reg.CTL_TMISS c) 0 |>.wr (Reg.CTL_NTRIP c) 0

/-- Every slot of a cluster takes the INIT state of its section, its integrator and histories cleared and marked; CMISS and
FECNT are 0; a slot that enters AUTO presets as R128 states (R128, R244, R245, R259). -/
def State.clusterInit (s : State) (c : Nat) : State :=
  s.loops.foldl (fun s p =>
    let l := p.1
    if l / 256 ≠ c then s
    else
      let st := s.rd (Reg.CTL_MODE_INIT l)
      let s := s.setLoop l (fun _ => { LoopSt.init with mark := true })
      let s := (((s.wr (Reg.CTL_SSTAT_CMISS c (l % 256)) 0).wr (Reg.CTL_SUPSTAT_FECNT l) 0).setLstate l st)
      if st = LState.AUTO then s.enterAuto l .reload else s) s

/-! ### Commands (R234, R235, R246) -/

/-- Is a command listed for a state, or does it name the state the slot is in (Table 11-2)? -/
def loopAllowed (st : Nat) (cmd : LoopCmd) : Bool :=
  match cmd with
  | .off => st == LState.OPEN || st == LState.TRIPPED || st == LState.OFF
  | .open' => st == LState.OFF || st == LState.MANUAL || st == LState.AUTO || st == LState.OPEN
  | .manual => st == LState.OPEN || st == LState.AUTO || st == LState.MANUAL
  | .auto => st == LState.OPEN || st == LState.MANUAL || st == LState.AUTO
  | .reset => st == LState.TRIPPED

def State.loopJudge (s : State) (c : Fin 2) (cmd : LoopCmd) : Nat :=
  let l := 256 * c.val + s.rd (Reg.CTL_SSEL c.val)
  let st := s.gate (.ctl c) true
  if st ≠ Status.OK then st
  else if !s.configured l then Status.BAD_ARG
  else if s.service && (cmd == .manual || cmd == .auto || cmd == .reset) then Status.ILLEGAL_STATE
  else if loopAllowed (s.lstate l) cmd then Status.OK else Status.ILLEGAL_STATE

/-- A command for the selected slot: judged now, in effect at the next ST edge, where the last one accepted counts. -/
def State.loopCommand (s : State) (c : Fin 2) (cmd : LoopCmd) : State :=
  let n := s.rd (Reg.CTL_SSEL c.val)
  let st := s.loopJudge c cmd
  let s := if st = Status.OK then s.setLoop (256 * c.val + n) (fun x => { x with cmd := some cmd }) else s
  (s.wr (Reg.CTL_SCMD_CSLOT c.val) n).answer (.ctl c) 0x201 (some (Reg.CTL_SCMD_CSTAT c.val)) st

def fpLoopCmd (c : Fin 2) : Footprint := { regs := [Blk.range (.ctl c)], parts := [.loops] }

/-- CTL_OFF (Table 11-2). -/
def execCtlOff (c : Fin 2) (s : State) : Host.Outcome State Fault Refusal := done (fpLoopCmd c) s (s.loopCommand c .off)

/-- CTL_OPEN (Table 11-2). -/
def execCtlOpen (c : Fin 2) (s : State) : Host.Outcome State Fault Refusal := done (fpLoopCmd c) s (s.loopCommand c .open')

/-- CTL_MANUAL (Table 11-2). -/
def execCtlManual (c : Fin 2) (s : State) : Host.Outcome State Fault Refusal :=
  done (fpLoopCmd c) s (s.loopCommand c .manual)

/-- CTL_AUTO (Table 11-2). -/
def execCtlAuto (c : Fin 2) (s : State) : Host.Outcome State Fault Refusal := done (fpLoopCmd c) s (s.loopCommand c .auto)

/-- CTL_RESET (Table 11-2). -/
def execCtlReset (c : Fin 2) (s : State) : Host.Outcome State Fault Refusal :=
  done (fpLoopCmd c) s (s.loopCommand c .reset)

/-! ### Trace commands (R264, R265) -/

def fpTrace : Footprint := { regs := [Blk.range .trc], parts := [.traces] }

/-- The outcome of a trace command: unlocked, and listed for the state. -/
def State.traceJudge (s : State) (ok : Bool) : Nat :=
  let st := s.gate .trc true
  if st ≠ Status.OK then st else if ok then Status.OK else Status.ILLEGAL_STATE

def State.traceAnswer (s : State) (u st : Nat) : State := s.answer .trc (0x10 * u + 4) (some (Reg.TRC_CMD_CSTAT u)) st

/-- TRACE_ARM: IDLE or DONE to ARMED (Table 12-5). -/
def execTraceArm (u : Fin 4) (s : State) : Host.Outcome State Fault Refusal :=
  let u := u.val
  let st := s.traceJudge (s.traceState u == TState.IDLE || s.traceState u == TState.DONE)
  done fpTrace s
    ((if st = Status.OK then
        ((((s.setTrace u (fun t => { t with ring := [], started := false, cmdTrig := false, after := 0 })).wr
          (Reg.TRC_STAT_STATE u) TState.ARMED).wrB (Reg.TRC_STAT_TRIGD u) false).wr (Reg.TRC_STAT_COUNT u) 0).wrB
            (Reg.TRC_STAT_SHORT u) false
      else s).traceAnswer u st)

/-- TRACE_TRIGGER: the next entry of an armed unit is its trigger entry, whatever TRIG is. -/
def execTraceTrigger (u : Fin 4) (s : State) : Host.Outcome State Fault Refusal :=
  let u := u.val
  let st := s.traceJudge (s.traceState u == TState.ARMED)
  done fpTrace s
    ((if st = Status.OK then s.setTrace u (fun t => { t with cmdTrig := true }) else s).traceAnswer u st)

/-- TRACE_STOP: ARMED or TRIGGERED to DONE, short. -/
def execTraceStop (u : Fin 4) (s : State) : Host.Outcome State Fault Refusal :=
  let u := u.val
  let st := s.traceJudge (s.traceState u == TState.ARMED || s.traceState u == TState.TRIGGERED)
  done fpTrace s ((if st = Status.OK then s.traceDone u true else s).traceAnswer u st)

/-- TRC_RSEL_WRITE: one entry is copied into the read registers (R265). -/
def execTrcRselWrite (v : Word) (s : State) : Host.Outcome State Fault Refusal :=
  let st := s.gate .trc false
  let u := bitsOf v.toNat 13 12
  let i := bitsOf v.toNat 11 0
  let busy := s.traceState u == TState.ARMED || s.traceState u == TState.TRIGGERED
  let put := fun (s : State) (a b c d : Nat) =>
    (((s.wr (Reg.TRC_RD 0) a).wr (Reg.TRC_RD 1) b).wr (Reg.TRC_RD 2) c).wr (Reg.TRC_RD 3) d
  done fpTrace s
    (if st ≠ Status.OK then s.result .trc 0x100 st
     else
       let s := (s.wr Reg.TRC_RSEL_UNIT u).wr Reg.TRC_RSEL_INDEX i
       let s :=
         if busy then s.wr Reg.TRC_RFLAG_RSTAT Status.BUSY
         else match (if i < s.rd (Reg.TRC_STAT_COUNT u) then (s.trace u).ring[i]? else none) with
           | some e => ((put s e.n0.toNat e.n1.toNat e.n2.toNat e.n3.toNat).wr Reg.TRC_RFLAG_RSTAT Status.OK).wrB
               Reg.TRC_RFLAG_MISS e.miss
           | none => ((put s 0 0 0 0).wr Reg.TRC_RFLAG_RSTAT Status.HOLE).wrB Reg.TRC_RFLAG_MISS false
       s.result .trc 0x100 Status.OK)

end Sys2Proof.Machine
end

