-- ==== Sys2Proof/Machine/Profile.lean ====
section
/-! DEFINITION. The step of a profile generator (R254) and the calendar and programs of the schedules (R266, R267), as
functions. -/

namespace Sys2Proof.Machine

/-- lim(x, m) of R254. -/
def limSym (x : Int) (m : Nat) : Int := if m = 0 then x else clampInt (-m) m x

def sgn (x : Int) : Int := if x < 0 then -1 else if x = 0 then 0 else 1

/-- Position, velocity, acceleration, and the velocity removed at an arrival in this step. -/
structure PrfOut where
  p : Int
  v : Int
  a : Int
  arrived : Option Nat
  deriving DecidableEq, Repr

/-- One step of R254: the state, the target T and the limits Vm, Am, Jm. -/
def prfStep (p v a t : Int) (vm am jm : Nat) : PrfOut :=
  let e := t - p
  let vd := if am = 0 then e else sgn e * isqrt (2 * am * e.natAbs)
  let vd := limSym vd vm
  let dv := vd - v
  let ad := if jm = 0 then dv else sgn dv * (Nat.min dv.natAbs (isqrt (2 * jm * dv.natAbs)) : Nat)
  let ad := limSym ad am
  let a := a + limSym (ad - a) jm
  let v := limSym (v + a) vm
  let p := p + v
  if e ≠ 0 ∧ (t - p = 0 ∨ sgn (t - p) ≠ sgn e) then ⟨t, 0, 0, some (v.natAbs / 2 ^ 16)⟩
  else ⟨p, v, a, none⟩

/-- A value of P, V or A fits the signed 48 bits that R254 gives it. -/
def fits48 (x : Int) : Bool := decide (-(2 ^ 47 : Int) ≤ x) && decide (x < 2 ^ 47)

/-- y of R254, saturated to the range of the format (`signed`: FRAC). -/
def prfOutput (p : Int) (signed : Bool) : Int :=
  let y := (p + 2 ^ 23) / 2 ^ 24
  if signed then clampInt (-131072) 131071 y else clampInt 0 262143 y

/-! ### The calendar of the RTC (R266) -/

def isLeap (y : Nat) : Bool := (y % 4 == 0 && y % 100 != 0) || y % 400 == 0

def yearDays (y : Nat) : Nat := if isLeap y then 366 else 365

def monthDays (y m : Nat) : Nat :=
  match m with
  | 2 => if isLeap y then 29 else 28
  | 4 | 6 | 9 | 11 => 30
  | _ => 31

/-- Year and day of year of a day count, from `y` on, with fuel. -/
def splitYear : Nat → Nat → Nat → Nat × Nat
  | 0, y, d => (y, d)
  | k + 1, y, d => if d < yearDays y then (y, d) else splitYear k (y + 1) (d - yearDays y)

def splitMonth (y : Nat) : Nat → Nat → Nat → Nat × Nat
  | 0, m, d => (m, d)
  | k + 1, m, d => if d < monthDays y m then (m, d) else splitMonth y k (m + 1) (d - monthDays y m)

/-- A date: year, month 1 to 12, day 1 to 31, weekday 0 (Monday) to 6. -/
structure Date where
  year : Nat
  month : Nat
  day : Nat
  wday : Nat
  deriving DecidableEq, Repr

/-- The date of a day count from 2000-01-01, a Saturday (R266). -/
def dateOf (days : Nat) : Date :=
  let (y, d) := splitYear 140 2000 days
  let (m, dd) := splitMonth y 12 1 d
  ⟨y, m, dd + 1, (days + 5) % 7⟩

/-! ### Day programs (R267) -/

/-- One exception entry. -/
structure SchedExc where
  en : Bool
  yearly : Bool
  month : Nat
  day : Nat
  sub : Nat
  year : Nat
  deriving DecidableEq, Repr

/-- A transition: valid, minute, value. -/
structure Transition where
  valid : Bool
  minute : Nat
  value : Word
  deriving DecidableEq, Repr

def SchedExc.hit (x : SchedExc) (d : Date) : Bool :=
  x.en && x.month == d.month && x.day == d.day && (x.yearly || 2000 + x.year == d.year)

/-- The lowest-numbered exception that matches a date, with its index. -/
def findExc (d : Date) : Nat → List SchedExc → Option (Nat × Nat)
  | _, [] => none
  | i, x :: xs => if x.hit d then some (i, x.sub) else findExc d (i + 1) xs

/-- Weekday program of a date, and the exception used. -/
def dayProgram (exc : List SchedExc) (d : Date) : Nat × Option Nat :=
  match findExc d 0 exc with
  | some (i, s) => (s, some i)
  | none => (d.wday, none)

/-- The valid transition with the largest minute not later than `minute`; of equal minutes the higher index. -/
def lastTransition (minute : Nat) : List Transition → Option (Nat × Word) → Option (Nat × Word)
  | [], acc => acc
  | t :: ts, acc =>
    let take := t.valid && Nat.ble t.minute minute &&
      (match acc with | some a => Nat.ble a.1 t.minute | none => true)
    lastTransition minute ts (if take then some (t.minute, t.value) else acc)

/-- The date `back` days before a day count: before 2000-01-01, where the count starts, the days of December 1999. -/
def dateBefore (days back : Nat) : Date :=
  if back ≤ days then dateOf (days - back)
  else ⟨1999, 12, 32 - (back - days), (days + 5 + 7 * back - back) % 7⟩

/-- The last transition of the nearest previous day that has one, from `back` + 1 days before on, `k` days at most. -/
def lookBack (progs : List (List Transition)) (exc : List SchedExc) (days : Nat) : Nat → Nat → Option Word
  | 0, _ => none
  | k + 1, back =>
    let pr := (dayProgram exc (dateBefore days (back + 1))).1
    match lastTransition 1439 (progs.getD pr []) none with
    | some t => some t.2
    | none => lookBack progs exc days k (back + 1)

/-- The scheduled value at an RTC count with TVALID set (R267). -/
def scheduledValue (progs : List (List Transition)) (exc : List SchedExc) (dflt : Word) (sec : Nat) : Word :=
  let days := sec / 86400
  let minute := sec % 86400 / 60
  match lastTransition minute (progs.getD (dayProgram exc (dateOf days)).1 []) none with
  | some t => t.2
  | none => (lookBack progs exc days 7 0).getD dflt

end Sys2Proof.Machine
end

