-- ==== Sys2Proof/Machine/Plans.lean ====
section
/-! DEFINITION. Profile generators (R252 to R256), the RTC (R266) and the weekly schedules (R267 to R270). -/

namespace Sys2Proof.Machine
open Sys2Proof

/-! ### Profile generators -/

def fpPrf : Footprint := { regs := [Blk.range .prf], parts := [.prfs, .points, .freeCtr] }

def State.prf (s : State) (g : Nat) : PrfSt := (assocGet s.prfs g).getD PrfSt.init

def State.setPrf (s : State) (g : Nat) (f : PrfSt → PrfSt) : State :=
  match assocGet s.prfs g with
  | some x => { s with prfs := assocPut s.prfs g (f x) }
  | none => s

namespace GState
abbrev WAIT : Nat := 0
abbrev MOVING : Nat := 1
abbrev AT_TARGET : Nat := 2
end GState

def State.prfFormat (s : State) (g : Nat) : PFormat :=
  match s.point (s.rd (Reg.PRF_OUT g)) with | some p => p.format | none => .frac

/-- The target of this step: the point's value where it is usable (R253). -/
def State.prfTarget (s : State) (g : Nat) : Option Int :=
  match s.point (s.rd (Reg.PRF_TGT g)) with
  | some p => (match p.v.quality with
    | .fresh | .held | .forced | .clipped => some (formatValue p.format p.v.value)
    | _ => none)
  | none => none

/-- P, V or A as a step leaves it. Where a value falls outside its 48 bits R254 states none: a free value (DESIGN CHOICE,
notes/assumptions/104). -/
def State.store48 (s : State) (x : Int) : BitVec 48 × State :=
  if fits48 x then (BitVec.ofInt 48 x, s) else (let (n, s) := s.freeN; (BitVec.ofNat 48 n, s))

/-- A generator at rest at a value of its output. -/
def PrfSt.rest (x : PrfSt) (v : Int) : PrfSt := { x with p := BitVec.ofInt 48 (v * 2 ^ 24), v := 0, a := 0 }

/-- A SYNC or PRESET command acts at the step; `fresh` is the target where it is usable. A PRESET also sets the last target
(R256). -/
def PrfSt.take (x : PrfSt) (fresh : Option Int) : PrfSt :=
  match x.cmd with
  | some (some v) => { x.rest v with target := some (fresh.getD v), cmd := none }
  | some none =>
    (match fresh, x.target with
     | some t, _ => { x.rest t with target := some t, cmd := none }
     | none, some t => { x.rest t with cmd := none }
     | none, none => { x with cmd := none })
  | none => (match fresh with | some t => { x with target := some t } | none => x)

/-- One step of a generator (R254, R255). -/
def State.prfStepAt (s : State) (g : Nat) : State :=
  let fresh := s.prfTarget g
  let x := s.prf g
  let wait := s.rd (Reg.PRF_STAT_GSTATE g) == GState.WAIT
  -- in WAIT the first usable target is where the generator starts, at rest
  let x := match fresh with
    | some t => if wait && x.cmd.isNone then x.rest t else x
    | none => x
  let x := x.take fresh
  let s := s.wrB (Reg.PRF_STAT_TSTALE g) fresh.isNone
  match x.target with
  | none => s.setPrf g (fun _ => x)
  | some t =>
    let tt := t * 2 ^ 24
    let o := prfStep x.p.toInt x.v.toInt x.a.toInt tt (s.rd (Reg.PRF_VMAX g) * 2 ^ 16) (s.rd (Reg.PRF_AMAX g) * 2 ^ 8)
      (s.rd (Reg.PRF_JMAX g))
    let (p, s) := s.store48 o.p
    let (v, s) := s.store48 o.v
    let (a, s) := s.store48 o.a
    let y := prfOutput p.toInt (s.prfFormat g == .frac)
    let atTarget := decide (tt = p.toInt) && v == 0 && a == 0
    let s := s.wr (Reg.PRF_STAT_GSTATE g) (if atTarget then GState.AT_TARGET else GState.MOVING)
    s.setPrf g (fun _ => { x with p := p, v := v, a := a, arrv := o.arrived.getD x.arrv,
                                  out := some (BitVec.ofNat 18 (ofSigned 18 y)) })

def State.prfDue (s : State) (g : Nat) : Bool :=
  dueAt s.tick.sample (s.rd (Reg.PRF_CFG_K g)) (s.rd (Reg.PRF_PHASE g) + 2 ^ 18 * s.rd (Reg.PRF_CFG_PHASE g))

/-- PROFILE_STEP: a generator in use that is due steps once. In SERVICE the engine does not step: its output has no result at the
due time and goes HELD (R42, R252, R256). -/
def execProfileStep (g : Fin 64) (s : State) : Host.Outcome State Fault Refusal :=
  let g := g.val
  done fpPrf s
    (if !s.works .prf ∨ (assocGet s.prfs g).isNone ∨ !s.prfDue g ∨ (s.prf g).out.isSome then s
     else if s.eng .prf = stService then s.srcTrig .prf (.prf g) (s.rd (Reg.PRF_OUT g)) .noResult
     else s.prfStepAt g)

/-- The outputs of the last tick commit at an ST edge (R28). -/
def State.prfsCommit (s : State) : State :=
  s.prfs.foldl (fun s p => match p.2.out with
    | some w => (s.srcTrig .prf (.prf p.1) (s.rd (Reg.PRF_OUT p.1)) (.write w)).setPrf p.1 (fun x => { x with out := none })
    | none => s) s

/-- A generator starts, or starts again, at rest at a value of its output (R256). -/
def State.prfRest (s : State) (g : Nat) (v : Int) : State :=
  (s.setPrf g (fun x => { x.rest v with target := some v })).wr (Reg.PRF_STAT_GSTATE g) GState.AT_TARGET

/-- When the device leaves SERVICE, each generator restarts at rest at its output value, which an output that still waits for
its ST edge gives; a command that waits for the next step stays (R256). -/
def State.prfsLeave (s : State) : State :=
  s.prfs.foldl (fun s p =>
    if s.rd (Reg.PRF_STAT_GSTATE p.1) = GState.WAIT then s
    else match p.2.out, s.point (s.rd (Reg.PRF_OUT p.1)) with
      | some w, _ => s.prfRest p.1 (formatValue (s.prfFormat p.1) w)
      | none, some q => s.prfRest p.1 (formatValue q.format q.live.value)
      | none, none => s) s

/-- The generators of a PRF section that has been applied: one whose output point holds a usable value starts there, any
other waits for its first usable target (R256). -/
def State.prfsLoad (s : State) : State :=
  let use := (List.range 64).filter (fun g => s.rdB (Reg.PRF_CFG_EN g))
  let s := { s with prfs := use.map (fun g => (g, PrfSt.init)) }
  use.foldl (fun s g =>
    let s := (s.wr (Reg.PRF_STAT_GSTATE g) GState.WAIT).wrB (Reg.PRF_STAT_TSTALE g) false
    match s.point (s.rd (Reg.PRF_OUT g)) with
    | some q => if q.v.quality.usable then s.prfRest g (formatValue q.format q.v.value) else s
    | none => s) s

/-- A command for the generator GEN: SYNC is rejected in WAIT; the last one before the step wins (R256). -/
def State.prfCommand (s : State) (preset : Bool) : State :=
  let g := s.rd Reg.PRF_GSEL
  let st := s.gate .prf true
  let st := if st ≠ Status.OK then st
    else if !preset && s.rd (Reg.PRF_STAT_GSTATE g) == GState.WAIT then Status.ILLEGAL_STATE else Status.OK
  let cmd : Option Int :=
    if preset then some (formatValue (s.prfFormat g) (BitVec.ofNat 18 (s.rd Reg.PRF_PVAL))) else none
  let s := if st = Status.OK then s.setPrf g (fun x => { x with cmd := some cmd }) else s
  s.answer .prf 0x201 (some Reg.PRF_CMD_CSTAT) st

/-- PRF_SYNC (R256). -/
def execPrfSync (s : State) : Host.Outcome State Fault Refusal := done fpPrf s (s.prfCommand false)

/-- PRF_PRESET (R256). -/
def execPrfPreset (s : State) : Host.Outcome State Fault Refusal := done fpPrf s (s.prfCommand true)

/-! ### The RTC (R266) -/

def fpSched : Footprint :=
  { regs := [Blk.range .sched, (0x30000, 0x34000)] ++ fpEvents, parts := [.rtc, .scheds, .points, .tally] }

/-- SCHED_RTC_STAGE: a write to SCHED_RTC0 stages the low part, with SCHED unlocked. -/
def execSchedRtcStage (v : Word) (s : State) : Host.Outcome State Fault Refusal :=
  let st := s.gate .sched true
  done { regs := [Blk.range .sched], parts := [.rtc] } s
    ((if st = Status.OK then { s with rtc := { s.rtc with staged := some v } } else s).result .sched 2 st)

/-- SCHED_RTC_COMMIT: a write to SCHED_RTC1; the count takes the value at the next second edge. Bits 17:14 are ignored (R52,
Table 12-33). With nothing staged, the low part is the present one. -/
def execSchedRtcCommit (v : Word) (s : State) : Host.Outcome State Fault Refusal :=
  let st := s.gate .sched true
  let lo := match s.rtc.staged with | some w => w.toNat | none => s.rtc.sec.toNat % 2 ^ 18
  done { regs := [Blk.range .sched], parts := [.rtc] } s
    ((if st = Status.OK then
        { s with rtc := { s.rtc with staged := none, pend := some (BitVec.ofNat 32 (lo + 2 ^ 18 * (v.toNat % 2 ^ 14))) } }
      else s).result .sched 3 st)

/-! ### Schedules (R267 to R269) -/

def State.sched (s : State) (k : Nat) : SchedSt := (assocGet s.scheds k).getD SchedSt.init

def State.setSched (s : State) (k : Nat) (f : SchedSt → SchedSt) : State :=
  { s with scheds := assocPut s.scheds k (f (s.sched k)) }

/-- The day programs of a schedule, Monday first (Tables 12-42, 12-43). -/
def State.dayPrograms (s : State) (k : Nat) : List (List Transition) :=
  (List.range 7).map (fun d => (List.range 8).map (fun i =>
    let a := 0x30040 + 0x100 * k + 0x10 * d + 2 * i
    { valid := s.rdB ⟨a, 17, 17⟩, minute := s.rd ⟨a, 10, 0⟩, value := BitVec.ofNat 18 (s.rd ⟨a + 1, 17, 0⟩) }))

/-- The exception entries of a schedule (Tables 12-44, 12-45). -/
def State.exceptions (s : State) (k : Nat) : List SchedExc :=
  (List.range 32).map (fun x =>
    let a := 0x300C0 + 0x100 * k + 2 * x
    { en := s.rdB ⟨a, 17, 17⟩, yearly := s.rdB ⟨a, 16, 16⟩, month := s.rd ⟨a, 15, 12⟩, day := s.rd ⟨a, 11, 7⟩,
      sub := s.rd ⟨a, 6, 4⟩, year := s.rd ⟨a + 1, 7, 0⟩ })

/-- The override of a schedule at a second edge, with the scheduled value (R268). The release time runs from the first edge
without occupancy. -/
def State.schedOverride (s : State) (k : Nat) (sv : Word) : Bool × Nat :=
  let x := s.sched k
  if !s.rdB (Reg.SCH_CFG_OVREN k) || !s.rtc.tvalid || sv.toNat != s.rd (Reg.SCH_VFROM k) then (false, 0)
  else
    let (v, q) := s.readPoint (s.rd (Reg.SCH_OVRPT k))
    if q.usable && Nat.ble (s.rd (Reg.SCH_OTHR k)) v.toNat then (true, 0)
    else
      let n := x.since + 1
      if x.ovr && Nat.ble n (60 * s.rd (Reg.SCH_OREL k)) then (true, n) else (false, 0)

/-- An enabled schedule at a second edge (R267 to R269). -/
def State.schedEval (s : State) (k : Nat) : State :=
  let progs := s.dayPrograms k
  let exc := s.exceptions k
  let dflt := BitVec.ofNat 18 (s.rd (Reg.SCH_DEFAULT k))
  let sec := s.rtc.sec.toNat
  let sv := if s.rtc.tvalid then scheduledValue progs exc dflt sec else dflt
  let (ovr, since) := s.schedOverride k sv
  let out := if ovr then BitVec.ofNat 18 (s.rd (Reg.SCH_VTO k)) else sv
  let (wd, ex) := dayProgram exc (dateOf (sec / 86400))
  let s := ((((s.wrB (Reg.SCH_STAT_OVR k) ovr).wrB (Reg.SCH_STAT_EXC k) ex.isSome).wr (Reg.SCH_STAT_EXCIDX k)
    (ex.getD 0)).wr (Reg.SCH_STAT_WDAY k) wd)
  let x := s.sched k
  let up := decide ((s.power.doms[22]).st = .on)
  if up && (x.fresh || x.lastVal != some out) then
    let s := s.setSched k (fun x => { x with ovr := ovr, since := since, lastVal := some out, fresh := false })
    (s.wr (Reg.SCH_VAL k) out.toNat).srcTrig .sched (.sched k) (s.rd (Reg.SCH_CFG_OUTPT k)) (.write out)
  else s.setSched k (fun x => { x with ovr := ovr, since := since })

/-- The output of every enabled schedule is to be written at the next edge (R269). -/
def State.schedsFresh (s : State) : State :=
  (List.range 64).foldl (fun s k =>
    if s.rdB (Reg.SCH_CFG_EN k) then s.setSched k (fun x => { x with fresh := true }) else s) s

/-- The RTC counts: without VDD_AON, and on XIN synthesis while XIN is lost, it stands still (R79, R97). -/
def State.rtcRuns (s : State) : Bool := s.power.aon && (!s.rdB Reg.CLK_STAT_RTCSUB || s.clock.xin)

/-- RTC_SECOND: the count takes a committed value, or the next second; then the enabled schedules are evaluated in
ascending order (R266, R269). -/
def execRtcSecond (s : State) : Host.Outcome State Fault Refusal :=
  let jump := s.rtc.pend.isSome
  let s1 := { s with rtc := match s.rtc.pend with
    | some c => { s.rtc with sec := c, tvalid := true, pend := none }
    | none => { s.rtc with sec := s.rtc.sec + 1, tvalid := s.rtc.tvalid && s.rtc.sec != BitVec.allOnes 32 } }
  doneHeld fpSched s
    (if !s.rtcRuns then s
     else if !s1.works .sched then s1
     else
       let s2 := if jump then s1.schedsFresh else s1
       (List.range 64).foldl (fun s k => if s.rdB (Reg.SCH_CFG_EN k) then s.schedEval k else s) s2)

/-- SCHED_OVRCLR: the override of the selected schedule ends (R268). -/
def execSchedOvrclr (s : State) : Host.Outcome State Fault Refusal :=
  let k := s.rd Reg.SCHED_SSEL
  let st := s.gate .sched true
  done fpSched s
    ((if st = Status.OK then (s.setSched k (fun x => { x with ovr := false, since := 0 })).wrB (Reg.SCH_STAT_OVR k) false
      else s).result .sched 1 st)

end Sys2Proof.Machine
end

