-- ==== Sys2Proof/Machine/Lifecycle.lean ====
section
/-! DEFINITION. Engine states and power domains (R48, R82 to R87): what an engine does as it leaves and enters service, what
a domain loses, and the commands of PWR. -/

namespace Sys2Proof.Machine
open Sys2Proof

/-! ### Engines (Tables 2-8, 2-9) -/

/-- The engine that writes a point of a source; none for a point that the host writes. -/
def PSrc.engine : PSrc → Option Engine
  | .afe _ => some .conv
  | .stand _ _ => some .stat
  | .loop l => some (.ctl (if l < 256 then 0 else 1))
  | .prf _ => some .prf
  | .sched _ => some .sched
  | .fan _ _ | .valve _ => some .act
  | .gpio _ => some .gpio
  | .thm _ => some .thm
  | .modbus p _ _ | .bacnet p _ => some (.bus (Fin.ofNat 2 p))
  | .host => none

/-- The points that an engine sources go HELD as it leaves IN_SERVICE (R42). -/
def State.holdEngine (s : State) (e : Engine) : State := s.holdPoints (fun p => decide (p.engine = some e))

/-- The statistics engine gives up its passes: their frames are DROPPED at the next FT of their heads (R200); tracks restart with
new IDs (Table 6-7). -/
def State.statStop (s : State) : State :=
  let ps := (s.stat.running.toList ++ s.stat.waiting).map (fun p => { p with lapsed := true })
  let s := { s with stat := { s.stat with running := none, waiting := ps } }
  (List.range 4).foldl (fun s h => s.setOcc h (fun o => { o with tracks := [] })) s

/-- What an engine gives up as it goes DOWN with its domain, beyond its state (Table 4-2, Table 6-7). -/
def State.engineStop (s : State) (e : Engine) : State :=
  match e with
  | .head h => s.headLost h.val
  | .stat => s.statStop
  | .ctx => s.ctxStop
  | .cmp => s.cmpDown
  | .conv => s.afeStop
  | .act => (s.actuatorsSafe s.now).shutWatch
  | .bus p => s.stopPort p
  | .pe _ | .shut | .ctl _ | .prf | .trc | .sched | .gpio | .point | .fab | .tick | .thm | .pwr | .clk | .age
  | .boot | .tally | .flw | .psp | .hsp | .svc | .fuse => s

/-- An engine returns to IN_SERVICE with its configuration, in whatever state the device is (Table 2-9), and starts as its
chapter says (R82, R245, R290, R326). -/
def State.engineUp (s : State) (e : Engine) : State :=
  let s := s.setEng e stInService
  match e with
  | .head h =>
    if s.headPixels h.val = 0 then s
    else s.setHead h.val (fun x => { x with neg := some .pending, attempt := 0, reneg := false })
  | .conv => s.afeStart
  | .ctl c => s.clusterInit c.val
  | .bus p => s.startPort p (s.portTables p)
  | .ctx => s.ctxLink
  | .gpio => s.gpioEnter
  | .pe _ | .shut | .stat | .prf | .trc | .sched | .act | .point | .fab | .tick | .thm | .pwr | .clk
  | .age | .boot | .tally | .flw | .psp | .hsp | .svc | .fuse | .cmp => s

/-- An engine in service enters DRAIN, and its points go HELD. Actuator channels take their safe state at once, which releases a
shutter's flag (rows 1 and 2 of Table 14-2, R313); captures of a cluster's slots end (Table 12-5), and so do calibrations of the
converters (Table 13-5). -/
def State.enterDrain (s : State) (e : Engine) : State :=
  if !s.works e then s
  else
    let s := match e with | .ctl c => s.clusterLeave c.val | _ => s
    let s := (s.setEng e stDrain).holdEngine e
    match e with
    | .act => (s.actuatorsSafe s.now).shutWatch
    | .conv => (s.calLeave 0).calLeave 1
    | _ => s

/-! ### Outstanding fabric requests (R381, R382) -/

/-- The power domain of a block's engine (Table 4-2). -/
def Blk.domain : Blk → Nat
  | .sys | .pwr | .thm => 0
  | .clk => 4
  | .tally => 2
  | .boot | .svc | .fuse => 1
  | .flw | .psp | .hsp => 3
  | .head h => 5 + h.val
  | .ctx => 9
  | .pe h => 10 + h.val
  | .shut | .point | .fab | .age | .prf | .trc | .sched => 22
  | .stand | .occ => 23
  | .cmp => 24
  | .ctl c => 25 + c.val
  | .afe | .adc => 27
  | .fan | .vlv | .dac => 28
  | .gpio | .bus _ => 29

/-- A part replies to a request. The reply to a requester that is DOWN or LOADING is discarded, and counted at the sender
(Table 18-3). -/
def State.fabReply (s : State) (q : FabReq) : State :=
  let st := s.blk q.requester
  if st = stDown ∨ st = stLoading then (s.bump Reg.FAB_RDISC).wr Reg.FAB_PART_RDPART q.part.domain else s

/-- The outstanding requests that `hit` names get their one answer, a reply, which frees their tags (R381). -/
def State.fabAnswer (s : State) (hit : FabReq → Bool) : State :=
  let s := (s.fab.out.filter hit).foldl State.fabReply s
  { s with fab := { s.fab with out := s.fab.out.filter (fun q => !hit q) } }

/-- A domain goes OFF with accepted requests unfinished: each tag receives DOWN, which FAB_DOWNREP counts (Table 18-3; DEDUCED,
notes/assumptions/119). -/
def State.fabOff (s : State) (d : Nat) : State :=
  let hit := fun (q : FabReq) => q.part.domain == d
  let s := (s.fab.out.filter hit).foldl (fun s _ => (s.bump Reg.FAB_DOWNREP).wr Reg.FAB_PART_DNPART d) s
  { s with fab := { s.fab with out := s.fab.out.filter (fun q => !hit q) } }

/-- Every request in flight of an engine has completed (R48, Table 18-3). -/
def State.drained (s : State) (e : Engine) : Bool :=
  match e with
  | .pe _ => s.bursts.running.isNone
  | .stat => s.stat.running.isNone
  | .ctx => s.ctx.sending.isNone
  | .shut => s.shut.toList.all (fun x => x.recal.isNone && x.final.isNone)
  | .head h => !(s.bursts.waiting ++ s.bursts.running.toList).any (fun b => b.head == h.val)
  | .conv => s.afe.seqs.toList.all (fun x => x.conv.isNone)
  | .cmp => s.cmp.running.isNone
  | _ => true

/-! ### Power domains (Table 4-2) -/

/-- The engines of a domain that PWR commands switch. -/
def domEngines (d : Nat) : List Engine :=
  match d with
  | 5 => [.head 0] | 6 => [.head 1] | 7 => [.head 2] | 8 => [.head 3]
  | 9 => [.ctx]
  | 10 => [.pe 0] | 11 => [.pe 1] | 12 => [.pe 2] | 13 => [.pe 3]
  | 23 => [.stat] | 24 => [.cmp]
  | 25 => [.ctl 0] | 26 => [.ctl 1]
  | 27 => [.conv] | 28 => [.act]
  | 29 => [.bus 0, .bus 1, .gpio]
  | _ => []

/-- The pixel-store slices. -/
def slices : List Nat := (List.range 8).map (· + 14)

/-- The domains that a domain requires, in the order of Table 4-2. -/
def domRequires (d : Nat) : List Nat :=
  if d = 1 ∨ d = 4 then [0]
  else if d = 2 then [1]
  else if d = 3 then [1, 4]
  else if 5 ≤ d ∧ d ≤ 13 then [4] ++ slices ++ [22]
  else if 14 ≤ d ∧ d ≤ 21 then [4, 22]
  else if d = 22 then [1, 4]
  else if d = 23 then slices ++ [22]
  else if d = 24 then [22]
  else if 25 ≤ d ∧ d ≤ 29 then [4, 22]
  else []

/-- RET stands in a domain's States column; D10 to D13 take it by themselves alone (Table 4-2, R84). -/
def domRets (d : Nat) : Bool := (Nat.ble 5 d && Nat.ble d 9) || (Nat.ble 14 d && Nat.ble d 21) || d == 23 || d == 24

/-- Domains of fused-off engines (R86). -/
def State.domFused (s : State) (d : Nat) : Bool :=
  match s.variant with
  | .slz4860 => false
  | .slz4840 => memNat d [7, 8, 12, 13, 26]
  | .slz4820 => memNat d [6, 7, 8, 11, 12, 13, 26]

/-- A domain that is not OFF, or is on its way to ON or RET. -/
def State.domHeld (s : State) (d : Nat) : Bool :=
  !decide ((s.dom d).st = .off) || (match (s.dom d).pend with | some .on | some .ret => true | _ => false)

/-- The first domain that requires `d` and is not OFF or leaves OFF; for the odd port of a bond, its even port (R84, R131). -/
def State.domBlocker (s : State) (d : Nat) : Option Nat :=
  let bond := (d == 6 && s.rdB (Reg.HEAD_LINKCFG_BOND 0) && s.domOn 5) || (d == 8 && s.rdB (Reg.HEAD_LINKCFG_BOND 2) && s.domOn 7)
  if bond then some (d - 1)
  else ((List.range 30).filter (fun e => memNat d (domRequires e) && s.domHeld e)).head?

/-- The engines that a section of the image brings into service (Table 6-5). -/
def sectionEngines (type unit : Nat) : List Engine :=
  match type with
  | 0x01 => [.tick, .pwr, .clk, .thm, .fab, .age]
  | 0x02 => [.point]
  | 0x03 => [.tally]
  | 0x04 => [.conv]
  | 0x05 => [.act]
  | 0x06 => [.gpio]
  | 0x07 => [.ctl (Fin.ofNat 2 unit)]
  | 0x08 => [.prf]
  | 0x09 => [.trc]
  | 0x0A => [.sched]
  | 0x0B => [.bus (Fin.ofNat 2 unit)]
  | 0x10 => [.head (Fin.ofNat 4 unit)]
  | 0x11 => [.head (Fin.ofNat 4 unit)]
  | 0x12 => [.head (Fin.ofNat 4 (unit / 4))]
  | 0x13 => [.shut]
  | 0x14 | 0x15 => [.stat]
  | 0x16 => [.ctx]
  | 0x17 => [.cmp]
  | _ => []

/-- The engine's configuration has been loaded: a section in force is its own. Pixel engines need none but a head's profile;
engines without a section need none. -/
def State.engineLoaded (s : State) (e : Engine) : Bool :=
  match e with
  | .boot | .flw | .psp | .hsp | .svc | .fuse => true
  | .pe _ => s.boot.secFrom.any (fun x => x.1 == 0x10)
  | _ => s.boot.secFrom.any (fun x => (sectionEngines x.1 x.2.1).any (fun y => decide (y = e)))

/-- The engine is under a partial reload (R125). -/
def State.reloading (s : State) (e : Engine) : Bool :=
  match s.boot.reload with
  | some (t, u, _) => (sectionEngines t u).any (fun x => decide (x = e))
  | none => false

/-- A domain's transition starts. -/
def State.domStart (s : State) (d : Nat) (st : DomState) : State := s.setDom d { s.dom d with pend := some st }

/-- Key of LAST and BLOCKER of a domain (Table 4-9). -/
def domKey (d : Nat) : Nat := 0x40000 + d

def State.domAnswer (s : State) (d st blocker : Nat) : State :=
  ((s.wr ⟨domKey d, 8, 4⟩ st).wr ⟨domKey d, 13, 9⟩ blocker).result .pwr 0x001 st

/-- The judgement that every command of PWR_DCTL meets (R84); `ret` says that it is RET. A domain of an engine under reload
is BUSY (R129). -/
def State.domJudge (s : State) (d : Nat) (ret : Bool) : Nat :=
  let g := s.gate .pwr true
  if g ≠ Status.OK then g
  else if d < 5 ∨ d = 22 ∨ 30 ≤ d ∨ s.domFused d ∨ (ret ∧ !domRets d) then Status.BAD_ARG
  else if (s.dom d).pend.isSome || (domEngines d).any s.reloading then Status.BUSY
  else Status.OK

/-- The domains to be switched ON with `d`, in the order of Table 4-2: those it requires first, and the odd port of a bond
with its even one (R84, R131). One whose own transition runs follows when that has ended (`execDomainTransitionDone`). -/
def State.domNeeds (s : State) (d : Nat) : List Nat :=
  let odd := if d = 5 ∧ s.rdB (Reg.HEAD_LINKCFG_BOND 0) then [6] else if d = 7 ∧ s.rdB (Reg.HEAD_LINKCFG_BOND 2) then [8] else []
  ((domRequires d ++ [d] ++ odd).filter (fun e => !s.domOn e && (s.dom e).pend.isNone && !s.domFused e))

def fpDomain : Footprint :=
  { regs := [(0, 0x10000), (0x10000, 0x50000)]
    parts := [.power, .points, .heads, .bursts, .shut, .cruise, .stat, .ctx, .loops, .prfs, .traces, .scheds, .afe, .act,
              .gpio, .bus, .cmp, .landing, .tally, .psp, .balls, .therm, .boot, .fab, .freeCtr] }

/-- DOMAIN_ON: the required domains first, then the named one (R84). -/
def execDomainOn (s : State) : Host.Outcome State Fault Refusal :=
  let d := s.rd Reg.PWR_DSEL
  let st := s.domJudge d false
  done fpDomain s
    (if st = Status.OK then ((s.domNeeds d).foldl (fun s e => s.domStart e .on) s).domAnswer d st 0
     else s.domAnswer d st 0)

/-- An OFF or RET command: the domain's engines drain, then the domain goes down (R84). DESIGN CHOICE: RET takes the engines out of
service as OFF does, through DRAIN to DOWN, since Table 2-9 says only "power-down" and R84 speaks of OFF alone; and OFF or RET
of a domain whose engine drains or loads, of which R84 says nothing, is ILLEGAL_STATE (notes/assumptions/103). -/
def State.domLeave (s : State) (d : Nat) (goal : DomState) : State :=
  let st := s.domJudge d (decide (goal = .ret))
  if st ≠ Status.OK then s.domAnswer d st 0
  else
    match s.domBlocker d with
    | some b => s.domAnswer d Status.REFUSED b
    | none =>
      if (domEngines d).any (fun e => s.eng e == stDrain || s.eng e == stLoading) then s.domAnswer d Status.ILLEGAL_STATE 0
      else if (s.dom d).st = goal ∨ ((s.dom d).st = .off ∧ goal = .ret) then
        (if (s.dom d).st = goal then s else (s.domNeeds d).foldl (fun s e => s.domStart e (if e = d then .ret else .on)) s).domAnswer d
          Status.OK 0
      else (((domEngines d).foldl (fun s e => s.enterDrain e) s).domStart d goal).domAnswer d Status.OK 0

/-- DOMAIN_RET (R84). -/
def execDomainRet (s : State) : Host.Outcome State Fault Refusal :=
  done fpDomain s (s.domLeave (s.rd Reg.PWR_DSEL) .ret)

/-- DOMAIN_OFF (R84). -/
def execDomainOff (s : State) : Host.Outcome State Fault Refusal :=
  done fpDomain s (s.domLeave (s.rd Reg.PWR_DSEL) .off)

/-- Resident pixels, rings and landing are lost with a slice (R84, Table 4-2). -/
def State.storeLost (s : State) : State :=
  let s := { s with landing := { cells := [] }, bursts := { s.bursts with scratch := [] } }
  let s := { s with stat := { s.stat with heads := s.stat.heads.map (fun o => { o with labels := [] }) } }
  (List.range 4).foldl (fun s h =>
    let s := s.setHead h (fun x => { x with
      px := [], ring := [], ringNext := 0, winCap := none, good := none, lastBurst := none, lastPass := none })
    (List.range 4).foldl (fun s i => s.wrB (Reg.HEAD_SETGAIN_CAL h i) false) s) s

/-- What a domain loses at OFF, beyond configuration (Table 4-2). -/
def State.domLost (s : State) (d : Nat) : State :=
  if 5 ≤ d ∧ d ≤ 8 then
    let h := d - 5
    (s.setHead h (fun x => { x with hrst := none, sent := [] })).wrKey (Reg.HEAD_LINK_RATE h).key 0
  else if d = 9 then s.wrB Reg.CLK_STAT_CTXLK false
  else if 14 ≤ d ∧ d ≤ 21 then s.storeLost
  else if d = 27 then s.dacsSafe
  else if d = 29 then { s with gpio := GpioBank.init }
  else if d = 23 then
    { s with stat := { s.stat with heads := s.stat.heads.map (fun o =>
      { OccHead.init with seedNext := o.seedNext, clearNext := o.clearNext, labels := o.labels }) } }
  else if d = 25 ∨ d = 26 then
    { s with loops := s.loops.map (fun p => if p.1 / 256 = d - 25 then (p.1, LoopSt.init) else p) }
  else s

/-- A domain that waits to go ON or RET requires `d` (R84). -/
def State.domWanted (s : State) (d : Nat) : Bool :=
  (List.range 30).any (fun e => memNat d (domRequires e) &&
    (match (s.dom e).pend with | some .on => true | some .ret => decide ((s.dom e).st = .off) | _ => false))

/-- Engines that start again after RET too: a sensor port, whose head is out of service from RET until its next negotiation
(R136), and the transmitter, whose link starts (R216). -/
def Engine.startsAnew : Engine → Bool
  | .head _ | .ctx => true
  | _ => false

/-- DOMAIN_TRANSITION_DONE: a transition completes; a domain goes ON or RET only while those it requires are ON, and OFF only
after its engines have drained and those that require it are OFF; one that another waits for is switched ON again. From RET the
engines resume with all that they held, from OFF they start anew (R82 to R85). -/
def execDomainTransitionDone (d : Fin 30) (s : State) : Host.Outcome State Fault Refusal :=
  done fpDomain s
    (match (s.dom d.val).pend with
     | none => s
     | some .on =>
       if (domRequires d.val).all s.domOn then
         let kept := decide ((s.dom d.val).st = .ret)
         let s := s.setDom d.val { st := .on, pend := none }
         let s := if d.val = 9 then s.wrB Reg.CLK_STAT_CTXLK true else s
         let s := if (d.val = 25 ∨ d.val = 26) ∧ !kept then s.clusterClear (d.val - 25) else s
         { (domEngines d.val).foldl (fun s e =>
             if s.eng e = stDown ∧ s.engineLoaded e then (if kept && !e.startsAnew then s.setEng e stInService else s.engineUp e) else s) s with
           power := s.power }
       else s
     | some st =>
       if (domEngines d.val).any (fun e => s.eng e == stDrain) then s
       else if st = .ret ∧ !(domRequires d.val).all s.domOn then s
       else if st = .off ∧ (List.range 30).any (fun e => memNat d.val (domRequires e) && !decide ((s.dom e).st = .off)) then s
       else
         let s := s.setDom d.val { st := st, pend := none }
         let s := if st = .off then { (s.domLost d.val).fabOff d.val with power := s.power }
           else if d.val = 9 then s.wrB Reg.CLK_STAT_CTXLK false else s
         if s.domWanted d.val then s.domStart d.val .on else s)

/-- The transition of the engine's domain that waits for it to drain. -/
def State.engineGoal (s : State) (e : Engine) : Option DomState :=
  (List.range 30).findSome? (fun d => if (domEngines d).any (fun x => decide (x = e)) then (s.dom d).pend else none)

/-- DRAIN_COMPLETE: the last request in flight of a draining engine completes (R48). An engine that drains for OFF stops with
its domain, and for RET keeps what it holds (R82); one that drains for a reload is stopped, and its section is written (R125,
Table 6-7). Every request that the engine accepted has its reply by then (R382). -/
def execDrainComplete (e : Engine) (s : State) : Host.Outcome State Fault Refusal :=
  done fpDomain s
    (if s.eng e = stDrain ∧ s.drained e then
      let goal := s.engineGoal e
      let s := s.fabAnswer (fun q => decide (q.part.engine = e))
      match goal with
      | some .ret =>
        (match e with | .head h => s.headLost h.val | _ => s).setEng e stDown
      | some _ => (s.engineStop e).setEng e stDown
      | none =>
        let loads := s.reloading e
        let s := match e with
          | .head h => s.setHead h.val (fun x => { x with dropUntil := true })
          | .trc => s
          | _ => s.engineStop e
        if loads then (s.wr Reg.BOOT_RLCTL_RLSTAGE 4).setEng e stLoading else s.setEng e stDown
    else s)

end Sys2Proof.Machine
end

