-- ==== Sys2Proof/Machine/Thermal.lean ====
section
/-! DEFINITION. Clocks (R92 to R97) and the thermal supervisor: die sensors, throttle level, band (R98 to R106), and the
first and last steps of the trip sequence (R107 to R110). -/

namespace Sys2Proof.Machine
open Sys2Proof

/-! ### Trip causes (R107) -/

/-- The code of a trip cause. -/
def TripCause.code : TripCause → Nat
  | .thermal => 1 | .xtalLoss => 2 | .pllUnlock => 3 | .tsFail => 4

/-- The causes in the order of their codes, each once. -/
def causeInsert (c : TripCause) : List TripCause → List TripCause
  | [] => [c]
  | d :: ds => if c = d then d :: ds else if c.code < d.code then c :: d :: ds else d :: causeInsert c ds

/-- A cause arises: before a trip it waits for TRIP; during the sequence the first one that is not the cause itself is
recorded as secondary (R107). -/
def State.raise (s : State) (c : TripCause) : State :=
  if s.therm.tripped then
    if !s.therm.shutdown && s.rd Reg.THM_TRIP_CAUSE2 == 0 && s.rd Reg.THM_TRIP_CAUSE != c.code then
      s.wr Reg.THM_TRIP_CAUSE2 c.code
    else s
  else { s with therm := { s.therm with causes := causeInsert c s.therm.causes } }

/-! ### The burst clock (R35, R91, R105) -/

/-- The burst clock follows the level and the ageing ceiling: at once where no burst runs, else as it ends (R91). -/
def State.burstClock (s : State) : State :=
  let k := burstMult (s.rd Reg.THM_STAT_LEVEL) (s.rd Reg.CLK_FB_CEILK)
  let s := { s with clock := { s.clock with pendFbk := if k = s.rd Reg.CLK_FB_FBK then none else some k } }
  if s.bursts.running.isNone then s.fbkTake else s

/-! ### Clocks (R92 to R97) -/

def fpClock : Footprint :=
  { regs := [Blk.range .clk, Blk.range .thm, Blk.range .fab, (0x3000, 0x6000), (0x9800, 0x9C00)] ++ fpEvents
    parts := [.clock, .therm, .bursts, .heads, .stat, .ctx, .points, .tally, .freeCtr] }

/-- XTAL_CHECK: XIN cycles counted over 1.0 ms of IOSC, once D0 has left reset; no cycle at all says that XIN does not
oscillate (R92). -/
def execXtalCheck (count : Nat) (s : State) : Host.Outcome State Fault Refusal :=
  doneHeld fpClock s
    (if s.rdB Reg.CLK_STAT_XTALOK || !s.d0Up then s
     else
       let s := { s with clock := { s.clock with xin := count != 0 } }
       if Nat.ble 24250 count && Nat.ble count 25750 then s.wrB Reg.CLK_STAT_XTALOK true else s)

/-- IOSC_TRIM: IOSC cycles counted over 25,000,000 XIN cycles; ERR in units of 0.02%, rounded to one of its two neighbours
(R93 does not say which), TRIM corrected (R93, notes/assumptions/1). -/
def execIoscTrim (count : Nat) (s : State) : Host.Outcome State Fault Refusal :=
  doneHeld fpClock s
    (if s.rdB Reg.CLK_STAT_XTALOK && !s.rdB Reg.CLK_STAT_XHOLD then
      let d : Int := (count : Int) - 25000000
      let (up, s) := if d % 5000 = 0 then (false, s) else s.freeB
      let e := ofSigned 8 (clampInt (-128) 127 (d / 5000 + if up then 1 else 0))
      (s.wr Reg.CLK_IOSC_ERR e).wr Reg.CLK_IOSC_TRIM (Config.trimAfter (s.rd Reg.CLK_IOSC_TRIM) e).toNat
    else s)

/-- XIN_LOSS: holdover on IOSC; with HOLDMAX 0 the trip is due at once (R94). XIN that is lost again after its return, before the
references have switched back, counts as a new loss. CLK_LOSS counts in the AON keep, while RESET_N is low too (R61). -/
def execXinLoss (s : State) : Host.Outcome State Fault Refusal :=
  doneHeld fpClock s
    (if s.clock.xin then
      let s := ({ s with clock := { s.clock with xin := false } }).bump Reg.CLK_LOSS_XLOSS
      if s.d0Up && s.rdB Reg.CLK_STAT_XTALOK then
        let s := s.wrB Reg.CLK_STAT_XHOLD true
        if s.rd Reg.CLK_HOLD = 0 then s.raise .xtalLoss else s
      else s
    else s)

/-- HOLDOVER_EXPIRY: XIN has been away for HOLDMAX seconds (R94). -/
def execHoldoverExpiry (s : State) : Host.Outcome State Fault Refusal :=
  doneHeld fpClock s (if s.d0Up && s.rdB Reg.CLK_STAT_XHOLD && !s.clock.xin then s.raise .xtalLoss else s)

/-- XIN_RETURN: XIN passes 100 windows, and the references switch back at the next ST edge; after a trip with cause XTAL_LOSS
holdover ends at once and a warm restart follows (R95). DESIGN CHOICE: after a trip with another cause, of which R95 says
nothing, the references switch back as before a trip (notes/assumptions/102). -/
def execXinReturn (s : State) : Host.Outcome State Fault Refusal :=
  doneHeld fpClock s
    (if s.clock.xin then s
     else
       let s := { s with clock := { s.clock with xin := true } }
       if s.d0Up && s.therm.tripped && s.rd Reg.THM_TRIP_CAUSE == TripCause.xtalLoss.code then s.wrB Reg.CLK_STAT_XHOLD false
       else s)

/-- PLLM_UNLOCK: PLLM loses lock while XIN is present (R96). -/
def execPllmUnlock (s : State) : Host.Outcome State Fault Refusal :=
  done fpClock s
    (if s.rdB Reg.CLK_STAT_PLLMLK && s.clock.xin then
      (s.wrB Reg.CLK_STAT_PLLMLK false).raise .pllUnlock
    else s)

/-- PLLB_UNLOCK: PLLB loses lock: the running burst stops and its frame is DROPPED (R96, R380). -/
def execPllbUnlock (s : State) : Host.Outcome State Fault Refusal :=
  done fpClock s
    (if s.rdB Reg.CLK_STAT_PLLBLK then
      ((s.wrB Reg.CLK_STAT_PLLBLK false).bump Reg.CLK_LOSS_BLOSS).burstAbort.fbkTake
    else s)

/-- PLLB_RELOCK_DONE: PLLB locks again, within 20 µs (R91). -/
def execPllbRelockDone (s : State) : Host.Outcome State Fault Refusal :=
  done fpClock s (if s.domOn 4 then s.wrB Reg.CLK_STAT_PLLBLK true else s)

/-- The RTC runs on XIN synthesis; each time RTCSUB becomes set it is logged (R97). -/
def State.rtcSub (s : State) : State :=
  if s.rdB Reg.CLK_STAT_RTCSUB then s else (s.wrB Reg.CLK_STAT_RTCSUB true).logEvent 0x06 []

/-- RTC_SOURCE_SELECT: one second after D0 has left reset, whether the RTC crystal oscillates (R97). -/
def execRtcSourceSelect (ok : Bool) (s : State) : Host.Outcome State Fault Refusal :=
  doneHeld fpClock s
    (if s.clock.rtcJudged || !s.d0Up then s
     else
       let s := { s with clock := { s.clock with rtcJudged := true } }
       if ok then (s.wrB Reg.CLK_STAT_RTCOK true).wrB Reg.CLK_STAT_RTCSUB false
       else (s.wrB Reg.CLK_STAT_RTCOK false).rtcSub)

/-- RTC_CRYSTAL_STOP: the RTC switches to XIN synthesis, no count lost (R97). -/
def execRtcCrystalStop (s : State) : Host.Outcome State Fault Refusal :=
  doneHeld fpClock s (if s.rdB Reg.CLK_STAT_RTCOK then (s.wrB Reg.CLK_STAT_RTCOK false).rtcSub else s)

/-! ### Sensors (R98 to R103) -/

/-- A code of a sensor as a number of 1/16 °C. -/
def sensorTemp (c : BitVec 13) : Int := c.toInt

def State.sensor (s : State) (i : Nat) : Sensor := (s.therm.sensors[i]?).getD Sensor.init

def State.tsFailed (s : State) (i : Nat) : Bool := s.rdB (Reg.THM_TS_FAILED i)

def State.tsTemp (s : State) (i : Nat) : Int := s.rdS (Reg.THM_TS_TEMP i)

/-- Sensors that are not failed. -/
def State.validSensors (s : State) : List Nat := (List.range 16).filter (fun i => !s.tsFailed i)

/-- The grid of Table 5-1: neighbours in the same row or column. -/
def neighbours (i : Nat) : List Nat :=
  (List.range 16).filter (fun j =>
    (i / 4 == j / 4 && (i % 4 == j % 4 + 1 || j % 4 == i % 4 + 1)) ||
    (i % 4 == j % 4 && (i / 4 == j / 4 + 1 || j / 4 == i / 4 + 1)))

/-- The first two conditions of R99 at a sample. -/
def badSample (x : Sensor) (c : BitVec 13) : Bool :=
  decide (sensorTemp c < -880) || decide (2400 < sensorTemp c) ||
  (match x.prev with | some p => decide (320 < (sensorTemp c - sensorTemp p).natAbs) | none => false)

/-- 300 s and 10 s in units of the supervisor's time, 62.5 µs. -/
abbrev sec300 : Nat := 4800000
abbrev sec10 : Nat := 160000

/-- The mean of the valid sensors has spanned more than 3 °C (48/16) over the samples kept (R99). -/
def meanSpan (ms : List (Nat × Int × Nat)) : Bool :=
  ms.any (fun a => ms.any (fun b => decide (48 * (a.2.2 * b.2.2 : Nat) < a.2.1 * b.2.2 - b.2.1 * a.2.2)))

/-- One sensor at a sample: its record, and whether it meets a condition of R99. -/
def State.sensorStep (s : State) (span : Bool) (i : Nat) (c : BitVec 13) : State :=
  let x := s.sensor i
  let now := s.therm.time
  let bad := badSample x c
  let same := decide (x.prev = some c)
  let stuck := same && Nat.ble (x.since + sec300) now && span
  let y : Sensor := { prev := some c, since := if same then x.since else now, lastBad := if bad then some now else x.lastBad }
  let s := { s with therm := { s.therm with sensors := vmod s.therm.sensors i (fun _ => y) } }
  if s.tsFailed i then s
  else if bad || stuck then (s.wrB (Reg.THM_TS_FAILED i) true).logEvent 0x0B [i, 1]
  else s.wrS (Reg.THM_TS_TEMP i) (sensorTemp c)

/-- The sum of the readings of the sensors that pass the first two conditions, and their number. -/
def State.meanNow (s : State) (r : Vector (BitVec 13) 16) : Int × Nat :=
  let l := s.validSensors.filterMap (fun i => match r[i]? with
    | some c => if badSample (s.sensor i) c then none else some (sensorTemp c)
    | none => none)
  (l.foldl (· + ·) 0, l.length)

/-- The highest of a list of readings, with its sensor; of equal ones the lowest-numbered. -/
def hottest : List (Nat × Int) → Option (Nat × Int)
  | [] => none
  | (i, t) :: l =>
    match hottest l with
    | some (j, u) => if t < u then some (j, u) else some (i, t)
    | none => some (i, t)

/-- Tj (R100): value, sensor, and whether it is a substitute. Without a valid sensor there is none. -/
def State.tj (s : State) : Option (Int × Nat × Bool) :=
  let read := s.validSensors.map (fun i => (i, s.tsTemp i))
  match hottest read with
  | none => none
  | some (_, top) =>
    let all := (List.range 16).map (fun i =>
      if s.tsFailed i then
        (i, (match hottest (read.filter (fun p => memNat p.1 (neighbours i))) with
             | some (_, t) => t + 160
             | none => top + 160))
      else (i, s.tsTemp i))
    match hottest all with
    | some (i, t) => some (t, i, s.tsFailed i)
    | none => none

/-- NORELAX and HOLDL3 follow the number of failed sensors (R101). -/
def State.failFlags (s : State) : State :=
  let n := 16 - s.validSensors.length
  (s.wrB Reg.THM_STAT_NORELAX (0 < n)).wrB Reg.THM_STAT_HOLDL3 (2 ≤ n)

/-! ### Level and band (R104 to R106) -/

/-- Entry temperature of a level, 1/16 °C (Table 5-2). -/
def levelEntry : Nat → Int
  | 1 => 1600 | 2 => 1728 | 3 => 1840 | _ => -10000

/-- The level that follows a Tj (R104). -/
def nextLevel (level : Nat) (tj : Int) (norelax holdl3 : Bool) : Nat :=
  if holdl3 then 3
  else
    let up := if 1840 ≤ tj then 3 else if 1728 ≤ tj then 2 else if 1600 ≤ tj then 1 else 0
    if level < up then up
    else if 0 < level ∧ tj < levelEntry level - 80 ∧ !norelax then level - 1
    else level

/-- Lower boundary of a band, 1/16 °C (Table 5-3). -/
def bandEntry : Nat → Int
  | 1 => -160 | 2 => 720 | 3 => 1360 | _ => -10000

/-- The highest band whose boundary, lowered by `d`, Tj has reached (strictly, where `strict`). -/
def bandOf (tj d : Int) (strict : Bool) : Nat :=
  ((List.range 4).filter (fun b =>
    if strict then decide (bandEntry b - d < tj) else decide (bandEntry b - d ≤ tj))).getLastD 0

/-- The band rises at a boundary and falls once Tj is 3 °C below it (R106). -/
def nextBand (band : Nat) (tj : Int) : Nat :=
  let up := bandOf tj 0 false
  if band ≤ up then up else min band (bandOf tj 48 true)

/-- °C to kelvin in TEMP format, to the nearest LSB of 1/512 K: 32 × code + 139,852.8 (R102, 02: point formats). -/
def kelvinOf (t : Int) : Word := BitVec.ofNat 18 (clampInt 0 262143 (32 * t + 139853)).toNat

/-- The chip-health points are written FRESH at every sample; a failed sensor's goes FAULT (R102). -/
def State.healthPoints (s : State) : State :=
  if !s.domOn 22 then s
  else
    let put := fun (s : State) (en : Bool) (k pt : Nat) (t : PTrig) => if en then s.srcTrig .thm (.thm k) pt t else s
    let s := put s (s.rdB Reg.THM_PTTJ_EN) 0 (s.rd Reg.THM_PTTJ_POINT) (.write (kelvinOf (s.rdS Reg.THM_TJ_TJ)))
    let s := put s (s.rdB Reg.THM_PTLVL_EN) 1 (s.rd Reg.THM_PTLVL_POINT) (.write (BitVec.ofNat 18 (s.rd Reg.THM_STAT_LEVEL)))
    (List.range 16).foldl (fun s i =>
      let v := kelvinOf (s.tsTemp i)
      put s (s.rdB Reg.THM_PTTS_EN) (2 + i) (s.rd Reg.THM_PTTS_TSBASE + i)
        (if s.tsFailed i then .fail (some v) else .write v)) s

/-- An ageing measurement may run: throttle level none, Tj from 10 to 85 °C (R383). -/
def State.ageCool (s : State) : Bool :=
  s.rd Reg.THM_STAT_LEVEL == 0 && (match s.tj with
    | some (t, _, _) => decide (160 ≤ t) && decide (t ≤ 1360)
    | none => false)

/-- A running measurement whose conditions have gone stops, and stays due (R383). -/
def State.ageWatch (s : State) : State :=
  if s.ageCool then s else { s with age := { s.age with running := false } }

def fpTherm : Footprint :=
  { regs := [Blk.range .thm, Blk.range .clk, (0x9800, 0x9C00)] ++ fpEvents
    parts := [.therm, .clock, .points, .tally, .age] }

/-- THERMAL_SAMPLE: all sixteen sensors, `dt` units of 62.5 µs after the last sample (R98 to R107, R110). DESIGN CHOICE: without
a valid sensor, for which R100 gives no Tj, THM_TJ keeps its last value, and level, band and the 10 s below 95 °C are judged
on it (notes/assumptions/102). -/
def execThermalSample (readings : Vector (BitVec 13) 16) (dt : Nat) (s : State) : Host.Outcome State Fault Refusal :=
  doneHeld fpTherm s
    (let now := s.therm.time + dt
     let m := s.meanNow readings
     let keep := s.therm.means.filter (fun e => Nat.ble now (e.1 + sec300))
     let means := if m.2 = 0 then keep else (now, m) :: keep
     let s := { s with therm := { s.therm with time := now, means := means } }
     let span := meanSpan means
     let s := (List.range 16).foldl (fun s i =>
       match readings[i]? with | some c => s.sensorStep span i c | none => s) s
     let s := s.failFlags
     let s := match s.tj with
       | some (t, i, sub) => ((s.wrS Reg.THM_TJ_TJ t).wr Reg.THM_TJ_SRC i).wrB Reg.THM_TJ_SUBST sub
       | none => s
     let tj := s.rdS Reg.THM_TJ_TJ
     let level := nextLevel (s.rd Reg.THM_STAT_LEVEL) tj (s.rdB Reg.THM_STAT_NORELAX) (s.rdB Reg.THM_STAT_HOLDL3)
     let s := (s.wr Reg.THM_STAT_LEVEL level).wrB Reg.THM_STAT_FAST (decide (1472 ≤ tj) && !s.therm.shutdown)
     let s := (s.wr Reg.THM_STAT_BAND (nextBand (s.rd Reg.THM_STAT_BAND) tj)).bandFollow
     let s := { s with therm := { s.therm with
       l3drop := level == 3
       coolSince := if !s.therm.shutdown || decide (1520 ≤ tj) then none else some (s.therm.coolSince.getD now) } }
     let s := if s.domOn 4 then s.burstClock else s
     let s := if s.validSensors.any (fun i => decide (2000 ≤ s.tsTemp i)) then s.raise .thermal else s
     let s : State := if Nat.blt s.validSensors.length 8 then s.raise .tsFail else s
     s.healthPoints.ageWatch)

/-- SENSOR_CLEAR: a CLEAR of sensor SENS (R102). -/
def execSensorClear (i : Fin 16) (s : State) : Host.Outcome State Fault Refusal :=
  let g := s.gate .thm true
  let x := s.sensor i.val
  let ok := match x.lastBad with | some t => Nat.ble (t + sec10) s.therm.time | none => true
  let st := if g ≠ Status.OK then g
    else if s.tsFailed i.val && !ok then Status.ILLEGAL_STATE
    else Status.OK
  let t := if st = Status.OK ∧ s.tsFailed i.val then
      (({ s with therm := { s.therm with
          sensors := vmod s.therm.sensors i.val (fun x => { x with since := s.therm.time }) } }).wrB
        (Reg.THM_TS_FAILED i.val) false).failFlags.logEvent 0x0B [i.val, 0]
    else s
  done fpTherm s ((if st = Status.OK then t.wr Reg.THM_CTL_SENS i.val else t).result .thm 0x012 st)

end Sys2Proof.Machine
end

