-- ==== Sys2Proof/Machine/Ageing.lean ====
section
/-! DEFINITION. The fabric's accounts (R373 to R382) and the ageing monitors (R383 to R386). -/

namespace Sys2Proof.Machine
open Sys2Proof

/-! ### Promotion, the C3 share, refused requests (R375, R376, R382) -/

def fpFab : Footprint := { regs := [Blk.range .fab], parts := [.fab] }

/-- Slice cycles a window leaves to C3: C3SHR percent of 4,096, half of that at L1 and above. -/
def State.c3Room (s : State) : Nat :=
  let r := 4096 * s.rd Reg.FAB_CFG / 100
  if s.rd Reg.THM_STAT_LEVEL = 0 then r else r / 2

/-- FABRIC_PROMOTION: a C3 (or C2) request that has waited 4,096 cycles moves up one class, on a slice port or on the
working-RAM port; `cycles` is what it takes. While a burst runs, waits on the slice ports do not count; a C3 request that
would exceed the share waits for the next window (R375, R376). -/
def execFabricPromotion (c3 slice : Bool) (cycles : Nat) (s : State) : Host.Outcome State Fault Refusal :=
  done fpFab s
    (if slice && s.bursts.running.isSome then s
     else if slice && c3 && Nat.blt s.c3Room (s.fab.c3Taken + cycles) then s
     else
       let s := s.bump (if c3 then Reg.FAB_PROMO3 else Reg.FAB_PROMO2)
       let w := Reg.FAB_MAXWC (if c3 then 3 else 2)
       let s := s.wr w (max 4096 (s.rd w))
       if slice && c3 then { s with fab := { s.fab with c3Taken := s.fab.c3Taken + cycles } } else s)

/-- C3_SHARE_WINDOW: a new window of 4,096 slice cycles (R376). -/
def execC3ShareWindow (s : State) : Host.Outcome State Fault Refusal :=
  done fpFab s { s with fab := { s.fab with c3Taken := 0 } }

/-- FABRIC_REQUEST_TO_DRAINED: a request of `r` with a tag reaches the port of part `b`; of the requests that `r` has outstanding
there, those with the tags `answered` have got their reply since its last one. A requester that is DOWN or LOADING makes no
request, and none makes one whose tag is outstanding or beyond 32 outstanding ones (R381). A part in DRAIN, DOWN or LOADING
answers DOWN and does not carry it out; any other accepts it (Table 18-3). -/
def execFabricRequestToDrained (r b : Blk) (tag : Fin 64) (answered : List (Fin 64)) (s : State) :
    Host.Outcome State Fault Refusal :=
  let mine := fun (q : FabReq) => q.requester == r && q.part == b
  let s' := s.fabAnswer (fun q => mine q && memNat q.tag (answered.map Fin.val))
  let held := s'.fab.out.filter mine
  let st := s'.blk b
  done fpFab s
    (if s'.blk r = stDown ∨ s'.blk r = stLoading ∨ held.any (fun q => q.tag == tag.val) ∨ 32 ≤ held.length then s'
     else if st = stDrain ∨ st = stDown ∨ st = stLoading then (s'.bump Reg.FAB_DOWNREP).wr Reg.FAB_PART_DNPART b.domain
     else { s' with fab := { s'.fab with out := s'.fab.out ++ [{ requester := r, part := b, tag := tag.val }] } })

/-! ### Measurements (R383) -/

def fpAge : Footprint :=
  { regs := [Blk.range .age, Blk.range .clk, Blk.range .fab, (0x3000, 0x6000)] ++ fpEvents
    parts := [.age, .clock, .therm, .tally, .freeCtr] }

/-- The RTC stands in the weekday and the hour of AGE_SCHED. Without RTC time the slot is 604,800 s after the last one, from the
first start on, and the command comes then (R383). -/
def State.ageSlot (s : State) : Bool :=
  !s.rtc.tvalid ||
    ((dateOf (s.rtc.sec.toNat / 86400)).wday == s.rd Reg.AGE_SCHED_WDAY &&
      s.rtc.sec.toNat % 86400 / 3600 == s.rd Reg.AGE_SCHED_HOUR)

/-- A due measurement starts where it may run. -/
def State.ageTry (s : State) : State :=
  if s.rdB Reg.AGE_STAT_DUE && s.ageCool then { s with age := { s.age with running := true } } else s

/-- AGE_MEASURE_DUE: the weekly slot (R383). -/
def execAgeMeasureDue (s : State) : Host.Outcome State Fault Refusal :=
  done fpAge s
    (if s.works .age && s.rdB Reg.AGE_CFG_EN && s.ageSlot && !s.rdB Reg.AGE_STAT_DUE then (s.wrB Reg.AGE_STAT_DUE true).ageTry else s)

/-- AGE_MEASURE: the command (R383, Table 18-18). -/
def execAgeMeasure (s : State) : Host.Outcome State Fault Refusal :=
  let g := s.gate .age true
  let st := if g ≠ Status.OK then g else if s.rdB Reg.AGE_STAT_DUE then Status.BUSY else Status.OK
  done fpAge s
    ((if st = Status.OK then (s.wrB Reg.AGE_STAT_DUE true).ageTry else s).answer .age 0x002 (some Reg.AGE_CMD_CSTAT) st)

/-- AGE_RETRY: every 10 min while a measurement is due and does not run. -/
def execAgeRetry (s : State) : Host.Outcome State Fault Refusal :=
  done fpAge s (if s.age.running then s else s.ageTry)

/-- AGE_MEASURE_DELAYED: 24 h without success. -/
def execAgeMeasureDelayed (s : State) : Host.Outcome State Fault Refusal :=
  done fpAge s
    (if s.rdB Reg.AGE_STAT_DUE && !s.age.running then
      (s.wr Reg.AGE_STAT_MSTAT Status.DELAYED).wrB Reg.AGE_STAT_DUE false
    else s)

/-! ### The slowdown and the ceiling (R384 to R386) -/

/-- The slowdown of monitor `i` in 0.01%, half up; none where its reference fuses are not programmed. -/
def State.slowdown (s : State) (c : Nat) (tj : Int) (i : Nat) : Option Int :=
  let ref := s.shadowField (384 + 18 * i) 18
  if ref = 0 then none
  else
    let dt := (F64.ofFrac tj 16).sub (.ofInt 25)
    let gain := (F64.ofInt 1).add (((F64.ofInt (s.shadowField 372 12)).mul (.ofFrac 1 1000000)).mul dt)
    let n := (F64.ofInt c).mul gain
    some ((F64.ofInt 10000).mul ((F64.ofInt 1).sub (n.div (.ofInt ref)))).round

/-- The largest of a list with its position; the first of equal ones. -/
def largest : Nat → List Int → Option (Int × Nat) → Int × Nat
  | _, [], best => best.getD (0, 0)
  | i, x :: xs, best =>
    largest (i + 1) xs (match best with
      | some (y, j) => if y < x then some (x, i) else some (y, j)
      | none => some (x, i))

/-- The ceiling proposed for a slowdown. -/
def State.proposeCeil (s : State) (smax : Int) : Nat :=
  let thr := s.rd Reg.AGE_CFG_THR
  let k := if smax < thr then 0 else 1 + (smax - thr).toNat / s.rd Reg.AGE_CFG_STEP
  max (20 - k) (s.rd Reg.AGE_SCHED_CEILMIN)

/-- CAP_BURST, CAP_EXPORT and CAP_FABRIC against the image in force at the new ceiling (R385). -/
def State.replan (s : State) : State :=
  let c := s.capCtx s.stinc s.ftdiv
  let b := s.burstTime c
  let r := if !b.le c.limit then 5 else if !(s.exportTime c).le c.limit then 6
    else if !s.fabricFits c (s.rd Reg.FAB_CFG) then 8 else 0
  let s := s.reportShares s.stinc s.ftdiv
  let s := (s.wr Reg.AGE_REPLAN_RSTAT (if r = 0 then Status.OK else Status.REFUSED)).wr Reg.AGE_REPLAN_REASON r
  let s := if r = 0 then s else s.wrB Reg.AGE_REPLAN_AGEFAIL true
  s.wr Reg.AGE_MARGIN (min (2 ^ 18 - 1) (((c.limit.sub b).div (Frac.ofNat 1000)).floor))

/-- A ceiling is applied: it falls at the end of the running burst, the event is written, the device re-plans. -/
def State.lowerCeil (s : State) (k : Nat) : State :=
  let old := s.rd Reg.CLK_FB_CEILK
  let s := (s.wr Reg.CLK_FB_CEILK k).burstClock
  (s.logEvent 0x0A [old, k]).replan

/-- The page of a measurement (Table 18-4). -/
def State.agePage (s : State) (counts : List Nat) (tj smax : Int) (worst prop : Nat) : State :=
  let (i, seq) := ringNext s.tallyView (fun i => 256 * (384 + i)) 16 256 0xA6
  let cs := (counts.map (leBytes 3)).flatten
  let bytes := [0xA6#8, BitVec.ofNat 8 Status.OK] ++ leBytes 2 seq ++ leBytes 4 s.rtc.sec.toNat ++
    leBytes 2 (ofSigned 16 tj) ++ cs ++ leBytes 2 (ofSigned 16 smax) ++
    [BitVec.ofNat 8 worst, BitVec.ofNat 8 (s.rd Reg.CLK_FB_CEILK), BitVec.ofNat 8 prop] ++ List.replicate 189 0#8
  s.pulsePage .aux (384 + i) (withCheck bytes)

/-- A measurement's results: counts, SMAX, the proposal, and a ceiling that two proposals in a row lower. -/
def State.ageResult (s : State) (counts : List Nat) (tj : Int) : State :=
  let k0 := s.freeCtr
  let s := { s with freeCtr := k0 + 1 }
  let sl := (List.range 16).map (fun i =>
    clampInt (-8192) 8191 ((s.slowdown (counts.getD i 0) tj i).getD (toSigned 14 ((Config.freeWord i k0).toNat % 2 ^ 14))))
  let m := largest 0 sl none
  let prop := s.proposeCeil m.1
  let cur := s.rd Reg.CLK_FB_CEILK
  let s := (List.range 16).foldl (fun s i => s.wr (Reg.AGE_CNT i) (counts.getD i 0)) s
  let s := (s.wrS Reg.AGE_SMAX_SMAX m.1).wr Reg.AGE_SMAX_WORST m.2
  let s := ((s.wr Reg.AGE_STAT_MSTAT Status.OK).wr Reg.AGE_STAT_PROPK prop).wrB Reg.AGE_STAT_DUE false
  let s := { s with age := { s.age with running := false } }
  let now := match s.age.pend with
    | some p => if prop < cur then some (max p prop) else none
    | none => none
  let s := match now with | some n => s.lowerCeil n | none => s
  let below := Nat.blt prop (s.rd Reg.CLK_FB_CEILK)
  let s := { s with age := { s.age with pend := if below then some prop else none } }
  (s.wrB Reg.AGE_STAT_PEND below).agePage counts tj m.1 m.2 prop

/-- AGE_MEASURE_DONE: sixteen counts over 2^20 XIN cycles. A measurement whose conditions have gone is due again
(R383). -/
def execAgeMeasureDone (counts : Vector Word 16) (s : State) : Host.Outcome State Fault Refusal :=
  done fpAge s
    (if !s.age.running then s
     else match s.ageCool, s.tj with
       | true, some (t, _, _) => s.ageResult (counts.toList.map BitVec.toNat) t
       | _, _ => { s with age := { s.age with running := false } })

end Sys2Proof.Machine
end

