-- ==== Sys2Proof/Machine/Reset.lean ====
section
/-! DEFINITION. Reset, power loss, straps and the trip sequence (R61 to R81, R107 to R110): what the device loses and what
D0 or the AON keep keeps. -/

namespace Sys2Proof.Machine
open Sys2Proof

/-! ### What is lost -/

/-- Registers that D0 keeps (R61, R81). -/
def inD0 (k : Nat) : Bool := d0Regs.any (fun r => Nat.ble r.1 k && Nat.blt k r.2)

/-- Registers of the AON keep, CLK_STAT apart, of which it keeps two bits (R61). -/
def inAonKeep (k : Nat) : Bool := k == 0x405 || k == 0x803 || k == 0x804

/-- The chips outside: a flash program or erase on its way leaves its bytes open (notes/assumptions/1). -/
def State.cutFlash (s : State) : State :=
  match s.flash.running with
  | some (.program c a bytes) => s.flashScramble c a bytes.length
  | some (.erase c a n) => s.flashScramble c a n
  | none => s

/-- The check of the entry that a pulse writes passes; host pages have none. -/
def Pulse.passes (p : Pulse) (m : List (Nat × Byte)) : Bool :=
  let at0 := 256 * p.page + (match p.bytes with | b :: _ => b.1 | [] => 0)
  match p.kind with
  | .shutdown => (ringEntry m at0 32 0x5D).isSome
  | .event => (ringEntry m at0 32 0xE1).isSome
  | .counter => (let w := leNat (viewBytes m at0 5); decide (w / 2 ^ 36 = cellCheck (w % 2 ^ 36)))
  | .record => (let h := viewBytes m (256 * p.page) 16; decide ((crc32 (h.take 12)).toNat = leNat (h.drop 12)))
  | .aux => (let b := viewBytes m (256 * p.page) 256; decide ((crc32 (b.take 252)).toNat = leNat (b.drop 252)))
  | .host => false

/-- The 8-byte words of its page that a pulse changes (R354). -/
def Pulse.words (p : Pulse) (m : List (Nat × Byte)) : List Nat :=
  (List.range 32).filter (fun w => p.bytes.any (fun b =>
    b.1 / 8 == w && decide (cellsGet tallyBlank m (256 * p.page + b.1) ≠ b.2)))

/-- A tally program pulse is cut short: the words that it was changing are in doubt, every other word stands (R62, R354). The
page counts as torn: bytes that would pass the entry's check are not among those that it can hold (R108, R358). -/
def State.cutPulse (s : State) : State :=
  match s.tally.running with
  | some p =>
    let k := s.freeCtr
    let offs := ((p.words s.tally.mem).map (fun w => (List.range 8).map (fun i => 8 * w + i))).flatten
    let m := pulseApply s.tally.mem { p with bytes := offs.map (fun o => (o, Config.freeByte k o)) }
    let m := match offs with
      | o :: _ => if p.passes m then cellsPut tallyBlank m (256 * p.page + o) (Config.freeByte k o ^^^ 1#8) else m
      | [] => m
    { s with tally := { s.tally with running := none, mem := m }, freeCtr := k + 1 }
  | none => s

/-- Batched counts that wait for their commit (R358). -/
def State.batched (s : State) : Bool := s.tally.batch.toList.any (fun n => n != 0)

/-- Every domain except D0 has lost its state: registers other than those `keep` names are at their reset values, and
every part outside D0 is as after reset; the stores of the chips outside, the fuses and the TAP stay. BLOST shows that
batched counts went with it (R358). -/
def State.lose (s : State) (keep : Nat → Bool) : State :=
  let s := s.cutFlash.cutPulse
  let lost := s.batched
  let t : State := { State.reset with
    pending := s.pending
    regs := { cells := s.regs.cells.filter (fun c => keep c.1), seenHsp := [], seenCon := [] }
    tick := s.tick, balls := { s.balls with sync := Vector.replicate 4 false, forced := [], resets := [] }
    power := { Power.init with aon := s.power.aon, railTrip := s.power.railTrip }
    clock := s.clock, therm := s.therm, rtc := { s.rtc with staged := none }
    flash := { FlashSt.init with chips := s.flash.chips.map (fun c => Chip.blank c.mem) }
    tally := { TallySt.init with mem := s.tally.mem }
    fuses := s.fuses, jtag := s.jtag, freeCtr := s.freeCtr }
  if lost then t.wrB Reg.TALLY_STAT_BLOST true else t

/-- D4 is off: neither PLL is locked, no burst clock change is pending, the transmitter's PLL is off (Table 4-13). -/
def State.clocksOff (s : State) : State :=
  ({ ((s.wrB Reg.CLK_STAT_PLLMLK false).wrB Reg.CLK_STAT_PLLBLK false).wrB Reg.CLK_STAT_CTXLK false with
    clock := { s.clock with pendFbk := none } })

/-- D0 keeps what it holds, the tick generator's committed change and the schedules included; every other domain is in reset
(R61, PGOOD low; step 7 of Table 5-4). Armed comparators stay armed (R306). -/
def State.loseAllButD0 (s : State) : State :=
  let t := (s.lose inD0).clocksOff
  -- of FAN_GSTAT only what the comparators show stays
  let t := (t.wr Reg.FAN_GSTAT_SFAIL 0).wr Reg.FAN_GSTAT_GOVR 0
  { t with
    scheds := s.scheds
    act := { ActSt.init with groups := s.act.groups.map (fun g => { late := false, armed := g.armed }) } }

/-- D0 too is in reset, all but the AON keep (R61, RESET_N low): RTCOK and RTCSUB stay. -/
def State.loseAllButKeep (s : State) : State :=
  let ok := s.rdB Reg.CLK_STAT_RTCOK
  let sub := s.rdB Reg.CLK_STAT_RTCSUB
  let t := ((s.lose inAonKeep).wrB Reg.CLK_STAT_RTCOK ok).wrB Reg.CLK_STAT_RTCSUB sub
  { t with
    tick := { Tick.init with running := false }
    balls := { Balls.init with resetN := s.balls.resetN, pgood := s.balls.pgood, nvwp := s.balls.nvwp }
    therm := Therm.init, clock := { s.clock with pendFbk := none, rtcJudged := false } }

/-- A reset may touch everything but the fuses. -/
def fpReset : Footprint :=
  { regs := [(0, 0x60000)]
    parts := [.points, .tick, .balls, .power, .clock, .therm, .boot, .heads, .bursts, .shut, .cruise, .stat, .ctx, .loops,
              .prfs, .traces, .scheds, .rtc, .afe, .act, .gpio, .bus, .flash, .psp, .hsp, .tally, .cmp, .wram, .landing,
              .fab, .age, .svc, .freeCtr] }

/-! ### Pins and rails (R61, R62, R79, R80) -/

/-- RESET_ASSERT: RESET_N falls (R62). -/
def execResetAssert (s : State) : Host.Outcome State Fault Refusal :=
  doneReset fpReset s
    (({ s with balls := { s.balls with resetN := false } }).loseAllButKeep)

/-- No trip runs and no cause waits: a reset ends the trip sequence and leaves shutdown (Table 5-4, R110). -/
def Therm.quiet (t : Therm) : Therm := { t with causes := [], tripped := false, shutdown := false, recorded := false }

/-- PGOOD_FALL: every domain except D0 is held in reset (R61). -/
def execPgoodFall (s : State) : Host.Outcome State Fault Refusal :=
  doneReset fpReset s
    (if s.balls.pgood then
      let s := { s with balls := { s.balls with pgood := false } }
      if s.balls.resetN then (let t := s.loseAllButD0; { t with therm := t.therm.quiet }) else s
    else s)

/-- The schedule engine is DOWN from a start until its section is applied, and no override is in force (R270). -/
def State.schedsDown (s : State) : State :=
  { (List.range 64).foldl (fun s k => s.wrB (Reg.SCH_STAT_OVR k) false) (s.setEng .sched stDown) with scheds := [] }

/-- The device starts as from reset release: the boot sequencer waits for the crystal (R111). A D0 that was in reset starts
its tick generator at frame 0 (R23). -/
def State.release (s : State) : State :=
  let s := s.schedsDown
  if s.tick.running then s else { s with tick := Tick.init }

/-- RESET_RELEASE: the later rising edge of RESET_N and PGOOD (R61). -/
def execResetRelease (s : State) : Host.Outcome State Fault Refusal :=
  doneReset fpReset s
    (if (s.balls.resetN && s.balls.pgood) || !s.power.aon then s
     else ({ s with balls := { s.balls with resetN := true, pgood := true } }).release)

/-- D0_LEAVES_RESET: RESET_N rises while PGOOD is low (R61). -/
def execD0LeavesReset (s : State) : Host.Outcome State Fault Refusal :=
  doneReset fpReset s
    (if s.balls.resetN || s.balls.pgood || !s.power.aon then s
     else ({ s with balls := { s.balls with resetN := true } }).release)

/-- POWER_ON_RESET: VDD_AON is below its threshold: everything in D0 is lost, the RTC restarts, the monitor flags clear
(R79). RESET_N and PGOOD count as low from here until they rise (DEDUCED, notes/assumptions/43). -/
def execPowerOnReset (s : State) : Host.Outcome State Fault Refusal :=
  doneReset fpReset s
    (let t := s.lose (fun _ => false)
     { t with
       tick := { Tick.init with running := false }
       balls := { Balls.init with resetN := false, pgood := false, nvwp := s.balls.nvwp }
       power := { Power.init with aon := false }
       therm := Therm.init, clock := Clock.init, rtc := Rtc.init })

/-- POWER_ON_RESET_RELEASE: VDD_AON is within range; IOSC runs at the trim of its fuses (R79, R92). -/
def execPowerOnResetRelease (s : State) : Host.Outcome State Fault Refusal :=
  doneReset fpReset s
    (if s.power.aon then s
     else ({ s with power := { s.power with aon := true } }).wr Reg.CLK_IOSC_TRIM (s.fuseField 352 8))

/-- The flag of a rail in PWR_MON: VDD_CORE, VDD_MEM, VDDIO18, VDDIO33, VDDA18, VDD_PHY (Table 4-12). -/
def railFlag (r : Fin 6) : Fld := ⟨0x405, r.val + 1, r.val + 1⟩

/-- RAIL_MONITOR_TRIP: while PGOOD is high, as a fall of PGOOD, with the rail's flag (R80). The monitors belong to the AON keep
and watch while RESET_N is low too (R61); a second rail below its threshold sets its own flag. -/
def execRailMonitorTrip (rail : Fin 6) (s : State) : Host.Outcome State Fault Refusal :=
  doneReset fpReset s
    (if !s.balls.pgood || !s.power.aon then s
     else
       let t := if s.power.railTrip || !s.balls.resetN then s else s.loseAllButD0
       ({ t with power := { t.power with railTrip := true }, therm := t.therm.quiet }).wrB (railFlag rail) true)

/-- RAIL_RECOVERY: every rail above its threshold for 1 ms and PGOOD high: the device starts as from reset release. -/
def execRailRecovery (s : State) : Host.Outcome State Fault Refusal :=
  doneReset fpReset s
    (if s.power.railTrip && s.balls.pgood then
      (let s := { s with power := { s.power with railTrip := false } }
       if s.balls.resetN then s.release else s)
     else s)

/-! ### Straps (R72 to R74) -/

/-- A strap read eight times: its value, and whether the samples disagree. `sel` takes the strap's two bits. -/
def strapValue (samples : List Nat) (fallback : Nat) : Nat × Bool :=
  match samples with
  | [] => (fallback, true)
  | x :: xs => if xs.all (fun y => y == x) then (x, false) else (fallback, true)

/-! ### The trip sequence (R108, R109) -/

/-- The highest valid reading with its sensor. Without a valid sensor the spec gives the record no TJMAX and no SENSOR: 0 and 0
(DESIGN CHOICE, notes/assumptions/102). -/
def State.topReading (s : State) : Nat × Nat :=
  match hottest (s.validSensors.map (fun i => (i, s.tsTemp i))) with
  | some (i, t) => (ofSigned 16 t, i)
  | none => (0, 0)

def fpTrip : Footprint :=
  { regs := [(0, 0x60000)]
    parts := [.therm, .act, .shut, .balls, .tally, .boot, .points, .heads, .cmp, .freeCtr] }

/-- TRIP: steps 1 to 3 of Table 5-4: the cause is recorded, tally pages not begun are abandoned, every actuator channel
takes its safe state, forced balls are released, a reload under way is abandoned (R129). -/
def execTrip (s : State) : Host.Outcome State Fault Refusal :=
  doneHeld fpTrip s
    (match s.therm.causes with
     | [] => s
     | c :: cs =>
       if s.therm.tripped then s
       else
         let s := (s.wr Reg.THM_TRIP_CAUSE c.code).wr Reg.THM_TRIP_CAUSE2 (match cs with | d :: _ => d.code | [] => 0)
         let s := (s.bump Reg.THM_TRIP_NTRIP).wr Reg.BOOT_RLCTL_RLSTAGE 0
         let s := { s with
           therm := { s.therm with causes := [], tripped := true, recorded := false, shutdown := false
                                   tripInfo := some (s.tick.frame, s.topReading), coolSince := none, judged := false }
           balls := { s.balls with forced := [], resets := [] }
           boot := { s.boot with reload := none, reloadData := [], reloadFail := none, clusterIn := [] }
           tally := { s.tally with waiting := [], events := [], openBuf := none }
           act := { s.act with tripped := true } }
         (s.actuatorsSafe s.now).shutWatch)

/-- The shutdown record without its check (Table 5-5). -/
def State.shutdownBody (s : State) (seq : Nat) : List Byte :=
  let info := s.therm.tripInfo.getD (0, 0, 0)
  let fails := ((List.range 16).filter s.tsFailed).foldl (fun a i => a + 2 ^ i) 0
  [0x5D#8, BitVec.ofNat 8 (s.rd Reg.THM_TRIP_CAUSE + 16 * s.rd Reg.THM_TRIP_CAUSE2)] ++ leBytes 2 seq ++
    leBytes 5 info.1.toNat ++ leBytes 2 info.2.1 ++
    [BitVec.ofNat 8 info.2.2, BitVec.ofNat 8 (s.rd Reg.THM_STAT_LEVEL + 4 * s.rd Reg.THM_STAT_BAND),
     BitVec.ofNat 8 (s.rd Reg.THM_AUTORESTART_NAUTO)] ++ leBytes 2 fails ++ leBytes 4 s.rtc.sec.toNat ++ List.replicate 8 0#8

/-- Newest valid record of the shutdown ring: the next SEQ (R109). -/
def State.shutdownSeq (s : State) : Nat := (ringNext s.tally.mem (fun i => 256 * i) 32 32 0x5D).2

/-- SHUTDOWN_RECORD: once no pulse runs, the record goes to page SEQ mod 32; a thermal trip is counted, and batched counts
follow where a pulse slot remains, which is a matter of timing (R358, Table 16-11, notes/assumptions/1). -/
def execShutdownRecord (s : State) : Host.Outcome State Fault Refusal :=
  done fpTrip s
    (if !s.therm.tripped || s.therm.recorded || s.tally.running.isSome || !s.domOn 2 then s
     else
       let q := s.shutdownSeq
       let s := { s with therm := { s.therm with recorded := true } }
       let s := s.pulse { kind := .shutdown, page := q % 32, bytes := atOffset 0 (withCheck (s.shutdownBody q)) }
       let s := if s.rd Reg.THM_TRIP_CAUSE = TripCause.thermal.code then s.countNow 3 1 else s
       let (slot, s) := s.freeB
       if slot then s.commitBatch else s)

/-- TRIP_DOMAINS_OFF: step 7, every domain except D0 goes OFF without draining: the device is in shutdown. -/
def execTripDomainsOff (s : State) : Host.Outcome State Fault Refusal :=
  doneReset fpReset s
    (if !s.therm.tripped || s.therm.shutdown || s.tally.running.isSome || (s.domOn 2 && !s.therm.recorded) then s
     else
       let t := s.loseAllButD0
       { t with therm := { t.therm with shutdown := true, pendBand := none, storeBand := t.rd Reg.THM_STAT_BAND } })

/-- A warm restart: the boot sequencer starts as from reset release; D0 keeps the frame number, the failed sensors and
NAUTO (R110). Counter 2 counts it once the counters have been scanned (R358, Table 16-11). -/
def State.warmRestart (s : State) : State :=
  ({ s.schedsDown with
    therm := { s.therm.quiet with coolSince := none }
    act := { s.act with tripped := false }
    boot := BootState.init }).countInc 2 1

/-- WARM_RESTART: 10 s below 95 °C, judged once; after XTAL_LOSS, XIN has returned (R95, R110). -/
def execWarmRestart (s : State) : Host.Outcome State Fault Refusal :=
  doneReset fpReset s
    (if !s.therm.shutdown then s
     else if s.rd Reg.THM_TRIP_CAUSE = TripCause.xtalLoss.code then
       (if s.clock.xin then s.warmRestart else s)
     else
       let cool := match s.therm.coolSince with | some t => Nat.ble (t + sec10) s.therm.time | none => false
       if !cool || s.therm.judged then s
       else
         let s := { s with therm := { s.therm with judged := true } }
         if s.rdB Reg.THM_AUTORESTART_EN && Nat.blt (s.rd Reg.THM_AUTORESTART_NAUTO) 3 then
           (s.wr Reg.THM_AUTORESTART_NAUTO (s.rd Reg.THM_AUTORESTART_NAUTO + 1)).warmRestart
         else s)

/-- NAUTO_WINDOW_END: 1 h in service without a trip (R110). -/
def execNautoWindowEnd (s : State) : Host.Outcome State Fault Refusal :=
  done { regs := [Blk.range .thm], parts := [] } s
    (if s.therm.tripped then s else s.wr Reg.THM_AUTORESTART_NAUTO 0)

end Sys2Proof.Machine
end

