-- ==== Sys2Proof/Machine/Registers.lean ====
section
/-! DEFINITION. Writes to registers (R10, R12, R52, R54, R55): the register an address names, which fields are open, the
values allowed, and the word that a write leaves. The image loader meets steps 1 and 3 of R52 only (R117). -/

namespace Sys2Proof.Machine
open Sys2Proof

/-! ### Addresses -/

/-- Registers within a block that the variant lacks and that behave as unmapped: those of loop slots (R7), and those of fused-off
heads in SHUT and OCC (chapters 9 and 10, registers). -/
def State.regAbsent (s : State) (b : Blk) (off : Nat) : Bool :=
  match b with
  | .ctl c => Nat.blt off 0x200 && !s.loopPresent (256 * c.val + off % 0x100)
  | .shut => (Nat.ble 0x40 off && Nat.blt off 0xC0 && !s.headPresent ((off - 0x40) / 0x20)) ||
      (Nat.ble 0x200 off && Nat.blt off 0x300 && !s.headPresent ((off - 0x200) / 0x40))
  | .occ => Nat.blt off 0x80 && !s.headPresent (off / 0x20)
  | _ => false

/-- The key of the register at an address of the host's space, through the windows of CTL (0x210), STAND (0x001) and
SCHED (0x010); none where no register is listed or the block is fused off (R6, R7, R52). -/
def State.regKey (s : State) (a : Nat) : Option (Blk × Nat) :=
  match Blk.ofAddr a with
  | none => none
  | some b =>
    let off := a % 0x400
    let key := match b with
      | .ctl c =>
        if 0x210 ≤ off ∧ off < 0x250 then 0x10000 + (256 * c.val + s.rd (Reg.CTL_SSEL c.val)) * 0x40 + (off - 0x210)
        else a
      | .stand => if 1 ≤ off ∧ off < 8 then 0x20000 + s.rd Reg.STAND_SSEL * 8 + (off - 1) else a
      | .sched => if 0x10 ≤ off ∧ off < 0x100 then 0x30000 + s.rd Reg.SCHED_SSEL * 0x100 + off else a
      | _ => a
    if s.blkPresent b && !s.regAbsent b off && (rowOf key).isSome then some (b, key) else none

/-! ### What a write changes -/

/-- Bits of `a` that `b` has not. -/
def clearBits (a b : Nat) : Nat := a - (a &&& b)

/-- The word that a write leaves: fields that the write sets, and W1C bits cleared; RO fields, reserved bits, RC fields and
WO fields (which read 0) as they are (R12, R52 step 1). -/
def mergeWord (fs : List FSpec) (old new : Nat) : Nat :=
  fs.foldl (fun w f => match f.acc with
    | .ro | .rc | .wo => w
    | .w1c => putBits w f.hi f.lo (clearBits (bitsOf old f.hi f.lo) (bitsOf new f.hi f.lo))
    | _ => putBits w f.hi f.lo (bitsOf new f.hi f.lo)) old

/-- Fields of a key as the present configuration makes them: the PSP select of a head is RO (Table 16-19), and so is CMPEN
on the largest variant (R306). -/
def State.fieldsOf (s : State) (key : Nat) : List FSpec :=
  match rowOf key with
  | none => []
  | some r => r.fields.map (fun f =>
      if f.acc = .psp then { f with acc := if s.headOwns (key - 0x1C00) then .ro else .rwl }
      else if 0x7F01 ≤ key ∧ key ≤ 0x7F03 ∧ f.hi = 17 ∧ s.variant = .slz4860 then { f with acc := .ro }
      else f)

/-- The access codes that step 2 of R52 judges. -/
def Acc.lockable : Acc → Bool
  | .rwl | .load | .tune | .tick | .sch | .trc | .svc | .set | .psp => true
  | .ro | .rw | .wo | .w1c | .rc => false

/-- The access codes whose written value step 3 judges. -/
def Acc.judged : Acc → Bool
  | .ro | .rc | .w1c => false
  | _ => true

/-- State of a loop slot (Table 11-7). -/
def State.slotState (s : State) (l : Nat) : Nat := s.rd (Reg.CTL_SSTAT_STATE (l / 256) (l % 256))

/-- May a lockable field of block `b` be changed by the host or the console in the present state (R54, R55, and the
chapters' narrower rules: R32, R240, R257, R264, R270, Table 18-26)? -/
def State.fieldOpen (s : State) (b : Blk) (key : Nat) (acc : Acc) : Bool :=
  match acc with
  | .rwl | .psp => s.unlocked b
  | .set => s.unlocked b
  | .load => false
  | .tune =>
    let l := (key - 0x10000) / 0x40
    s.slotState l == 1 || s.slotState l == 2
  | .tick => s.service && s.unlocked .sys
  | .sch => s.unlocked .sched && !s.rdB (Reg.SCH_CFG_EN ((key - 0x30000) / 0x100))
  | .trc =>
    let u := (key - 0x7000) / 0x10
    s.unlocked .trc && (s.rd (Reg.TRC_STAT_STATE u) == 0 || s.rd (Reg.TRC_STAT_STATE u) == 3)
  | .svc => s.service
  | .ro | .rw | .wo | .w1c | .rc => true

/-! ### Limits that span fields -/

/-- The pin codes that a slot names: inputs, excitation, bias (Tables 13-9, 13-10). -/
def State.afePins (s : State) (i : Nat) : List Nat :=
  [s.rd (Reg.AFE_SLOTCFG0_PPIN i), s.rd (Reg.AFE_SLOTCFG0_NPIN i), s.rd (Reg.AFE_SLOTCFG1_EXCP i),
   s.rd (Reg.AFE_SLOTCFG1_EXCN i), s.rd (Reg.AFE_SLOTCFG1_BIAS i)]

/-- The pins that a slot drives. -/
def State.afeDriven (s : State) (i : Nat) : List Nat :=
  [s.rd (Reg.AFE_SLOTCFG1_EXCP i), s.rd (Reg.AFE_SLOTCFG1_EXCN i), s.rd (Reg.AFE_SLOTCFG1_BIAS i)].filter (· < 14)

/-- The enabled slots. -/
def State.afeOn (s : State) : List Nat := (List.range 32).filter (fun i => s.rdB (Reg.AFE_SLOTCFG0_EN i))

/-- A slot's pins break R272. -/
def State.pinsClash (s : State) (i : Nat) : Bool :=
  let pp := s.rd (Reg.AFE_SLOTCFG0_PPIN i)
  let np := s.rd (Reg.AFE_SLOTCFG0_NPIN i)
  let ep := s.rd (Reg.AFE_SLOTCFG1_EXCP i)
  let en := s.rd (Reg.AFE_SLOTCFG1_EXCN i)
  let bi := s.rd (Reg.AFE_SLOTCFG1_BIAS i)
  Nat.ble 14 pp || pp == np || (ep == en && ep != 15) || (bi != 15 && (bi == ep || bi == en || bi == pp || bi == np))

/-- The pins of armed window comparators (R306). -/
def State.armedPins (s : State) : List Nat := s.act.groups.toList.filterMap (fun g => g.armed)

/-- The slots break R272 or R273, or drive an armed comparator's pin: judged over the enabled slots. -/
def State.afeClash (s : State) : Bool :=
  let on := s.afeOn
  let sq := fun (i : Nat) => s.rd (Reg.AFE_SLOTCFG0_SEQ i)
  on.any s.pinsClash ||
  on.any (fun i => on.any (fun j => sq i != sq j && (s.afeDriven i).any (fun p => memNat p (s.afePins j)))) ||
  (on.any (fun i => s.rdB (Reg.AFE_SLOTCFG0_REFSEL i)) &&
    on.any (fun i => memNat 12 (s.afePins i) || memNat 13 (s.afePins i))) ||
  on.any (fun i => (s.afeDriven i).any (fun p => memNat p s.armedPins))

/-- A slot's excitation or gain fields contradict one another (R275, R283, Table 13-2), or AGND stands where Table 13-1 does not
allow it. -/
def State.afeSlotBad (s : State) (i : Nat) : Bool :=
  let ty := s.rd (Reg.AFE_SLOTCFG1_EXTYPE i)
  let lo := s.rd (Reg.AFE_SLOTCFG2_GMIN i)
  let hi := s.rd (Reg.AFE_SLOTCFG2_GMAX i)
  let g := s.rd (Reg.AFE_SLOTCFG0_GAIN i)
  (s.rdB (Reg.AFE_SLOTCFG0_ALT i) && (ty == 0 || Nat.ble 14 (s.rd (Reg.AFE_SLOTCFG1_EXCP i)) ||
    Nat.ble 14 (s.rd (Reg.AFE_SLOTCFG1_EXCN i)))) ||
  s.rd (Reg.AFE_SLOTCFG1_EXCP i) == 14 || s.rd (Reg.AFE_SLOTCFG1_EXCN i) == 14 ||
  (ty == 2 && Nat.blt 1 (s.rd (Reg.AFE_SLOTCFG1_EXMAG i))) || Nat.blt hi lo ||
  (s.rdB (Reg.AFE_SLOTCFG0_AUTO i) && (Nat.blt g lo || Nat.blt hi g))

/-- A loop slot's limits or exponents are out of order (R229, R240), or its PHASE is not below 2^K (R224). -/
def State.slotBad (s : State) (l : Nat) : Bool :=
  let k := s.rd (Reg.CTL_MODE_K l)
  decide (s.rdS (Reg.CTL_OHI l) ≤ s.rdS (Reg.CTL_OLO l)) ||
  (!s.rdB (Reg.CTL_MODE_MODE l) && (Nat.blt 7 (s.rd (Reg.CTL_EXP_EB l)) || Nat.blt 7 (s.rd (Reg.CTL_EXP_EF l)))) ||
  Nat.ble (2 ^ k) (s.rd (Reg.CTL_PHASE l) + 2 ^ 18 * s.rd (Reg.CTL_MODE_PHASE l))

/-- Ones among the seven bits of PMASK. -/
def countOnes (m : Nat) : Nat := ((List.range 7).filter (fun i => m / 2 ^ i % 2 == 1)).length

/-- A stand's points pass the table's end (R201), its HLO and HHI are too close, or its head is absent (Tables 10-8,
10-9). -/
def State.standBad (s : State) (st : Nat) : Bool :=
  Nat.blt 4096 (s.rd (Reg.STAND_SCFG5 st) + countOnes (s.rd (Reg.STAND_SCFG0_PMASK st))) ||
  Nat.blt (s.rd (Reg.STAND_SCFG_HHI st)) (s.rd (Reg.STAND_SCFG_HLO st) + 16) ||
  !s.headPresent (s.rd (Reg.STAND_SCFG0_HEAD st))

/-- A fan channel's speeds, its attempt timeout or its current thresholds (Tables 14-11 and 14-13, R300): TSTART is above
TALIGN + 10 × TRAMP, and ILIM × RSH / 10 µV is at most 300 mV. -/
def State.fanBad (s : State) (c : Nat) : Bool :=
  let rsh := s.rd (Reg.FAN_RSH c)
  Nat.ble (s.rd (Reg.FAN_RPMMAX c)) (s.rd (Reg.FAN_RPMMIN c)) ||
  Nat.blt (s.rd (Reg.FAN_RPMMIN c)) (s.rd (Reg.FAN_RPMHAND c)) ||
  Nat.ble (s.rd (Reg.FAN_TSTART c)) (s.rd (Reg.FAN_STIME_TALIGN c) + 10 * s.rd (Reg.FAN_STIME_TRAMP c)) ||
  Nat.blt 3000000 (s.rd (Reg.FAN_ILIM c) * rsh) || Nat.blt 3000000 (s.rd (Reg.FAN_ISTART c) * rsh)

/-- Limits that a block's registers break together, as the state stands. `keys` are the loop slots, stands or AFE slots in
question; the other blocks are judged whole. -/
def State.blockBad (s : State) (b : Blk) (keys : List Nat) : Bool :=
  match b with
  | .head h =>
    let bond := s.rdB (Reg.HEAD_LINKCFG_BOND h.val)
    (bond && h.val % 2 == 1) || (s.rd (Reg.HEAD_LINKCFG_MAXLANES h.val) == 4 && !bond)
  | .pe h =>
    Nat.ble (s.rd (Reg.PE_RGATE_RGATE h.val)) (s.rd (Reg.PE_RGATE_RDEAD h.val)) ||
    Nat.ble (s.rd (Reg.PE_TFMHI h.val)) (s.rd (Reg.PE_TFMLO h.val))
  | .shut => (List.range 4).any (fun h => Nat.blt (s.rd (Reg.SHUT_TMAX h)) (s.rd (Reg.SHUT_TMIN h)))
  | .stand => keys.any s.standBad
  | .occ => (List.range 4).any (fun h => Nat.blt (s.rd (Reg.OCC_SKINHI h)) (s.rd (Reg.OCC_SKINLO h)))
  | .ctl _ => keys.any s.slotBad
  | .prf => (List.range 64).any (fun g =>
      Nat.ble (2 ^ s.rd (Reg.PRF_CFG_K g)) (s.rd (Reg.PRF_PHASE g) + 2 ^ 18 * s.rd (Reg.PRF_CFG_PHASE g)))
  | .trc => (List.range 4).any (fun u => !s.loopPresent (s.rd (Reg.TRC_CFG_SLOT u)))
  | .afe => keys.any s.afeSlotBad || s.afeClash
  | .fan => (List.range 3).any s.fanBad
  | .vlv => (List.range 8).any (fun v =>
      Nat.ble (s.rd (Reg.VLV_IPK v)) (s.rd (Reg.VLV_IHOLD v)) || !s.headPresent (s.rd (Reg.VLV_CFG_SHHEAD v)) ||
      -- TOFFMIN is below half the chopping period of 10,000 / CHOPF µs (Table 14-24)
      Nat.ble 5000 (s.rd (Reg.VLV_CHOP_TOFFMIN v) * s.rd (Reg.VLV_CHOP_CHOPF v)))
  | .bus p =>
    (s.rd (Reg.BUS_CFG_PROTO p.val) == 2 && s.rd (Reg.BUS_CFG_BAUD p.val) == 4) ||
    Nat.blt (s.rd (Reg.BUS_MSTP_MAXMASTER p.val)) (s.rd (Reg.BUS_MSTP_MAC p.val)) ||
    -- the Device instance is 0 to 4,194,302 (Table 15-10)
    Nat.ble 4194303 (s.rd (Reg.BUS_DEVINST0 p.val) + 2 ^ 18 * s.rd (Reg.BUS_DEVINST1 p.val))
  | .thm => s.rdB Reg.THM_PTTS_EN && Nat.blt 4080 (s.rd Reg.THM_PTTS_TSBASE)
  | _ => false

/-- The slot or stand that a key belongs to. -/
def keyUnit (key : Nat) : List Nat :=
  if key < 0x10000 then (if 0x7400 ≤ key ∧ key < 0x7600 then [(key - 0x7400) / 0x10] else [])
  else if key < 0x20000 then [(key - 0x10000) / 0x40]
  else if key < 0x30000 then [(key - 0x20000) / 8]
  else []

/-- CTL_SSEL names a slot that the variant lacks (chapter 11). -/
def State.ssel (s : State) (b : Blk) (key v : Nat) : Bool :=
  match b with
  | .ctl c => key == 0x6600 + 0x400 * c.val && !s.loopPresent (256 * c.val + v % 256)
  | _ => false

/-! ### The judgement (R52) -/

/-- Step 3 of R52: a value out of range, a reserved encoding, or a limit that spans fields. -/
def State.badArg (s : State) (b : Blk) (key v : Nat) : Bool :=
  let fs := s.fieldsOf key
  fs.any (fun f => f.acc.judged && !f.rng.ok (bitsOf v f.hi f.lo)) || s.ssel b key v ||
  (s.wrKey key (mergeWord fs (s.rdKey key) v)).blockBad b (keyUnit key)

/-- The outcome of a host or console write of `v` to the register `key` of block `b`, in the order of R52. -/
def State.judge (s : State) (b : Blk) (key v : Nat) : Nat :=
  let g := s.gate b false
  if g ≠ Status.OK then g
  else if (s.fieldsOf key).any (fun f => f.acc.lockable && bitsOf v f.hi f.lo != bitsOf (s.rdKey key) f.hi f.lo &&
      !s.fieldOpen b key f.acc) then Status.ILLEGAL_STATE
  else if s.badArg b key v then Status.BAD_ARG
  else Status.OK

/-- Step 4 of R52: the write is applied. -/
def State.applyWord (s : State) (key v : Nat) : State :=
  s.wrKey key (mergeWord (s.fieldsOf key) (s.rdKey key) v)

/-- A write to a register without behaviour of its own: judged, applied where it passes, recorded in RESULT (R52). -/
def State.plainWrite (s : State) (b : Blk) (key off v : Nat) : State :=
  let st := s.judge b key v
  (if st = Status.OK then s.applyWord key v else s).result b off st

end Sys2Proof.Machine
end

