-- ==== Sys2Proof/Machine/Service.lean ====
section
/-! DEFINITION. SERVICE state (R49, R50, R64), the lock of a block (R54), forced balls (R65, R76) and the tests that the
console places a channel under (R290, R388). -/

namespace Sys2Proof.Machine
open Sys2Proof

/-! ### Entering and leaving SERVICE -/

/-- What SERVICE touches: engine states of every block, the actuators, points that follow R42, generators and loops. -/
def fpService : Footprint :=
  { regs := [(0, 0x20000)]
    parts := [.points, .balls, .act, .afe, .loops, .prfs, .traces, .shut, .heads, .bursts, .tally, .cmp, .power, .therm,
              .gpio, .stat, .freeCtr] }

/-- The device enters SERVICE: every engine in service takes the state SERVICE, actuators hold the command they have, and a start
of a recalibration that has been decided is not made (R49, R50, R64). -/
def State.serviceOn (s : State) : State :=
  let s := s.wrB Reg.SVC_STAT_SVC true
  let s := Engine.all.foldl (fun s e => if s.eng e = stInService then s.setEng e stService else s) s
  let s := (List.range 3).foldl (fun s c =>
    s.setFan c (fun f => { f with svcHold := f.cmd, test := none })) s
  let s := (List.range 8).foldl (fun s v =>
    let x := s.valve v
    let (usable, ny, val) := s.cmdPoint (s.rd (Reg.VLV_CFG_CMDPT v))
    let use := (takeCmd usable ny (s.rdB (Reg.VLV_CFG_LOSSACT v)) val x.lastCmd).1
    s.setValve v (fun y => { y with
      svcCmd := if s.pointHeld (s.rd (Reg.VLV_CFG_CMDPT v)) then none else use, test := none })) s
  let s := (List.range 6).foldl (fun s d =>
    s.setDac d (fun x => { x with svcVal := s.rd (Reg.DAC_VAL d), test := none })) s
  s.loopsService.shutWatch

/-- Every test of a channel ends, and every forced ball is released (R64, R65, R290). -/
def State.testsEnd (s : State) : State :=
  let s := (List.range 3).foldl (fun s c => s.setFan c (fun f => { f with test := none })) s
  let s := (List.range 8).foldl (fun s v =>
    let was := (s.valve v).test.isSome
    let s := s.setValve v (fun x => { x with test := none })
    -- a shutter channel has no command point to return to: its test is over (R313)
    if was && s.rdB (Reg.VLV_CFG_SHUT v) then s.shutRelease v s.now else s) s
  let s := (List.range 6).foldl (fun s d => s.setDac d (fun x => { x with test := none })) s
  let s := (s.testSeqEnd 0).testSeqEnd 1
  { s with balls := { s.balls with forced := [], resets := [] } }

/-- The device leaves SERVICE (Table 2-9): the engines return to IN_SERVICE, channels to their command points, generators
to rest at their outputs. -/
def State.serviceOff (s : State) : State :=
  let s := s.testsEnd
  let s := (s.wrB Reg.SVC_STAT_SVC false).wr Reg.SVC_MON 0
  let s := Engine.all.foldl (fun s e => if s.eng e = stService then s.setEng e stInService else s) s
  s.prfsLeave

/-- The judgement of ENTER (R49, R51). -/
def State.enterJudge (s : State) : Nat :=
  let g := s.gate .svc true
  if g ≠ Status.OK then g
  else if s.service || Engine.all.any (fun e => s.eng e == stDrain || s.eng e == stLoading) then Status.ILLEGAL_STATE
  else Status.OK

/-- The judgement of LEAVE (R51, R115). -/
def State.leaveJudge (s : State) : Nat :=
  let g := s.gate .svc true
  let stage := s.rd Reg.BOOT_STAT_STAGE
  if g ≠ Status.OK then g
  else if !s.service || stage == 8 || stage == 9 then Status.ILLEGAL_STATE
  else Status.OK

/-- A SERVICE command with its outcome in SVC_CMD.CSTAT and RESULT (Table 18-24). -/
def State.serviceCmd (s : State) (enter : Bool) : State :=
  let st := if enter then s.enterJudge else s.leaveJudge
  let t := if st ≠ Status.OK then s else if enter then s.serviceOn else s.serviceOff
  t.answer .svc 0x000 (some Reg.SVC_CMD_CSTAT) st

/-- SERVICE_ENTER (R49). -/
def execServiceEnter (s : State) : Host.Outcome State Fault Refusal := done fpService s (s.serviceCmd true)

/-- SERVICE_LEAVE (R49). -/
def execServiceLeave (s : State) : Host.Outcome State Fault Refusal := done fpService s (s.serviceCmd false)

/-! ### The lock of a block (R54) -/

def fpLock (b : Blk) : Footprint := { regs := [(b.base + 0x3FC, b.base + 0x3FF)], parts := [] }

/-- UNLOCK takes a word: the key opens the block, any other value locks it. In DRAIN and LOADING it is rejected. -/
def State.unlockWrite (s : State) (b : Blk) (v : Nat) : State :=
  if !s.blkPresent b then s
  else
    let st := if s.therm.tripped then Status.DOWN
      else if s.blk b = stDrain ∨ s.blk b = stLoading then Status.ILLEGAL_STATE else Status.OK
    (if st = Status.OK then s.wrB b.unlockedFld (v == 0x2D1E5) else s).result b 0x3FD st

/-- BLOCK_UNLOCK: 0x2_D1E5 is written to a block's UNLOCK register. -/
def execBlockUnlock (b : Blk) (s : State) : Host.Outcome State Fault Refusal :=
  done (fpLock b) s (s.unlockWrite b 0x2D1E5)

/-- BLOCK_LOCK: another value is written. -/
def execBlockLock (b : Blk) (v : Word) (s : State) : Host.Outcome State Fault Refusal :=
  done (fpLock b) s (s.unlockWrite b v.toNat)

/-- UNLOCK_TIMEOUT: 10 s without a write to a mapped register of the block. -/
def execUnlockTimeout (b : Blk) (s : State) : Host.Outcome State Fault Refusal :=
  done (fpLock b) s (if s.unlocked b then s.wrB b.unlockedFld false else s)

/-! ### Forced balls (R65, R76, Table 3-4) -/

/-- Number of a ball: 16 × row + column − 1, rows A to U in order. -/
def ballNo (row col : Nat) : Nat := 16 * row + col - 1

/-- The balls that Table 3-4 lets the console force, as (row, columns). -/
def forceable : List (Nat × List Nat) :=
  [(2, [1, 2, 5, 6, 9, 10, 13, 14]), (3, [8, 9, 10, 13, 15, 16]), (4, [13, 15, 16]), (5, [13, 15, 16]), (6, [15, 16]),
   (7, [13, 15, 16]), (8, [13]), (9, [13, 14, 15]), (10, [13, 14, 15, 16]), (11, [13, 15, 16])] ++
  [(12, [6, 8, 9, 11, 12, 15, 16]), (13, [4, 13, 14, 15, 16]), (14, [13, 14, 15, 16]),
   (15, [1, 2, 3, 4, 5, 6, 7, 8, 9, 10, 11, 12, 13, 14, 15, 16])]

def ballForceable (b : Nat) : Bool := forceable.any (fun r => r.1 == b / 16 && memNat (b % 16 + 1) r.2)

/-- Balls of head ports that the variant lacks: SYNCn and HRST_Nn at columns 4n + 1 and 4n + 2 of row C (R76). -/
def State.ballFused (s : State) (b : Nat) : Bool :=
  (b / 16 == 2 && Nat.blt (b % 16 % 4) 2 && !s.headPresent (b % 16 / 4)) ||
  (Nat.blt (b / 16) 2 && Nat.blt (b % 16 % 4) 3 && !s.headPresent (b % 16 / 4))

/-- The ball of VGv: VG0 to VG3 at U13 to U16, VG4 to VG7 at T13 to T16. -/
def vgBall (v : Nat) : Nat := if v < 4 then ballNo 15 (13 + v) else ballNo 14 (9 + v)

def insertForce (p : Nat × BallForce) : List (Nat × BallForce) → List (Nat × BallForce)
  | [] => [p]
  | q :: qs => if p.1 < q.1 then p :: q :: qs else if p.1 = q.1 then p :: qs else q :: insertForce p qs

def fpBalls : Footprint := { regs := [Blk.range .svc], parts := [.balls] }

/-- FORCED_VG_TIMEOUT: a VG ball forced high for TPKMAX of its channel is released, and the force command reports
TIMEOUT. -/
def execForcedVgTimeout (v : Fin 8) (s : State) : Host.Outcome State Fault Refusal :=
  done fpBalls s
    (if s.balls.forced.any (fun x => x.1 == vgBall v.val && decide (x.2 = .high)) then
      (s.resetBalls [vgBall v.val]).wr Reg.SVC_STAT_LAST Status.TIMEOUT
    else s)

end Sys2Proof.Machine
end

