-- ==== Sys2Proof/Machine/P256.lean ====
section
/-! DEFINITION. ECDSA verification on P-256, as R118 asks it of SIG. The curve and the scheme are those of FIPS 186-4 and
SEC 1 (notes/assumptions/81). -/

namespace Sys2Proof.Machine
open Sys2Proof

namespace P256
/-- The field prime, the group order, the coefficient b and the base point. -/
def p : Nat := 0xFFFFFFFF00000001000000000000000000000000FFFFFFFFFFFFFFFFFFFFFFFF
def n : Nat := 0xFFFFFFFF00000000FFFFFFFFFFFFFFFFBCE6FAADA7179E84F3B9CAC2FC632551
def b : Nat := 0x5AC635D8AA3A93E7B3EBBD55769886BC651D06B0CC53B0F63BCE3C3E27D2604B
def gx : Nat := 0x6B17D1F2E12C4247F8BCE6E563A440F277037D812DEB33A0F4A13945D898C296
def gy : Nat := 0x4FE342E2FE1A7F9B8EE7EB4A7C0F9E162BCE33576B315ECECBB6406837BF51F5

/-- x^e mod m, over `bits` bits of e. -/
def powMod (m : Nat) : Nat → Nat → Nat → Nat
  | 0, _, _ => 1 % m
  | k + 1, x, e =>
    let r := powMod m k (x * x % m) (e / 2)
    if e % 2 = 1 then r * x % m else r

/-- The inverse modulo a prime. -/
def inv (m x : Nat) : Nat := powMod m 256 (x % m) (m - 2)

/-- Affine points; none is the point at infinity. -/
def add : Option (Nat × Nat) → Option (Nat × Nat) → Option (Nat × Nat)
  | none, q => q
  | q, none => q
  | some (x1, y1), some (x2, y2) =>
    if x1 = x2 ∧ (y1 + y2) % p = 0 then none
    else
      let l := if x1 = x2 then (3 * x1 * x1 + (p - 3)) * inv p (2 * y1) % p
        else (y2 + p - y1) * inv p (x2 + p - x1) % p
      let x3 := (l * l + 2 * p - x1 - x2) % p
      some (x3, (l * (x1 + p - x3) + p - y1) % p)

/-- k × q over `bits` bits of k. -/
def mul : Nat → Nat → Option (Nat × Nat) → Option (Nat × Nat)
  | 0, _, _ => none
  | bits + 1, k, q =>
    let r := mul bits (k / 2) (add q q)
    if k % 2 = 1 then add q r else r

/-- The point lies on the curve, with coordinates below the prime. -/
def onCurve (x y : Nat) : Bool :=
  Nat.blt x p && Nat.blt y p && (y * y) % p == (x * x % p * x + (p - 3) * x + b) % p

/-- Is (r, s) the signature, by the key (x, y), of a message with the digest `e`? -/
def verify (x y r s e : Nat) : Bool :=
  onCurve x y && Nat.blt 0 r && Nat.blt r n && Nat.blt 0 s && Nat.blt s n &&
  (let w := inv n s
   match add (mul 256 (e * w % n) (some (gx, gy))) (mul 256 (r * w % n) (some (x, y))) with
   | none => false
   | some (px, _) => px % n == r)
end P256

end Sys2Proof.Machine
end

