-- ==== Sys2Proof/Machine/Ticks.lean ====
section
/-! DEFINITION. The tick generator (R16 to R33): the ST and FT edges and what happens at them, LIVE, SYNC, and the tick
registers. -/

namespace Sys2Proof.Machine
open Sys2Proof

/-- What an edge may change: outputs commit, heads and actuators act, but no clock, fuse, flash or serial state does. -/
def fpEdge : Footprint :=
  { regs := [(0, 0x400), (0x800, 0x801), (0xC00, 0x1C00), (0x2006, 0x2007), (0x3000, 0x40000)]
    parts := [.points, .tick, .balls, .clock, .boot, .heads, .bursts, .shut, .stat, .ctx, .loops, .prfs, .traces, .act, .gpio,
              .tally, .cmp, .psp, .power, .therm, .freeCtr] }

/-! ### Edges -/

/-- Crystal cycles until the accumulator next carries: the least number, at least one, that reaches 2^40 (R16, R17). -/
def cyclesToCarry (phase stinc : Nat) : Nat := if stinc = 0 then 0 else (2 ^ 40 - phase + stinc - 1) / stinc

/-- The accumulator, the sample counter and the divider at the next ST edge (R17, R19 to R21). -/
def Tick.advance (t : Tick) (stinc n : Nat) : Tick :=
  let m := cyclesToCarry t.phase.toNat stinc
  let ft := Nat.ble n (t.ftCount + 1)
  let live := Nat.ble 64 (t.liveCount + 1)
  { t with
    phase := BitVec.ofNat 40 (t.phase.toNat + m * stinc)
    cycles := t.cycles + m
    sample := t.sample + 1
    ftCount := if ft then 0 else t.ftCount + 1
    ftDue := ft
    liveCount := if live then 0 else t.liveCount + 1
    liveDue := live }

/-- ST_EDGE: the counters advance, outputs of the tick before commit, trips and slot commands act, and valves, DACs and
GPIO outputs take their points (R17, R28, Table 1-2). An ST edge waits for the FT edge of the one before. -/
def execStEdge (s : State) : Host.Outcome State Fault Refusal :=
  doneHeld fpEdge s
    (if !s.tick.running || s.tick.ftDue then s
     else
       let s := { s with tick := s.tick.advance s.stinc s.ftdiv }
       let s := if s.clock.xin && s.rdB Reg.CLK_STAT_XHOLD then s.wrB Reg.CLK_STAT_XHOLD false else s
       let t := (((((s.loopsEdge).prfsCommit).valvesSample s.now).dacsLoad).gpiosLoad).shutWatch
       -- nothing that acts at the edge changes the tick generator
       { t with tick := s.tick })

/-- A committed change takes effect: new values, the sample counter and the divider restart, the residue stays (R32). -/
def State.tickChange (s : State) : State :=
  match s.tick.pend with
  | none => s
  | some (stinc, n) =>
    let s := ((s.wr Reg.SYS_STINC0 (stinc.toNat % 2 ^ 18)).wr Reg.SYS_STINC1 (stinc.toNat / 2 ^ 18)).wr Reg.SYS_FTDIV n.toNat
    let s := s.wrB Reg.SYS_TICKSTAT_FTPEND false
    let s := { s with tick := { s.tick with pend := none, staged := none, sample := 0, ftCount := 0 } }
    (s.reportUtil 0).reportUtil 1

/-- FT_EDGE: the frame number, a committed tick change, SYNC and the frame of each head in service (R21, R22, R32). -/
def execFtEdge (s : State) : Host.Outcome State Fault Refusal :=
  doneHeld fpEdge s
    (if !s.tick.running || !s.tick.ftDue then s
     else
       let s := State.tickChange { s with tick := { s.tick with frame := s.tick.frame + 1, ftDue := false } }
       { (List.range 4).foldl (fun s h => s.headFt h) s with tick := s.tick })

/-- SYNC_PULSE_END: SYNCn returns to its inactive level SYNCW µs after the FT edge (R134). -/
def execSyncPulseEnd (h : Fin 4) (s : State) : Host.Outcome State Fault Refusal :=
  done { regs := [], parts := [.balls] } s
    { s with balls := { s.balls with sync := s.balls.sync.set h.val false } }

/-- The control clusters of the variant. -/
def State.fitted (s : State) : List (Fin 2) := if s.loopPresent 256 then [0, 1] else [0]

/-- The conditions of R20: every fitted cluster is IN_SERVICE, and the device is not in SERVICE and not in the trip sequence or in
shutdown (R66, Table 5-4). -/
def State.liveOn (s : State) : Bool :=
  s.fitted.all (fun c => s.eng (.ctl c) == stInService) && !s.service && !s.therm.tripped

/-- LIVE_TOGGLE: at every 64th ST edge while R20's conditions hold; otherwise LIVE keeps its level. -/
def execLiveToggle (s : State) : Host.Outcome State Fault Refusal :=
  doneHeld { regs := [], parts := [.tick, .balls] } s
    (if s.tick.liveDue then
      { s with
        tick := { s.tick with liveDue := false }
        balls := if s.liveOn then { s.balls with live := !s.balls.live } else s.balls }
    else s)

/-! ### Tick registers (R32) -/

/-- STINC in its range (R16), N in its range (R21). -/
def stincOk (x : Nat) : Bool := Nat.ble 43980466 x && Nat.ble x 1407374883
def ftdivOk (n : Nat) : Bool := Nat.ble 16 n && Nat.ble n 4096

/-- The values are accepted: they wait for the next FT edge, in place of any that wait already. -/
def State.tickAccept (s : State) (stinc n : Nat) : State :=
  (({ s with tick := { s.tick with pend := some (BitVec.ofNat 31 stinc, BitVec.ofNat 13 n) } }).wr Reg.SYS_TICKSTAT_TSTAT
    Status.OK).wrB Reg.SYS_TICKSTAT_FTPEND true

/-- The values are turned away, and with them the staged low part. -/
def State.tickReject (s : State) (st : Nat) : State :=
  ({ s with tick := { s.tick with staged := none } }).wr Reg.SYS_TICKSTAT_TSTAT st

/-- A commit of STINC and N by the host: range, then the capacity check against the image in force. -/
def State.tickCommit (s : State) (stinc n : Nat) : Nat × State :=
  if !stincOk stinc || !ftdivOk n then (Status.BAD_ARG, s.tickReject Status.BAD_ARG)
  else
    let fits := s.capacity stinc n == 0
    let s := s.reportShares stinc n
    if fits then (Status.OK, s.tickAccept stinc n) else (Status.REFUSED, s.tickReject Status.REFUSED)

/-- STINC as a write to SYS_STINC1 commits it: the staged low part, or the one in force, below the new high part. -/
def State.stincWith (s : State) (v : Nat) : Nat :=
  (match s.tick.staged with | some w => w.toNat | none => s.rd Reg.SYS_STINC0) + 2 ^ 18 * (v % 2 ^ 13)

/-- Steps 1 and 2 of R52 for a tick register: the fields are open in SERVICE with SYS unlocked; a write of the present
value passes. -/
def State.tickGate (s : State) (f : Fld) (v : Nat) : Nat :=
  let g := s.gate .sys false
  if g ≠ Status.OK then g
  else if bitsOf v f.hi f.lo ≠ s.rd f ∧ !s.fieldOpen .sys f.key .tick then Status.ILLEGAL_STATE
  else Status.OK

def fpTickRegs : Footprint := { regs := [(0, 0x400), (0x9C00, 0xA000)], parts := [.tick] }

/-- SYS_STINC0_WRITE: stages the low part and commits nothing. -/
def execSysStinc0Write (v : Word) (s : State) : Host.Outcome State Fault Refusal :=
  let st := s.tickGate Reg.SYS_STINC0 v.toNat
  done fpTickRegs s
    ((if st = Status.OK then { s with tick := { s.tick with staged := some v } } else s).result .sys 0x020 st)

/-- SYS_STINC1_WRITE: commits the staged low part with the new high part. -/
def execSysStinc1Write (v : Word) (s : State) : Host.Outcome State Fault Refusal :=
  let st := s.tickGate Reg.SYS_STINC1 v.toNat
  done fpTickRegs s
    (if st = Status.OK then (let r := s.tickCommit (s.stincWith v.toNat) s.ftdiv; r.2.result .sys 0x021 r.1)
     else s.result .sys 0x021 st)

/-- SYS_FTDIV_WRITE: commits a new N with the STINC in force. -/
def execSysFtdivWrite (v : Word) (s : State) : Host.Outcome State Fault Refusal :=
  let st := s.tickGate Reg.SYS_FTDIV v.toNat
  done fpTickRegs s
    (if st = Status.OK then (let r := s.tickCommit s.stinc (v.toNat % 2 ^ 13); r.2.result .sys 0x022 r.1)
     else s.result .sys 0x022 st)

/-- The same writes by the loader in LOADING: commits without a capacity check; a value out of range fails the section
(R32, R117). -/
def State.tickLoad (s : State) (off v : Nat) : Option State :=
  if off = 0x20 then some { s with tick := { s.tick with staged := some (BitVec.ofNat 18 v) } }
  else
    let held := match s.tick.pend with | some (a, b) => (a.toNat, b.toNat) | none => (s.stinc, s.ftdiv)
    let stinc := if off = 0x21 then s.stincWith v else held.1
    let n := if off = 0x22 then v % 2 ^ 13 else held.2
    if stincOk stinc && ftdivOk n then some (s.tickAccept stinc n) else none

end Sys2Proof.Machine
end

