-- ==== Sys2Proof/Machine/Image.lean ====
section
/-! DEFINITION. The Vorourn image (R116 to R118, R370): headers, authentication, section contents, register runs, the
POINTS section and the planes of MAPS and HEADCAL. -/

namespace Sys2Proof.Machine
open Sys2Proof

-- Reasons of Table 6-6.
namespace Reason
abbrev NONE : Nat := 0x00
abbrev CAP_RESOURCE : Nat := 0x01
abbrev CAP_RESIDENT : Nat := 0x02
abbrev PT_SOURCES : Nat := 0x09
abbrev PT_UNASSIGNED : Nat := 0x0A
abbrev PT_FORMAT : Nat := 0x0B
abbrev PT_ALLOWANCE : Nat := 0x0C
abbrev SEC_UNKNOWN : Nat := 0x0D
abbrev SEC_DUPLICATE : Nat := 0x0E
abbrev SEC_MISSING : Nat := 0x0F
abbrev NOT_RELOADABLE : Nat := 0x10
abbrev OLDER_COPY : Nat := 0x11
abbrev LIVE_GAP : Nat := 0x12
abbrev HDR_INVALID : Nat := 0x20
abbrev HDR_CRC : Nat := 0x21
abbrev KEY : Nat := 0x22
abbrev SIGNATURE : Nat := 0x23
abbrev DIGEST : Nat := 0x24
abbrev DECODE : Nat := 0x25
abbrev SEC_CONTENT : Nat := 0x26
abbrev HOST_TIMEOUT : Nat := 0x27
end Reason

/-- Status that goes with a reason (Table 6-6). -/
def reasonStatus (r : Nat) : Nat :=
  if r = Reason.HOST_TIMEOUT then Status.TIMEOUT else if r < 0x20 then Status.REFUSED else Status.CHECK_FAIL

/-- SECIDX where no section is concerned. -/
abbrev noSection : Nat := 0x7F

/-! ### Bytes of a source -/

/-- `n` places from `k` on, in one walk of a list whose places below `k` have been dropped. -/
def cellsWalk {α : Type} (d : Nat → α) : Nat → Nat → List (Nat × α) → List α
  | 0, _, _ => []
  | n + 1, k, [] => d k :: cellsWalk d n (k + 1) []
  | n + 1, k, (a, v) :: t =>
    if a = k then v :: cellsWalk d n (k + 1) t else d k :: cellsWalk d n (k + 1) ((a, v) :: t)

/-- Offset of a copy in the chip on FCS0_N: copy B at half the density, 8 MiB without SFDP. -/
def State.copyBase (s : State) (src : ImgSrc) : Nat :=
  match src with
  | .copyB => s.flashSize 0 / 2
  | _ => 0

/-- Space of a copy; a host image may not exceed 64 MiB (R121). -/
def State.copySpace (s : State) (src : ImgSrc) : Nat :=
  match src with
  | .hostStream => 67108864
  | _ => s.flashSize 0 / 2

/-- `n` bytes of a source from offset `o`. -/
def State.imgBytes (s : State) (src : ImgSrc) (o n : Nat) : List Byte :=
  match src with
  | .hostStream => slice s.boot.stream o n
  | _ =>
    let a := s.copyBase src + o
    match s.flash.chips[0]? with
    | some c => cellsWalk flashBlank n a (c.mem.dropWhile (fun x => Nat.blt x.1 a))
    | none => List.replicate n (flashBlank 0)

/-! ### Copy header (R116) -/

/-- The class that Table 6-5 gives a type; none for a type that it does not list. -/
def tableClass (t : Nat) : Option Nat :=
  if 1 ≤ t ∧ t ≤ 0x0B then some 0
  else if 0x10 ≤ t ∧ t ≤ 0x17 then some 1
  else if t = 0x20 then some 2
  else none

/-- A section record from its 48 bytes (Table 6-4); none where it is not well formed. -/
def secRecord (b : List Byte) : Option SecRec :=
  let t := (b.getD 0 0).toNat
  let c := (b.getD 2 0).toNat
  let cls := c % 4
  let coding := c / 4 % 4
  let listed : Bool := match tableClass t with | some k => k == cls | none => true
  if 16 ≤ c ∨ b.getD 3 0 ≠ 0#8 ∨ cls = 3 ∨ coding = 3 ∨ !listed then none
  else some { type := t, unit := (b.getD 1 0).toNat, cls := cls, coding := coding, offset := leNat (slice b 4 4)
              length := leNat (slice b 8 4), outlen := leNat (slice b 12 4), digest := slice b 16 32 }

/-- `n` records; none where one of them is not well formed. -/
def secRecords : Nat → List Byte → Option (List SecRec)
  | 0, _ => some []
  | n + 1, bs =>
    match secRecord (bs.take 48), secRecords n (bs.drop 48) with
    | some r, some rs => some (r :: rs)
    | _, _ => none

/-- Two sections share a byte. -/
def SecRec.overlaps (a b : SecRec) : Bool :=
  Nat.blt a.offset (b.offset + b.length) && Nat.blt b.offset (a.offset + a.length) && a.length != 0 && b.length != 0

/-- No two sections of a list overlap. -/
def secsApart : List SecRec → Bool
  | [] => true
  | r :: rs => !rs.any r.overlaps && secsApart rs

/-- A header judged in the order of R116: the header, or the reason of the first failure. `read o n` gives bytes. -/
def readHeader (read : Nat → Nat → List Byte) (space : Nat) : Except Nat Header :=
  let h := read 0 160
  let nsec := leNat (slice h 12 2)
  let hlen := leNat (slice h 6 2)
  if slice h 0 6 ≠ [0x56#8, 0x52#8, 0x52#8, 0x4E#8, 0x01#8, 0x00#8] ∨ hlen ≠ 160 + 48 * nsec ∨ nsec = 0 ∨ 80 < nsec then
    .error Reason.HDR_INVALID
  else
    let all := read 0 hlen
    let zeroed := slice all 0 152 ++ List.replicate 4 0#8 ++ all.drop 156
    if all.length ≠ hlen ∨ (crc32 zeroed).toNat ≠ leNat (slice all 152 4) then .error Reason.HDR_CRC
    else
      let seq := leNat (slice h 8 3)
      let flags := (h.getD 11 0).toNat
      let total := leNat (slice h 16 4)
      match secRecords nsec (all.drop 160) with
      | none => .error Reason.HDR_INVALID
      | some rs =>
        if 2 ^ 18 ≤ seq ∨ 2 ≤ flags ∨ slice h 14 2 ≠ [0#8, 0#8] ∨ slice h 156 4 ≠ List.replicate 4 0#8 ∨
            rs.any (fun r => Nat.blt r.offset hlen || Nat.blt total (r.offset + r.length)) ∨ !secsApart rs ∨ space < total then
          .error Reason.HDR_INVALID
        else .ok { seq := seq, privlock := flags == 1, total := total, planlen := leNat (slice h 20 4), secs := rs }

/-- The header of a source. -/
def State.header (s : State) (src : ImgSrc) : Except Nat Header := readHeader (s.imgBytes src) (s.copySpace src)

/-! ### Authentication (R118) -/

/-- KEYHASH as its 32 bytes in the fuse shadow (Table 18-9, R390). -/
def State.keyHash (s : State) : List Byte := (List.range 32).map (fun j => BitVec.ofNat 8 (s.shadowField (32 + 8 * j) 8))

/-- KEYHASH is unprogrammed while all of its bits are 0. -/
def State.keySet (s : State) : Bool := s.keyHash.any (fun b => b != 0#8)

/-- The authentication of a source whose header is valid: 0, or the reason of its failure. -/
def State.authentic (s : State) (src : ImgSrc) (h : Header) : Nat :=
  if !s.keySet then 0
  else
    let all := s.imgBytes src 0 (160 + 48 * h.secs.length)
    let key := slice all 24 64
    if sha256 key ≠ s.keyHash then Reason.KEY
    else
      let digest := sha256 (slice all 0 88 ++ List.replicate 68 0#8 ++ all.drop 156)
      if P256.verify (beNat (slice key 0 32)) (beNat (slice key 32 32)) (beNat (slice all 88 32)) (beNat (slice all 120 32))
          (beNat digest) then 0
      else Reason.SIGNATURE

/-! ### Section contents (R117, R370) -/

/-- Every stream of a plane-coded section; none where one does not decode. -/
def decodePlanes : Nat → List Byte → Option (List Plane)
  | 0, _ => none
  | _, [] => some []
  | n + 1, bs =>
    match decodePlane bs with
    | .error _ => none
    | .ok (p, _, rest) => (decodePlanes n rest).map (fun ps => p :: ps)

/-- Stored bytes decoded: the content, or none where it does not decode to OUTLEN bytes. Plane-coded content stays as it is
stored. -/
def SecRec.decode (r : SecRec) (bs : List Byte) : Option (List Byte) :=
  match r.coding with
  | 0 => if r.outlen = r.length then some bs else none
  | 1 => match decodePlanes (bs.length + 1) bs with
    | some ps => if 3 * (ps.map (fun p => p.samples.length)).foldl (· + ·) 0 = r.outlen then some bs else none
    | none => none
  | _ => match inflate bs r.outlen with
    | .ok out _ _ => if out.length = r.outlen then some out else none
    | _ => none

/-- The content of a section of a source, or the reason of its failure: its digest first, then its decoding. -/
def State.section (s : State) (src : ImgSrc) (r : SecRec) : Except Nat (List Byte) :=
  let bs := s.imgBytes src r.offset r.length
  if sha256 bs ≠ r.digest then .error Reason.DIGEST
  else match r.decode bs with
    | some c => .ok c
    | none => .error Reason.DECODE

/-- Register types of Table 6-5. -/
def registerType (t : Nat) : Bool := (tableClass t).isSome && !memNat t [0x02, 0x11, 0x12, 0x20]

/-- Is the unit one that the variant has (Table 6-5, R120)? -/
def State.unitPresent (s : State) (t u : Nat) : Bool :=
  match t with
  | 0x07 => Nat.blt u 2 && s.loopPresent (256 * u)
  | 0x0B => Nat.blt u 2
  | 0x10 | 0x11 => s.headPresent u
  | 0x12 => s.headPresent (u / 4)
  | 0x20 => Nat.blt u 256
  | _ => u == 0

/-- The words of register runs, with their addresses; none where a run overruns the content or a word has bits above
bit 17. -/
def runWords : Nat → List Byte → Option (List (Nat × Nat))
  | 0, _ => none
  | _, [] => some []
  | f + 1, a0 :: a1 :: n0 :: n1 :: rest =>
    let a := a0.toNat + 256 * a1.toNat
    let n := n0.toNat + 256 * n1.toNat
    if rest.length < 3 * n then none
    else
      let ws := (List.range n).map (fun i => (a + i, leNat (slice rest (3 * i) 3)))
      if ws.any (fun w => Nat.ble (2 ^ 18) w.2) then none
      else (runWords f (rest.drop (3 * n))).map (fun t => ws ++ t)
  | _, _ => none

def sectionRuns (bs : List Byte) : Option (List (Nat × Nat)) := runWords (bs.length + 1) bs

/-- The words of register runs as far as they can be read, well formed or not: what a section names (R8, R117). -/
def runPrefix : Nat → List Byte → List (Nat × Nat)
  | 0, _ => []
  | f + 1, a0 :: a1 :: n0 :: n1 :: rest =>
    let a := a0.toNat + 256 * a1.toNat
    let n := n0.toNat + 256 * n1.toNat
    let ws := (List.range (min n (rest.length / 3))).map (fun i => (a + i, leNat (slice rest (3 * i) 3)))
    (if n != 0 && ws.isEmpty then [(a, 0)] else ws) ++ (if rest.length < 3 * n then [] else runPrefix f (rest.drop (3 * n)))
  | _, _ => []

def sectionNames (bs : List Byte) : List (Nat × Nat) := runPrefix (bs.length + 1) bs

/-- Register blocks of a section's owner (Table 6-5). -/
def sectionBlocks (t u : Nat) : List Blk :=
  match t with
  | 0x01 => [.sys, .pwr, .clk, .thm, .fab, .age]
  | 0x03 => [.tally]
  | 0x04 => [.afe, .adc]
  | 0x05 => [.fan, .vlv, .dac]
  | 0x06 => [.gpio]
  | 0x07 => [.ctl (Fin.ofNat 2 u)]
  | 0x08 => [.prf]
  | 0x09 => [.trc]
  | 0x0A => [.sched]
  | 0x0B => [.bus (Fin.ofNat 2 u)]
  | 0x10 => [.head (Fin.ofNat 4 u), .pe (Fin.ofNat 4 u)]
  | 0x13 => [.shut]
  | 0x14 => [.stand]
  | 0x15 => [.occ]
  | 0x16 => [.ctx]
  | 0x17 => [.cmp]
  | _ => []

/-- The register of an address belongs to the section's owner. -/
def sectionOwns (t u a : Nat) : Bool :=
  (match Blk.ofAddr a with
   | some b => (sectionBlocks t u).any (fun x => decide (x = b))
   | none => false) || (t == 1 && (a == 0x1802 || a == 0x2402))

/-- A word of a run names a resource that the variant lacks, by its address or by a selection value: a slot in CTL_SSEL or
TRC_CFG, a head in VLV_CFG, STAND_SCFG0, OCC_BSEL or CMP_JOP, a bond in HEAD_LINKCFG (R117). -/
def State.namesAbsent (s : State) (a w : Nat) : Bool :=
  match Blk.ofAddr a with
  | none => false
  | some b =>
    let off := a % 0x400
    !s.blkPresent b || s.regAbsent b off ||
    (match b with
     | .ctl c => off == 0x200 && !s.loopPresent (256 * c.val + w % 256)
     | .trc => Nat.blt off 0x40 && off % 0x10 == 0 && !s.loopPresent (w % 512)
     | .vlv => Nat.blt off 0x100 && off % 0x20 == 0 && !s.headPresent (w / 2 ^ 14 % 4)
     | .stand => off == 1 && !s.headPresent (w / 2 ^ 14 % 4)
     | .occ => off == 0x100 && !s.headPresent (w / 2 ^ 8 % 4)
     | .cmp => off == 0 && !s.headPresent (w / 2 ^ 6 % 4)
     | .head h => off == 0 && w / 2 ^ 17 % 2 == 1 && h.val % 2 == 0 && !s.headPresent (h.val + 1)
     | _ => false)

/-- One word written by the loader: steps 1 and 3 of R52 with the engine in LOADING; none where it fails the section (R117).
A reserved offset of an owned block discards it (R52). -/
def State.loadWord (s : State) (t u a w : Nat) : Option State :=
  if !sectionOwns t u a ∨ 0x3FC ≤ a % 0x400 ∨ s.namesAbsent a w then none
  else if t = 1 ∧ 0x20 ≤ a ∧ a ≤ 0x22 then s.tickLoad a w
  else match s.regKey a with
    | none => some s
    | some (_, key) =>
      let fs := s.fieldsOf key
      if fs.any (fun f => f.acc.judged && !f.rng.ok (bitsOf w f.hi f.lo)) then none
      else some (s.wrKey key (mergeWord fs (s.rdKey key) w))

/-- The words of a section written one after another: what they leave, up to one that fails, and whether none does. -/
def State.loadWords (t u : Nat) : List (Nat × Nat) → State → State × Bool
  | [], s => (s, true)
  | (a, w) :: ws, s => match s.loadWord t u a w with
    | some s => State.loadWords t u ws s
    | none => (s, false)

/-- The slots, stands or AFE slots of a block, whose limits a load judges whether they are in use or not (R201, R224). -/
def loadUnits (b : Blk) : List Nat :=
  match b with
  | .ctl c => (List.range 256).map (· + 256 * c.val)
  | .stand => List.range 1024
  | .afe => List.range 32
  | _ => []

/-- Registers of D0 are not reset by a load: they hold their values through a warm restart (R110). -/
def loadKeeps (b : Blk) : Bool := match b with | .sys | .thm | .pwr | .clk => true | _ => false

/-- The fields that a section can write, at their reset values: what a section does not write holds its Reset value. -/
def FSpec.loadable (f : FSpec) : Bool := match f.acc with | .ro | .rc | .w1c | .wo => false | _ => true

/-- A word with its loadable fields at their reset values. -/
def unloadWord (key old : Nat) : Nat :=
  match rowOf key with
  | some r => r.fields.foldl (fun w f => if f.loadable then putBits w f.hi f.lo f.reset else w) old
  | none => old

/-- The keys of a block's registers, those of its windows included. -/
def Blk.holds (b : Blk) (key : Nat) : Bool :=
  match b with
  | .ctl c => (Nat.ble b.base key && Nat.blt key (b.base + 0x3FC)) ||
      (Nat.ble (0x10000 + 0x4000 * c.val) key && Nat.blt key (0x14000 + 0x4000 * c.val))
  | .stand => (Nat.ble b.base key && Nat.blt key (b.base + 0x3FC)) || (Nat.ble 0x20000 key && Nat.blt key 0x30000)
  | .sched => (Nat.ble b.base key && Nat.blt key (b.base + 0x3FC)) || (Nat.ble 0x30000 key && Nat.blt key 0x40000)
  | _ => Nat.ble b.base key && Nat.blt key (b.base + 0x3FC)

/-- What the blocks of a section held before is gone: their loadable fields are at their Reset values. -/
def State.unload (s : State) (t u : Nat) : State :=
  let bs := (sectionBlocks t u).filter (fun b => !loadKeeps b)
  s.regs.cells.foldl (fun s c => if bs.any (fun b => b.holds c.1) then s.wrKey c.1 (unloadWord c.1 c.2.toNat) else s) s

/-- A register section applied to a state: its words, then the limits that span registers, judged on what they leave
(notes/assumptions/82), and those of the tables of a BUS section; none where it fails with SEC_CONTENT. -/
def State.loadSection (s : State) (t u : Nat) (content : List Byte) : Option State :=
  match sectionRuns content with
  | none => none
  | some ws =>
    match State.loadWords t u ws (s.unload t u) with
    | (_, false) => none
    | (s, true) => if (sectionBlocks t u).any (fun b => s.blockBad b (loadUnits b)) ||
          (t == 0x0B && !(assocGet s.boot.busTabs u).all BusTables.ok) then none
      else some s

/-- What a register section would leave as far as its words can be written (R125 check 9). -/
def State.loadPart (s : State) (t u : Nat) (content : List Byte) : State :=
  (State.loadWords t u (sectionNames content) (s.unload t u)).1

/-- What the words of a section say of its registers, none of them judged (R8). -/
def State.loadRaw (s : State) (t u : Nat) (content : List Byte) : State :=
  (sectionNames content).foldl (fun s w =>
    match (if sectionOwns t u w.1 then s.regKey w.1 else none) with
    | some (_, key) => s.wrKey key (mergeWord (s.fieldsOf key) (s.rdKey key) w.2)
    | none => s) (s.unload t u)

/-- Resources that control-class and HEADPROF sections name and the variant lacks, judged before any check of their content: the
reason and index of the first, of their runs and then of what they configure together (R8, R117). -/
def State.lacks (s : State) (secs : List (Nat × SecRec × List Byte)) : Option (Nat × Nat) :=
  let secs := secs.filter (fun x => (tableClass x.2.1.type == some 0 || x.2.1.type == 0x10) && registerType x.2.1.type)
  match secs.find? (fun x => (sectionNames x.2.2).any (fun w => s.namesAbsent w.1 w.2)) with
  | some x => some (Reason.CAP_RESOURCE, x.1)
  | none =>
    let t := (secs.filter (fun x => x.2.1.type == 0x10)).foldl (fun s x => s.loadRaw x.2.1.type x.2.1.unit x.2.2) s
    if !t.capHeads then some (Reason.CAP_RESOURCE, noSection)
    else if t.variant.pixels < t.sumP then some (Reason.CAP_RESIDENT, noSection)
    else none

/-! ### The POINTS section (R117) -/

def formatOf (c : Nat) : PFormat := match c with | 0 => .temp | 1 => .frac | 2 => .ucnt | _ => .rh

/-- An entry: format, hold allowance, HOST. -/
def pointEntry (v : Nat) : PFormat × Nat × Bool := (formatOf (v % 4), v / 4 % 65536, v / 2 ^ 18 % 2 == 1)

/-- The 4,096 entries; none where the section's content is not of that form. -/
def pointEntries (bs : List Byte) : Option (List (PFormat × Nat × Bool)) :=
  if bs.length ≠ 12288 then none
  else
    let vs := (List.range 4096).map (fun i => leNat (slice bs (3 * i) 3))
    if vs.any (fun v => Nat.ble (2 ^ 19) v) then none else some (vs.map pointEntry)

/-! ### MAPS and HEADCAL (R185, R370, R411) -/

/-- A stream has the geometry of its head. -/
def State.planeFits (s : State) (h : Nat) (p : Plane) : Bool :=
  p.width == s.rd (Reg.HEAD_WIDTH h) && p.height == s.rd (Reg.HEAD_HEIGHT h)

/-- MAPS of head `h`: one stream of KIND 1; none where the content is another. -/
def State.loadMaps (s : State) (h : Nat) (ps : List Plane) : Option State :=
  match ps with
  | [p] => if p.kind = 1 ∧ p.bits = 18 ∧ !p.signed ∧ s.planeFits h p then some (s.putResident h 1 p.samples) else none
  | _ => none

/-- The curve of a set as its registers hold it (Table 9-22). -/
def State.curveOf (s : State) (h i : Nat) : Curve :=
  { cvb := s.rd (Reg.SHUT_CVB h i), cvr := s.rdPair (Reg.SHUT_CVR0 h i) (Reg.SHUT_CVR1 h i), cvf := s.rd (Reg.SHUT_CVF h i)
    cvo := s.rdS (Reg.SHUT_CVO h i), tlo := s.rd (Reg.SHUT_TLO h i), thi := s.rd (Reg.SHUT_THI h i) }

/-- The table of a set is built, and the set is calibrated unless the table is IMPLAUSIBLE (R185). -/
def State.tableBuild (s : State) (h i : Nat) : State :=
  let put := fun (s : State) (lut : List Word) => s.setHead h (fun x => { x with radTab := x.radTab.set i lut })
  match buildTable (s.curveOf h i) with
  | some t =>
    let s := ((s.wrS (Reg.SHUT_WLO h i) t.wlo).wr (Reg.SHUT_WSCL h i) t.wscl).wr (Reg.SHUT_TABST h i) Status.OK
    put (s.wrB (Reg.HEAD_SETGAIN_CAL h i) true) t.lut
  | none =>
    let s := ((s.wr (Reg.SHUT_WLO h i) 0).wr (Reg.SHUT_WSCL h i) 0).wr (Reg.SHUT_TABST h i) Status.IMPLAUSIBLE
    put (s.wrB (Reg.HEAD_SETGAIN_CAL h i) false) []

/-- The 201 words of a KIND 7 stream in their registers. -/
def State.calWords (s : State) (h i : Nat) (v : List Nat) : State :=
  let g := fun (k : Nat) => v.getD k 0
  let s := (s.wr (Reg.PE_SREF h i) (g 0)).wr (Reg.PE_TCAL h i) (g 1)
  let s := (List.range 64).foldl (fun s k =>
    ((s.wr (Reg.PE_GT h (64 * i + k)) (g (2 + k))).wr (Reg.PE_A1 h (64 * i + k)) (g (66 + k))).wr
      (Reg.PE_A2 h (64 * i + k)) (g (130 + k))) s
  let s := ((s.wr (Reg.SHUT_CVB h i) (g 194)).wr (Reg.SHUT_CVR0 h i) (g 195)).wr (Reg.SHUT_CVR1 h i) (g 196)
  (((s.wr (Reg.SHUT_CVF h i) (g 197)).wr (Reg.SHUT_CVO h i) (g 198)).wr (Reg.SHUT_TLO h i) (g 199)).wr
    (Reg.SHUT_THI h i) (g 200)

/-- HEADCAL of set `i` of head `h`: one KIND 7 stream and at most one plane each of KIND 2 and 5; none where the content
is another. -/
def State.loadCal (s : State) (h i : Nat) (ps : List Plane) : Option State :=
  let k7 := ps.filter (fun p => p.kind == 7)
  let rest := ps.filter (fun p => p.kind != 7)
  let n := fun (k : Nat) => (rest.filter (fun p => p.kind == k)).length
  match k7 with
  | [c] =>
    if c.width = 201 ∧ c.height = 1 ∧ c.bits = 18 ∧ !c.signed ∧ c.set = i ∧ rest.all (fun p => p.kind == 2 || p.kind == 5) ∧
        n 2 ≤ 1 ∧ n 5 ≤ 1 ∧ rest.all (s.planeFits h) then
      let s := (s.calWords h i c.samples).tableBuild h i
      some (rest.foldl (fun s p => s.putResident h p.kind p.samples) s)
    else none
  | _ => none

/-- Does a HEADCAL section carry an OFS plane? (A reload of it then cancels a pending finalization, R181.) -/
def hasOfs (ps : List Plane) : Bool := ps.any (fun p => p.kind == 2)

end Sys2Proof.Machine
end

