-- ==== Sys2Proof/Machine/Sources.lean ====
section
/-! DEFINITION. Sources and readers of points as an image's registers name them, and the loader's checks of points (R36 to
R41, R117, R231, R323, R326). -/

namespace Sys2Proof.Machine
open Sys2Proof

/-- A point that a source writes: number, source, format where the source fixes one. -/
abbrev SrcRow : Type := Nat × PSrc × Option PFormat

/-- Sources of chapters 10 to 14 and of the thermal supervisor, as the registers stand. -/
def State.engineSources (s : State) : List SrcRow :=
  let entryFmt := fun (pt : Nat) => (s.boot.entries[pt]?).map (fun e => e.1)
  let thm :=
    (if s.rdB Reg.THM_PTTJ_EN then [(s.rd Reg.THM_PTTJ_POINT, PSrc.thm 0, some PFormat.temp)] else []) ++
    (if s.rdB Reg.THM_PTLVL_EN then [(s.rd Reg.THM_PTLVL_POINT, PSrc.thm 1, some PFormat.ucnt)] else []) ++
    (if s.rdB Reg.THM_PTTS_EN then
      (List.range 16).map (fun i => (s.rd Reg.THM_PTTS_TSBASE + i, PSrc.thm (2 + i), some PFormat.temp)) else [])
  let afe := (List.range 32).filterMap (fun i =>
    if s.rdB (Reg.AFE_SLOTCFG0_EN i) && s.rdB (Reg.AFE_OUTPT_OUTEN i) then
      some (s.rd (Reg.AFE_OUTPT_POINT i), PSrc.afe i, none) else none)
  let loops := (List.range 512).filterMap (fun l =>
    if s.loopPresent l && s.rdB (Reg.CTL_OUTPT_OUTEN l) then
      some (s.rd (Reg.CTL_OUTPT_POINT l), PSrc.loop l, some PFormat.frac) else none)
  let prfs := (List.range 64).filterMap (fun g =>
    if s.rdB (Reg.PRF_CFG_EN g) then some (s.rd (Reg.PRF_OUT g), PSrc.prf g, entryFmt (s.rd (Reg.PRF_TGT g))) else none)
  let scheds := (List.range 64).filterMap (fun k =>
    if s.rdB (Reg.SCH_CFG_EN k) then some (s.rd (Reg.SCH_CFG_OUTPT k), PSrc.sched k, none) else none)
  let fans := ((List.range 3).map (fun c =>
    if s.rdB (Reg.FAN_CFG_EN c) then
      (if s.rdB (Reg.FAN_SPDPT_SPEN c) then [(s.rd (Reg.FAN_SPDPT_POINT c), PSrc.fan c 0, some PFormat.ucnt)] else []) ++
      (if s.rdB (Reg.FAN_SPDPT_CUREN c) then [(s.rd (Reg.FAN_SPDPT_POINT c) + 1, PSrc.fan c 1, some PFormat.ucnt)] else [])
    else [])).flatten
  let valves := (List.range 8).filterMap (fun v =>
    if s.rdB (Reg.VLV_CFG_EN v) && s.rdB (Reg.VLV_STPT_STEN v) then
      some (s.rd (Reg.VLV_STPT_POINT v), PSrc.valve v, some PFormat.ucnt) else none)
  let gpios := (List.range 4).filterMap (fun g =>
    if s.rdB (Reg.GPIO_CFG_EN g) && !s.rdB (Reg.GPIO_CFG_DIR g) then
      some (s.rd (Reg.GPIO_CFG_POINT g), PSrc.gpio g, some PFormat.ucnt) else none)
  let stands := ((List.range 1024).map (fun st =>
    if s.rdB (Reg.STAND_SCFG0_EN st) then
      (let set := (List.range 7).filter (fun k => s.rd (Reg.STAND_SCFG0_PMASK st) / 2 ^ k % 2 == 1)
       (List.range set.length).map (fun j =>
         let k := set.getD j 0
         (s.rd (Reg.STAND_SCFG5 st) + j, PSrc.stand st k, some (if k < 4 then PFormat.temp else PFormat.ucnt))))
    else [])).flatten
  thm ++ afe ++ loops ++ prfs ++ scheds ++ fans ++ valves ++ gpios ++ stands

/-- Tables of a port as the image gives them, where its protocol uses them. -/
def State.portObjs (s : State) (p : Nat) : List BObj :=
  if s.rd (Reg.BUS_CFG_PROTO p) = 1 then (match assocGet s.boot.busTabs p with | some t => t.objs | none => []) else []

def State.portTrans (s : State) (p : Nat) : List MbTrans :=
  if s.rd (Reg.BUS_CFG_PROTO p) = 2 then (match assocGet s.boot.busTabs p with | some t => t.trans | none => []) else []

/-- The points that Modbus reads write. -/
def State.modbusSources (s : State) : List SrcRow :=
  ((List.range 2).map (fun p =>
    let ts := s.portTrans p
    ((List.range ts.length).map (fun i =>
      match ts[i]? with
      | some t => if t.reads then (List.range t.values).map (fun k => (t.point + k, PSrc.modbus p i k, if t.bits then some PFormat.ucnt else none)) else []
      | none => [])).flatten)).flatten

/-- Every source but the ports' BACnet objects: those that registers and poll tables name, and the host. -/
def State.fixedSources (s : State) : List SrcRow :=
  let host := (List.range s.boot.entries.length).filterMap (fun n =>
    match s.boot.entries[n]? with | some (_, _, true) => some (n, PSrc.host, none) | _ => none)
  s.engineSources ++ s.modbusSources ++ host

/-- Writable BACnet objects: the port is the source of a point that nothing else writes; the first such object in order
counts (notes/assumptions/83). -/
def State.bacnetSources (s : State) (fixed : List SrcRow) : List SrcRow :=
  (List.range 2).foldl (fun acc p =>
    let os := s.portObjs p
    (List.range os.length).foldl (fun acc i =>
      match os[i]? with
      | some o =>
        if o.otype = .ai ∨ fixed.any (fun r => r.1 == o.point) ∨ acc.any (fun r => r.1 == o.point) then acc
        else acc ++ [(o.point, PSrc.bacnet p i, none)]
      | none => acc) acc) []

/-- The sources of every assigned point (R36). -/
def State.imageSources (s : State) : List SrcRow :=
  let fixed := s.fixedSources
  fixed ++ s.bacnetSources fixed

/-- Points that a loop input, an actuator command, a bus object or a bus write reads, with the format that its reader asks
for. -/
def State.imageReaders (s : State) : List (Nat × Option PFormat) :=
  let loops := ((List.range 512).map (fun l =>
    if s.loopPresent l && s.rdB (Reg.CTL_OUTPT_OUTEN l) then
      (List.range 3).filterMap (fun j =>
        let k := 0x10010 + 0x40 * l + 5 * j
        if s.rdB ⟨k, 17, 17⟩ then some (s.rd ⟨k, 11, 0⟩, none) else none)
    else [])).flatten
  let fans := (List.range 3).filterMap (fun c =>
    if s.rdB (Reg.FAN_CFG_EN c) then some (s.rd (Reg.FAN_TGTPT c), some PFormat.frac) else none)
  let valves := (List.range 8).filterMap (fun v =>
    if s.rdB (Reg.VLV_CFG_EN v) && !s.rdB (Reg.VLV_CFG_SHUT v) then some (s.rd (Reg.VLV_CFG_CMDPT v), some PFormat.frac)
    else none)
  let dacs := (List.range 6).filterMap (fun d =>
    if s.rdB (Reg.DAC_CFG_EN d) then some (s.rd (Reg.DAC_CFG_CMDPT d), some PFormat.frac) else none)
  let gpios := (List.range 4).filterMap (fun g =>
    if s.rdB (Reg.GPIO_CFG_EN g) && s.rdB (Reg.GPIO_CFG_DIR g) then some (s.rd (Reg.GPIO_CFG_POINT g), none) else none)
  let objs := ((List.range 2).map (fun p => (s.portObjs p).map (fun o =>
    (o.point, if o.otype = .bv ∨ o.otype = .msv then some PFormat.ucnt else none)))).flatten
  let writes := ((List.range 2).map (fun p => ((s.portTrans p).filter (fun t => !t.reads)).map (fun t =>
    (List.range t.values).map (fun k => (t.point + k, (none : Option PFormat)))))).flatten.flatten
  loops ++ fans ++ valves ++ dacs ++ gpios ++ objs ++ writes

/-- No point number stands twice in a list that rises. -/
def noRepeat : List Nat → Bool
  | a :: b :: t => a != b && noRepeat (b :: t)
  | _ => true

def insertNat (x : Nat) : List Nat → List Nat
  | [] => [x]
  | y :: ys => if x ≤ y then x :: y :: ys else y :: insertNat x ys

/-- The sensor point of a cooling group that is used must be TEMP (R304). -/
def State.groupsBad (s : State) : Bool :=
  (List.range 3).any (fun g => s.rdB (Reg.FAN_GRP_SOVREN g) &&
    (match s.boot.entries[s.rd (Reg.FAN_GRP_SENSPT g)]? with
     | some (f, _, _) => decide (f ≠ PFormat.temp)
     | none => false))

/-- An AI object on a point that its own port writes (R323). -/
def State.aiLoops (s : State) (srcs : List SrcRow) : Bool :=
  (List.range 2).any (fun p => (s.portObjs p).any (fun o => decide (o.otype = .ai) && srcs.any (fun r =>
    r.1 == o.point && (match r.2.1 with | .modbus q _ _ | .bacnet q _ => q == p | _ => false))))

/-- The checks of R36 to R40 on the image that the registers, tables and entries of a state hold: 0, or the reason of the
first failure. -/
def State.pointsCheck (s : State) : Nat :=
  let srcs := s.imageSources
  let reads := s.imageReaders
  let nums := srcs.foldl (fun l r => insertNat r.1 l) []
  let fmtOf := fun (n : Nat) => (s.boot.entries[n]?).map (fun e => e.1)
  let bad := fun (n : Nat) (f : Option PFormat) => match f with | some f => decide (fmtOf n ≠ some f) | none => false
  if !noRepeat nums || s.aiLoops srcs then Reason.PT_SOURCES
  else if reads.any (fun r => !memNat r.1 nums) then Reason.PT_UNASSIGNED
  else if srcs.any (fun r => bad r.1 r.2.2) || reads.any (fun r => bad r.1 r.2) || s.groupsBad then Reason.PT_FORMAT
  else if s.boot.entries.any (fun e => e.2.1 == 0 || Nat.blt 60000 e.2.1) then Reason.PT_ALLOWANCE
  else 0

/-! ### Assignment -/

/-- A point of the image: NOT_YET, or what it held where its source and format have not changed. A force survives: it is the
shadow entry that a new source starts at NOT_YET (R46, Table 2-9). -/
def State.assigned (s : State) (r : SrcRow) : Option (Nat × Point) :=
  match s.boot.entries[r.1]? with
  | none => none
  | some (f, hold, _) =>
    let fresh : Point :=
      { v := { value := 0#18, quality := .notYet, age := 65535 }, format := f, source := r.2.1, hold := hold, shadow := none }
    match s.point r.1 with
    | some p =>
      if p.source = r.2.1 ∧ p.format = f then some (r.1, { p with hold := hold })
      else if p.shadow.isSome then some (r.1, { fresh with v := p.v, shadow := some fresh.v })
      else some (r.1, fresh)
    | none => some (r.1, fresh)

def insertPoint (p : Nat × Point) : List (Nat × Point) → List (Nat × Point)
  | [] => [p]
  | q :: qs => if p.1 < q.1 then p :: q :: qs else if p.1 = q.1 then p :: qs else q :: insertPoint p qs

/-- The point table takes the image's points; `keep` says that entries in force survive (a partial reload). -/
def State.assignPoints (s : State) (keep : Bool) : State :=
  let from' := if keep then s else { s with points := [] }
  let pts := s.imageSources.filterMap from'.assigned
  { s with points := pts.foldl (fun l p => insertPoint p l) [] }

/-- CLASS of the slots of a cluster, by the readers of their output points (R231). -/
def State.setClasses (s : State) (c : Nat) : State :=
  let act : List Nat :=
    ((List.range 3).filterMap (fun i => if s.rdB (Reg.FAN_CFG_EN i) then some (s.rd (Reg.FAN_TGTPT i)) else none)) ++
    ((List.range 8).filterMap (fun v =>
      if s.rdB (Reg.VLV_CFG_EN v) && !s.rdB (Reg.VLV_CFG_SHUT v) then some (s.rd (Reg.VLV_CFG_CMDPT v)) else none)) ++
    ((List.range 6).filterMap (fun d => if s.rdB (Reg.DAC_CFG_EN d) then some (s.rd (Reg.DAC_CFG_CMDPT d)) else none)) ++
    ((List.range 2).map (fun p => ((s.portObjs p).filter (fun o => decide (o.otype = .ao))).map (·.point))).flatten ++
    ((List.range 2).map (fun p => ((s.portTrans p).filter (fun t => !t.reads)).map (fun t =>
      (List.range t.values).map (t.point + ·)))).flatten.flatten
  (List.range 256).foldl (fun s i =>
    let l := 256 * c + i
    if s.loopPresent l && s.rdB (Reg.CTL_OUTPT_OUTEN l) then
      s.wrB (Reg.CTL_MODE_CLASS l) (memNat (s.rd (Reg.CTL_OUTPT_POINT l)) act)
    else s) s

/-! ### Expected intervals (R41) -/

/-- The expected interval of a point's source in ns; none for an event-sourced point (R41, R278, R298). -/
def State.interval (s : State) (src : PSrc) : Option Frac :=
  let st := (Frac.ofNat 1000000000).div (stRate s.stinc)
  let ft := ftPeriodNs s.stinc s.ftdiv
  match src with
  | .loop l => some (st.mul (Frac.ofNat (2 ^ s.rd (Reg.CTL_MODE_K l))))
  | .prf g => some (st.mul (Frac.ofNat (2 ^ s.rd (Reg.PRF_CFG_K g))))
  | .stand _ _ => some (ft.mul (Frac.ofNat (if s.rd Reg.THM_STAT_LEVEL = 3 then 2 else 1)))
  | .afe i =>
    if !s.rdB (Reg.AFE_SLOTCFG0_URG i) then some (Frac.ofNat (s.afeRoundNs (s.rd (Reg.AFE_SLOTCFG0_SEQ i))))
    else if s.rdB (Reg.AFE_URGCFG_UTIM i) then some (st.mul (Frac.ofNat (2 ^ s.rd (Reg.AFE_URGCFG_UK i))))
    else none
  | .modbus p _ _ => some (Frac.ofNat (1000000 * s.rd (Reg.BUS_MBCYCLE p)))
  | .thm _ => some (Frac.ofNat 1000000)
  | .fan _ _ => some (Frac.ofNat 10000000)
  | .sched _ | .host | .bacnet _ _ | .valve _ | .gpio _ => none

/-- An age in ms, counted to the end of its millisecond, has reached twice an interval in ns. A saturated age is long past. -/
def overdue (age : Nat) (i : Frac) : Bool := age == 65535 || Nat.ble (2 * i.num) (1000000 * (age + 1) * i.den)

/-- POINT_WRITE_TIMEOUT: a non-event point has gone unwritten for twice its expected interval (R42). -/
def execPointWriteTimeout (n : Fin 4096) (s : State) : Host.Outcome State Fault Refusal :=
  done { regs := [], parts := [.points] } s
    (match s.point n with
     | some p =>
       (match s.interval p.source with
        | some i => if overdue p.live.age i then s.ptTrig n .noResult else s
        | none => s)
     | none => s)

end Sys2Proof.Machine
end

