-- ==== Sys2Proof/Machine/Load.lean ====
section
/-! DEFINITION. The boot sequencer (R111 to R123): straps, flash, selection, authentication, the plan and its checks, the
control stage and the imaging stage, and the host's image stream. -/

namespace Sys2Proof.Machine
open Sys2Proof

-- Stages of BOOT_STAT (Table 6-9).
namespace BStage
abbrev WAIT_XTAL : Nat := 0
abbrev FLASH : Nat := 1
abbrev SELECT : Nat := 2
abbrev VERIFY : Nat := 3
abbrev PLAN : Nat := 4
abbrev CONTROL : Nat := 5
abbrev IMAGING : Nat := 6
abbrev RUN : Nat := 7
abbrev NOIMAGE : Nat := 8
abbrev SERVICE_ONLY : Nat := 9
abbrev HOSTWAIT : Nat := 10
end BStage

/-- What start-up may change: every register and nearly every part, but no fuse, no flash cell and no file of a chip
outside. -/
def fpBoot : Footprint :=
  { regs := [(0, 0x40000)]
    parts := [.points, .tick, .balls, .power, .clock, .boot, .heads, .bursts, .shut, .stat, .ctx, .loops, .prfs, .traces,
              .scheds, .afe, .act, .gpio, .bus, .flash, .psp, .tally, .cmp, .landing, .therm, .freeCtr] }

def State.stage (s : State) : Nat := s.rd Reg.BOOT_STAT_STAGE

/-- COPY code of a source (Table 6-9). -/
def ImgSrc.code : ImgSrc → Nat
  | .copyA => 0 | .copyB => 1 | .hostStream => 2

/-- BOOTSEL = 0b10: the host loads the image (Table 6-2). -/
def State.hostBoot (s : State) : Bool := s.rd Reg.SYS_STRAP_BOOTSEL == 2

/-! ### Start (R111, R114, R340) -/

/-- SYS_ID0 of the variant (Table 2-14). -/
def Variant.id0 : Variant → Nat
  | .slz4860 => 0x14860 | .slz4840 => 0x14840 | .slz4820 => 0x14820

/-- The boot sequencer may start: XTALOK, out of reset, rails good, no trip sequence, and D1 not yet ON (R111). -/
def State.startReady (s : State) : Bool :=
  s.stage == BStage.WAIT_XTAL && s.rdB Reg.CLK_STAT_XTALOK && s.balls.resetN && s.balls.pgood && s.power.aon &&
  !s.power.railTrip && !s.therm.tripped && !s.domOn 1

/-- The ceiling that the newest valid ageing record gives; 20 with none (R384). -/
def State.ageCeiling (s : State) : Nat :=
  match ringNewest s.tally.mem (fun i => 256 * (384 + i)) 256 0xA6 (List.range 16) none with
  | some (i, _) => (s.tallyByte (256 * (384 + i) + 61)).toNat
  | none => 20

/-- BOOT_SEQUENCER_START: D1, D4, D3, D2 and D22 switch ON, the fuses are read, SYS_ID0 is valid, and the PLLs lock, PLLB at
the clock of the ageing ceiling (R85, R111, R384, Table 6-1 step 2); the boot alerts clear (R123). -/
def execBootSequencerStart (s : State) : Host.Outcome State Fault Refusal :=
  done fpBoot s
    (if !s.startReady then s
     else
       let s := [1, 4, 3, 2, 22].foldl (fun s d => s.setDom d { st := .on, pend := none }) s
       let s := s.wr Reg.SYS_ID0 s.variant.id0
       let s := { s with boot := { BootState.init with shadow := s.fuses } }
       let fdiv := s.shadowField 360 12
       let s := if fdiv = 0 then s else s.wr Reg.FLW_CLK fdiv
       let s := ((s.wr Reg.BOOT_ALERT_SECDOWN 0).wr Reg.BOOT_ALERT_FALLBACK 0).wr Reg.BOOT_ALERT_NOIMAGE 0
       let s := (s.wr Reg.CLK_FB_CEILK s.ageCeiling).burstClock
       let s := (s.wrB Reg.CLK_STAT_PLLMLK true).wrB Reg.CLK_STAT_PLLBLK true
       s.schedsFresh.countInc 1 1)

/-- STRAP_SAMPLING: eight samples of each strap, BOOTSEL in the low two bits and TRIPSEL in the high two (R72, R73). With
BOOTSEL = 0b11 the device enters SERVICE (R64, R114). -/
def execStrapSampling (samples : Vector (BitVec 4) 8) (s : State) : Host.Outcome State Fault Refusal :=
  done fpBoot s
    (if s.stage ≠ BStage.WAIT_XTAL ∨ !s.domOn 1 then s
     else
       let l := samples.toList.map BitVec.toNat
       let b := strapValue (l.map (· % 4)) 3
       let t := strapValue (l.map (· / 4)) 0
       let s := (s.wr Reg.SYS_STRAP_BOOTSEL b.1).wrB Reg.SYS_STRAP_BUNST b.2
       let s := (s.wr Reg.SYS_STRAP_TRIPSEL t.1).wrB Reg.SYS_STRAP_TUNST t.2
       if b.1 = 3 then (s.setStage BStage.SERVICE_ONLY).serviceOn else s.setStage BStage.FLASH)

/-- FLASH_NEGOTIATION: each chip's SFDP is read and its mode negotiated (R340); then selection, or the wait for the host
(Table 6-2). In SERVICE_ONLY it makes the chips reachable (R115; notes/assumptions/87). -/
def execFlashNegotiation (c0 c1 : Sfdp) (s : State) : Host.Outcome State Fault Refusal :=
  let only := s.stage == BStage.SERVICE_ONLY && s.rd (Reg.FLW_CHIP_NSTAT 0) == Status.NOT_YET
  done fpBoot s
    (if s.stage ≠ BStage.FLASH ∧ !only then s
     else
       let plain := s.rd Reg.SYS_STRAP_BOOTSEL == 1
       let s := (s.negotiateChip 0 c0 plain).negotiateChip 1 c1 plain
       if only then s else s.setStage (if s.hostBoot then BStage.HOSTWAIT else BStage.SELECT))

/-! ### Outcomes of a load (R119, R121, R124) -/

/-- BOOT_REASON takes a failure. -/
def State.setReason (s : State) (src : ImgSrc) (reason idx : Nat) : State :=
  ((s.wr Reg.BOOT_REASON_RCOPY src.code).wr Reg.BOOT_REASON_SECIDX idx).wr Reg.BOOT_REASON_REASON reason

/-- The record of a full load that has ended (Table 16-10, code 0x01), and its count (Table 16-11). -/
def State.loadEvent (s : State) : State :=
  (s.logEvent 0x01 ([s.rd Reg.BOOT_STAT_COPY, s.rd Reg.BOOT_STAT_STATUS, s.rd Reg.BOOT_REASON_REASON] ++
    le3 (s.rd Reg.BOOT_SEQ))).countInc 19 1

/-- No copy has passed: SERVICE with no engine loaded, NOIMAGE (R119 step 4). -/
def State.noImage (s : State) : State :=
  (((s.wrB Reg.BOOT_ALERT_NOIMAGE true).setStage BStage.NOIMAGE).serviceOn).loadEvent

/-- A host load ends: the stage returns to HOSTWAIT (R121). -/
def State.hostLoadEnd (s : State) (status : Nat) : State :=
  let s := { s with boot := { s.boot with streamOpen := false, order := [], plan := [] } }
  ((s.wr Reg.BOOT_STAT_STATUS status).setStage BStage.HOSTWAIT).loadEvent

/-- The candidate fails at steps 5 to 7: its reason is recorded, and the status once the load ends with it (R119 step 3, R121,
Table 6-9). -/
def State.candFail (s : State) (src : ImgSrc) (reason idx : Nat) : State :=
  let s := s.setReason src reason idx
  match src with
  | .hostStream => s.hostLoadEnd (reasonStatus reason)
  | _ =>
    let valid := s.boot.hdrA.toList.length + s.boot.hdrB.toList.length
    let s := if s.boot.order.length = valid then s.wrB Reg.BOOT_ALERT_FALLBACK true else s
    let rest := s.boot.order.drop 1
    let s := { s with boot := { s.boot with order := rest, plan := [] } }
    if rest.isEmpty then (s.wr Reg.BOOT_STAT_STATUS (reasonStatus reason)).noImage else s.setStage BStage.VERIFY

/-- The header of the candidate. -/
def State.candHeader (s : State) (src : ImgSrc) : Option Header :=
  match src with
  | .copyA => s.boot.hdrA
  | .copyB => s.boot.hdrB
  | .hostStream => (s.header .hostStream).toOption

/-- The bytes that judging the streamed header takes have arrived: 160, and the section table where HLEN is consistent. -/
def State.streamHeaderIn (s : State) : Bool :=
  let n := s.boot.stream.length
  let nsec := leNat (slice s.boot.stream 12 2)
  Nat.ble 160 n && (Nat.blt 80 nsec || Nat.ble (160 + 48 * nsec) n)

/-! ### Selection and authentication (R118, R119) -/

/-- How the two headers stand: their sequence numbers tell no newer one, and copy A is taken first (R119). -/
def copiesRank (a b : Option Header) : Bool × Bool :=
  let diff := match a, b with | some x, some y => some ((x.seq + 2 ^ 18 - y.seq) % 2 ^ 18) | _, _ => none
  let eq := diff == some 0 || diff == some (2 ^ 17)
  (eq, match diff with | some d => eq || Nat.blt d (2 ^ 17) | none => a.isSome)

/-- BOOT_UPD and BOOT_NEXTSEQ follow the headers last checked: validity, the copy that does not hold the newest valid SEQ, B
where they are equal, and the SEQ after the newest. -/
def State.updShow (s : State) (a b : Option Header) : State :=
  let s := { s with boot := { s.boot with hdrA := a, hdrB := b } }
  let s := (s.wrB Reg.BOOT_UPD_AVALID a.isSome).wrB Reg.BOOT_UPD_BVALID b.isSome
  let (eq, aFirst) := copiesRank a b
  match (if aFirst then a else b) with
  | some h => (s.wrB Reg.BOOT_UPD_NEXTCOPY (eq || aFirst)).wr Reg.BOOT_NEXTSEQ ((h.seq + 1) % 2 ^ 18)
  | none => s.wrB Reg.BOOT_UPD_NEXTCOPY false

/-- Selection among the two copies in flash. An invalid header records its reason (R116); with two invalid ones it is copy A's
(notes/assumptions/97). -/
def State.selectCopies (s : State) : State :=
  let ra := s.header .copyA
  let rb := s.header .copyB
  let a := ra.toOption
  let b := rb.toOption
  let s := match rb with | .error r => s.setReason .copyB r noSection | .ok _ => s
  let s := match ra with | .error r => s.setReason .copyA r noSection | .ok _ => s
  let (eq, aFirst) := copiesRank a b
  let order : List ImgSrc := (if aFirst then [.copyA, .copyB] else [.copyB, .copyA]).filter (fun c =>
    match c with | .copyA => a.isSome | _ => b.isSome)
  let s := s.updShow a b
  let s := ({ s with boot := { s.boot with order := order } }).wrB Reg.BOOT_UPD_EQSEQ eq
  match (if aFirst then a else b) with
  | some h => (if eq then s.logEvent 0x02 ([0, 0] ++ le3 h.seq) else s).setStage BStage.VERIFY
  | none => (s.wr Reg.BOOT_STAT_STATUS Status.CHECK_FAIL).noImage

/-- COPY_SELECTION (R119); in host mode the one header is judged once it has arrived (R121). -/
def execCopySelection (s : State) : Host.Outcome State Fault Refusal :=
  done fpBoot s
    (if s.stage ≠ BStage.SELECT then s
     else if !s.hostBoot then s.selectCopies
     else if !s.streamHeaderIn then s
     else match s.header .hostStream with
       | .ok _ => ({ s with boot := { s.boot with order := [.hostStream] } }).setStage BStage.VERIFY
       | .error r => s.candFail .hostStream r noSection)

/-- COPY_VERIFY: the key hash and the signature of the candidate (R118). -/
def execCopyVerify (s : State) : Host.Outcome State Fault Refusal :=
  done fpBoot s
    (if s.stage ≠ BStage.VERIFY then s
     else match s.boot.order with
       | [] => s
       | src :: _ => match s.candHeader src with
         | none => s
         | some h =>
           let r := s.authentic src h
           if r = 0 then s.setStage BStage.PLAN else s.candFail src r noSection)

/-! ### The plan and its checks (Table 6-1, steps 6 and 7; R120, R122) -/

/-- The section table with its indices. -/
def Header.indexed (h : Header) : List (Nat × SecRec) := (List.range h.secs.length).zip h.secs

/-- Control-class sections and HEADPROF, which step 6 reads. -/
def SecRec.planned (r : SecRec) : Bool :=
  (tableClass r.type == some 0 && r.type < 0x80) || r.type == 0x10

/-- Imaging-class sections of a register type other than HEADPROF. -/
def SecRec.imagingRegs (r : SecRec) : Bool := Nat.ble 0x13 r.type && Nat.ble r.type 0x17

/-- Sections read, each against its digest and its decoding; or the reason and the index of the first failure. -/
def State.readSecs (s : State) (src : ImgSrc) : List (Nat × SecRec) → Except (Nat × Nat) (List (Nat × SecRec × List Byte))
  | [] => .ok []
  | (i, r) :: rest =>
    match s.section src r with
    | .error e => .error (e, i)
    | .ok c => match s.readSecs src rest with
      | .error e => .error e
      | .ok cs => .ok ((i, r, c) :: cs)

/-- The rules of the section table (R120, R8, Table 6-6): the reason and index of the first failure. -/
def State.tableCheck (s : State) : List (Nat × SecRec) → List (Nat × Nat) → Option (Nat × Nat)
  | [], seen =>
    if seen.any (fun x => decide (x = (0x01, 0))) && seen.any (fun x => decide (x = (0x02, 0))) then none
    else some (Reason.SEC_MISSING, noSection)
  | (i, r) :: rest, seen =>
    if 0x80 ≤ r.type then s.tableCheck rest seen
    else if (tableClass r.type).isNone then some (Reason.SEC_UNKNOWN, i)
    else if seen.any (fun x => decide (x = (r.type, r.unit))) then some (Reason.SEC_DUPLICATE, i)
    else if !s.unitPresent r.type r.unit then some (Reason.CAP_RESOURCE, i)
    else s.tableCheck rest ((r.type, r.unit) :: seen)

/-- The section of the other copy that stands in for a failed one: its header valid, R118 passed, the same TYPE, UNIT and
DIGEST (R122). -/
def State.standIn (s : State) (src : ImgSrc) (r : SecRec) : Option (ImgSrc × List Byte) :=
  let other : Option (ImgSrc × Header) := match src with
    | .copyA => s.boot.hdrB.map (fun h => (.copyB, h))
    | .copyB => s.boot.hdrA.map (fun h => (.copyA, h))
    | .hostStream => none
  match other with
  | none => none
  | some (o, h) =>
    if s.authentic o h ≠ 0 then none
    else match h.secs.find? (fun x => x.type == r.type && x.unit == r.unit && decide (x.digest = r.digest)) with
      | none => none
      | some x => match s.section o x with
        | .ok c => some (o, c)
        | .error _ => none

/-- Before: TYPE, then UNIT (R120). -/
def secBefore (a b : Nat × SecRec × List Byte) : Bool :=
  Nat.blt a.2.1.type b.2.1.type || (a.2.1.type == b.2.1.type && Nat.ble a.2.1.unit b.2.1.unit)

def insertSec (x : Nat × SecRec × List Byte) : List (Nat × SecRec × List Byte) → List (Nat × SecRec × List Byte)
  | [] => [x]
  | y :: ys => if secBefore x y then x :: y :: ys else y :: insertSec x ys

def sortSecs (l : List (Nat × SecRec × List Byte)) : List (Nat × SecRec × List Byte) := l.foldr insertSec []

/-- Register sections applied one after another in the order given; the index of the first that fails. An imaging section
that fails is left out: it fails at its own stage (R122). -/
def State.applySecs : List (Nat × SecRec × List Byte) → State → Except Nat State
  | [], s => .ok s
  | (i, r, c) :: rest, s =>
    if r.type = 0x02 then State.applySecs rest s
    else if r.coding = 1 then (if r.imagingRegs then State.applySecs rest s else .error i)
    else match s.loadSection r.type r.unit c with
      | some t => State.applySecs rest t
      | none => if r.imagingRegs then State.applySecs rest s else .error i

/-- A DIRECT section that crosses a 16 MiB boundary of its chip (R341). -/
def State.directCrosses (s : State) (src : ImgSrc) (r : SecRec) : Bool :=
  let a := s.copyBase src + r.offset
  r.type == 0x20 && r.length != 0 && a / 16777216 != (a + r.length - 1) / 16777216

/-- An armed comparator's pin that an AFE slot drives (R305). -/
def State.compClash (s : State) : Bool :=
  s.variant != .slz4860 && (List.range 3).any (fun g => s.rdB (Reg.FAN_GRP_CMPEN g) &&
    s.afeOn.any (fun i => memNat (s.rd (Reg.FAN_GRP_CMPPIN g)) (s.afeDriven i)))

/-- STINC and N of an image: those that its SYSCFG commits, else those in force (R32). -/
def State.imageTick (s : State) : Nat × Nat :=
  match s.tick.pend with | some (a, b) => (a.toNat, b.toNat) | none => (s.stinc, s.ftdiv)

/-- The tables of the ports for which the image has a BUS section. -/
def busTabsOf (secs : List SecRec) (b0 b1 : BusTables) : List (Nat × BusTables) :=
  (if secs.any (fun r => r.type == 0x0B && r.unit == 0) then [(0, b0)] else []) ++
  (if secs.any (fun r => r.type == 0x0B && r.unit == 1) then [(1, b1)] else [])

/-- The registers, tables and entries that a whole image would leave, its own PRIVLOCK flag in force (R220), its checks of R36 to R40 and R34 passed; or the
reason and index of the first failure. -/
def State.tryImage (s : State) (src : ImgSrc) (h : Header) (secs : List (Nat × SecRec × List Byte)) (b0 b1 : BusTables) :
    Except (Nat × Nat) State :=
  let cross := h.indexed.find? (fun x => s.directCrosses src x.2)
  let points := secs.find? (fun x => x.2.1.type == 0x02)
  match s.lacks secs, cross, points with
  | some e, _, _ => .error e
  | none, some x, _ => .error (Reason.SEC_CONTENT, x.1)
  | none, none, none => .error (Reason.SEC_MISSING, noSection)
  | none, none, some (pi, pr, pc) =>
    match (if pr.coding = 1 then none else pointEntries pc) with
    | none => .error (Reason.SEC_CONTENT, pi)
    | some es =>
      let t := { s with boot := { s.boot with entries := es, busTabs := busTabsOf h.secs b0 b1, privImg := h.privlock } }
      match State.applySecs (sortSecs secs) t with
      | .error i => .error (Reason.SEC_CONTENT, i)
      | .ok t =>
        if t.compClash then
          .error (Reason.SEC_CONTENT, (secs.find? (fun x => x.2.1.type == 0x05)).elim noSection (fun x => x.1))
        else
          let p := t.pointsCheck
          if p ≠ 0 then .error (p, noSection)
          else
            let c := t.capacity t.imageTick.1 t.imageTick.2
            if c ≠ 0 then .error (c, noSection) else .ok t

/-- Steps 6 and 7 on the candidate: what the plan holds, with the state that the whole image would leave. -/
def State.planCheck (s : State) (src : ImgSrc) (h : Header) (b0 b1 : BusTables) :
    Except (Nat × Nat) (List (Nat × SecRec × List Byte) × State) :=
  match s.readSecs src (h.indexed.filter (fun x => x.2.planned)) with
  | .error e => .error e
  | .ok ctl =>
    match s.tableCheck h.indexed [] with
    | some e => .error e
    | none =>
      let img := (h.indexed.filter (fun x => x.2.imagingRegs)).filterMap (fun x =>
        match s.section src x.2 with
        | .ok c => some (x.1, x.2, c)
        | .error _ => (s.standIn src x.2).map (fun o => (x.1, x.2, o.2)))
      match s.tryImage src h (ctl ++ img) b0 b1 with
      | .error e => .error e
      | .ok t => .ok (ctl ++ img, t)

/-- The bytes of every section that steps 6 and 7 read have arrived. DESIGN CHOICE: the steps wait for the imaging-class register
sections too, since the checks of step 7 run against the whole image, where R121 says only that they are applied as the bytes
arrive (notes/assumptions/106). -/
def State.planIn (s : State) (h : Header) : Bool :=
  h.secs.all (fun r => !(r.planned || r.imagingRegs) || Nat.ble (r.offset + r.length) s.boot.stream.length)

/-- PLAN_READ: control and HEADPROF sections are read and the checks run against the whole image (Table 6-1, steps 6 and
7). `b0` and `b1` are the tables of the image's BUS sections (notes/assumptions/71). -/
def execPlanRead (b0 b1 : BusTables) (s : State) : Host.Outcome State Fault Refusal :=
  done fpBoot s
    (if s.stage ≠ BStage.PLAN then s
     else match s.boot.order with
       | [] => s
       | src :: _ => match s.candHeader src with
         | none => s
         | some h =>
           if src = .hostStream ∧ !s.planIn h then s
           else match s.planCheck src h b0 b1 with
             | .error (r, i) => s.candFail src r i
             | .ok (secs, t) =>
               let plan := (sortSecs secs).map (fun (x : Nat × SecRec × List Byte) => (x.2.1.type, x.2.1.unit, x.2.2))
               let s := { s with boot := { s.boot with
                 plan := plan
                 entries := t.boot.entries, busTabs := t.boot.busTabs } }
               s.setStage BStage.CONTROL)

/-! ### Bringing engines up (R120, R245, Table 6-1 steps 8 and 10) -/

/-- The domains that switch ON as a section loads (R85): those that hold what the section configures. An ACT section
configures the DAC converters of D27 too (14_actuators.md; notes/assumptions/97). -/
def State.sectionDomains (s : State) (t u : Nat) : List Nat :=
  match t with
  | 0x04 => [27] | 0x05 => [27, 28] | 0x06 => [29] | 0x0B => [29]
  | 0x07 => [25 + u]
  | 0x10 => slices ++ [5 + u] ++ (if s.rdB (Reg.HEAD_LINKCFG_BOND u) then [6 + u] else []) ++
      ((List.range s.variant.heads).map (10 + ·))
  | 0x14 | 0x15 => slices ++ [23]
  | 0x16 => slices ++ [9]
  | 0x17 => [24]
  | _ => []

/-- Domains that a section switches ON; those of fused-off engines stay OFF (R86). -/
def State.domsOn (s : State) (ds : List Nat) : State :=
  ds.foldl (fun s d => if s.domFused d then s else s.setDom d { st := .on, pend := none }) s

/-- The configured slots of a cluster, with nothing kept. A slot that the section no longer configures reads OFF, and has no
status left (R222, R245). -/
def State.loopsLoad (s : State) (c : Nat) : State :=
  let mine := (List.range 256).filterMap (fun i =>
    let l := 256 * c + i
    if s.loopPresent l && s.rdB (Reg.CTL_OUTPT_OUTEN l) then some (l, LoopSt.init) else none)
  let low := s.loops.filter (fun p => Nat.blt p.1 (256 * c))
  let high := s.loops.filter (fun p => Nat.ble (256 * c + 256) p.1)
  let gone := s.loops.filter (fun p => p.1 / 256 == c && !mine.any (fun q => q.1 == p.1))
  let s := gone.foldl (fun s p => (s.wrKey (Reg.CTL_SSTAT_STATE c (p.1 % 256)).key 0).wr (Reg.CTL_SUPSTAT_FECNT p.1) 0) s
  { s with loops := low ++ mine ++ high }

/-- An ACT section takes effect: its channel records, and the comparators that it arms (R306). -/
def State.actLoad (s : State) : State :=
  let arm := fun (g : Nat) (x : GroupSt) =>
    if s.variant != .slz4860 && (s.rdB (Reg.FAN_GRP_CMPEN g) || x.armed.isSome) then
      { x with late := false, armed := some (s.rd (Reg.FAN_GRP_CMPPIN g)) }
    else { x with late := false }
  { s with act := { s.act with
    applied := true, groups := ((s.act.groups.mapFinIdx (fun i x _ => arm i x))) } }

/-- A port's tables as its section gives them; the port then starts with them. -/
def State.portLoad (s : State) (p : Fin 2) : State :=
  match assocGet s.boot.busTabs p.val with
  | some t => s.setPort p { BusSt.init with dev := t.dev, objs := t.objs, trans := t.trans, bauds := t.bauds }
  | none => s

/-- The next frame of the head that a pass processes is a seeding frame (R205). -/
def State.seedHead (s : State) (h : Nat) : State := s.setOcc h (fun o => { o with seedNext := true })

/-- A section of the statistics engine is loaded: no stand has a record since (R202), and OCC makes every head's next frame a
seeding one (R205). -/
def State.statLoad (s : State) (t : Nat) : State :=
  let s := { s with stat := { s.stat with records := [] } }
  if t = 0x15 then (List.range 4).foldl State.seedHead s else s

/-- An engine enters IN_SERVICE with a section that has just been loaded, its registers and points already in force. A
cluster does so at the next ST edge (R128, R245). -/
def State.sectionUp (s : State) (t u : Nat) : State :=
  let s := s.domsOn (s.sectionDomains t u)
  match t with
  | 0x05 => s.actLoad.engineUp .act
  | 0x07 =>
    let s := (s.loopsLoad u).setEng (.ctl (Fin.ofNat 2 u)) stLoading
    { s with boot := { s.boot with clusterIn := s.boot.clusterIn ++ [u] } }
  | 0x08 => s.prfsLoad.engineUp .prf
  | 0x09 => ((List.range 4).foldl (fun s k => s.wr (Reg.TRC_STAT_STATE k) TState.IDLE) s).engineUp .trc
  | 0x0A => s.schedsFresh.engineUp .sched
  | 0x0B => (s.portLoad (Fin.ofNat 2 u)).engineUp (.bus (Fin.ofNat 2 u))
  | 0x14 | 0x15 => (s.statLoad t).engineUp .stat
  | 0x16 => (s.wrB Reg.CLK_STAT_CTXLK true).engineUp .ctx
  | _ => (sectionEngines t u).foldl (fun s e => s.engineUp e) s

/-- CONTROL_STAGE: the control-class sections of the plan are applied in the order of R120, points are assigned, and each
engine enters IN_SERVICE; ALERT_N is released as far as start-up holds it (Table 6-1, step 8). -/
def State.controlStage (s : State) (src : ImgSrc) (h : Header) : State :=
  let secs : List (Nat × SecRec × List Byte) := s.boot.plan.map (fun x =>
    (0, { type := x.1, unit := x.2.1, cls := 0, coding := 0, offset := 0, length := 0, outlen := 0, digest := [] }, x.2.2))
  let whole := match State.applySecs secs s with | .ok t => t | .error _ => s
  let ctl := secs.filter (fun x => Nat.blt x.2.1.type 0x10)
  let s := match State.applySecs ctl s with | .ok t => t | .error _ => s
  let s := { s with points := (whole.assignPoints false).points }
  let s := (s.setClasses 0).setClasses 1
  let s := (s.reportLoad 0).reportLoad 1
  let tk := whole.imageTick
  let c := whole.capCtx tk.1 tk.2
  let s := (s.wr Reg.FAB_LOADS (tenths (whole.sliceShare c (whole.rd Reg.FAB_CFG)))).wr Reg.FAB_LOADW
    (tenths (whole.wramShare c))
  let srcs := ctl.map (fun (x : Nat × SecRec × List Byte) => (x.2.1.type, x.2.1.unit, src))
  let s := { s with boot := { s.boot with
    loading := false, privImg := h.privlock, inForce := some (src, h), clusterIn := [], imaged := false
    secFrom := srcs } }
  let s := ctl.foldl (fun s x => s.sectionUp x.2.1.type x.2.1.unit) s
  let s := ((s.wr Reg.BOOT_STAT_COPY src.code).wr Reg.BOOT_SEQ h.seq).wrB Reg.AGE_REPLAN_AGEFAIL false
  s.setStage BStage.IMAGING

/-- CONTROL_STAGE (R120). -/
def execControlStage (s : State) : Host.Outcome State Fault Refusal :=
  done fpBoot s
    (if s.stage ≠ BStage.CONTROL then s
     else match s.boot.order with
       | [] => s
       | src :: _ => match s.candHeader src with
         | some h => s.controlStage src h
         | none => s)

/-! ### The imaging stage (Table 6-1, steps 10 and 11; R122, R411) -/

/-- The pixels of a placed head before its MAPS and HEADCAL (R411). -/
def Px.fresh : Px := { tmp := 0#18, bkg := 0#18, gn := 0x10000#18, ofs := 0#18, map := 0#18 }

/-- A HEADPROF section takes effect at a full load: the head is placed, and its pixel engines and port come up. -/
def State.headUp (s : State) (h : Nat) : State :=
  let s := s.domsOn (s.sectionDomains 0x10 h)
  let s := (List.range s.variant.heads).foldl (fun s n =>
    if s.eng (.pe (Fin.ofNat 4 n)) = stDown then s.setEng (.pe (Fin.ofNat 4 n)) stInService else s) s
  let s := s.setHead h (fun _ => { HeadSt.init with px := List.replicate (s.headPixels h) Px.fresh, filtReset := true })
  let s := s.seedHead h
  (((s.setShut h (fun _ => ShutHead.init)).ringFit h).pspOwn h 10).engineUp (Engine.ofHead h)

/-- The section's source is recorded (R125). -/
def State.recordSource (s : State) (t u : Nat) (src : ImgSrc) : State :=
  { s with boot := { s.boot with
    secFrom := s.boot.secFrom.filter (fun x => !(x.1 == t && x.2.1 == u)) ++ [(t, u, src)] } }

/-- An imaging-class section that neither copy gives: its engine stays DOWN, and SECDOWN is set (R122). -/
def State.sectionDown (s : State) (t u : Nat) : State :=
  let s := s.wrB Reg.BOOT_ALERT_SECDOWN true
  match t with
  | 0x10 => s.portDown u
  | 0x11 => s.portDown u
  | 0x12 => s.portDown (u / 4)
  | _ => (sectionEngines t u).foldl (fun s e => s.setEng e stDown) s

/-- The content of an imaging section applied: planes, or registers with the engine brought up. `failed` names the engines
that stay DOWN. -/
def State.imagingApply (s : State) (r : SecRec) (c : List Byte) (failed : List Engine) : Option State :=
  if r.type = 0x11 ∨ r.type = 0x12 then
    if r.coding ≠ 1 then none
    else match decodePlanes (c.length + 1) c with
      | none => none
      | some ps => if r.type = 0x11 then s.loadMaps r.unit ps else s.loadCal (r.unit / 4) (r.unit % 4) ps
  else if r.coding = 1 then none
  else match s.loadSection r.type r.unit c with
    | none => none
    | some s =>
      if (sectionEngines r.type r.unit).any (fun e => failed.any (fun x => decide (x = e))) then some s
      else some (s.sectionUp r.type r.unit)

/-- One imaging section (R122): from the copy taken, else from the other one, else its engine stays DOWN. -/
def State.imagingSection (src : ImgSrc) (acc : State × List Engine) (x : Nat × SecRec) : State × List Engine :=
  let (s, failed) := acc
  let r := x.2
  let fail := fun (s : State) => (s.sectionDown r.type r.unit, failed ++ sectionEngines r.type r.unit)
  let use := fun (s : State) (o : ImgSrc) (c : List Byte) =>
    match s.imagingApply r c failed with
    | some t => (t.recordSource r.type r.unit o, failed)
    | none => fail (s.setReason src Reason.SEC_CONTENT x.1)
  match s.section src r with
  | .ok c => use s src c
  | .error e =>
    let s := s.setReason src e x.1
    match s.standIn src r with
    | some (o, c) => use s o c
    | none => fail s

/-- The imaging stage: HEADPROF first, then the other imaging sections in the order of R120. -/
def State.imagingStage (s : State) (src : ImgSrc) (h : Header) : State :=
  let profs := s.boot.plan.filter (fun x => x.1 == 0x10)
  let s := profs.foldl (fun s x =>
    match s.loadSection 0x10 x.2.1 x.2.2 with
    | some t => (t.headUp x.2.1).recordSource 0x10 x.2.1 src
    | none => s) s
  let rest := sortSecs ((h.indexed.filter (fun x => tableClass x.2.type == some 1 && x.2.type != 0x10)).map
    (fun x => (x.1, x.2, [])))
  let s := ((rest.map (fun x => (x.1, x.2.1))).foldl (State.imagingSection src) (s, [])).1
  let s := { s with boot := { s.boot with imaged := true, plan := [] } }
  let s := s.wr Reg.BOOT_STAT_STATUS
    (if s.rdB Reg.BOOT_UPD_EQSEQ && src != .hostStream then Status.EQUAL_SEQ else Status.OK)
  (s.loadEvent).bootRun

/-- IMAGING_STAGE (Table 6-1, steps 10 and 11); in host mode once the whole image has arrived. -/
def execImagingStage (s : State) : Host.Outcome State Fault Refusal :=
  done fpBoot s
    (if s.stage ≠ BStage.IMAGING ∨ s.boot.imaged then s
     else match s.boot.inForce with
       | some (src, h) =>
         if src = .hostStream ∧ s.boot.stream.length < h.total then s
         else
           let s := s.imagingStage src h
           if src = .hostStream then { s with boot := { s.boot with streamOpen := false } } else s
       | none => s)

/-- BOOT_ALERT_CLEAR: writing 1 to FALLBACK or SECDOWN clears it (R123). -/
def execBootAlertClear (v : Word) (s : State) : Host.Outcome State Fault Refusal :=
  let st := s.gate .boot false
  let w := v.toNat
  done { regs := [Blk.range .boot], parts := [] } s
    ((if st = Status.OK then
      (let s := if bitsOf w 2 2 = 1 then s.wrB Reg.BOOT_ALERT_SECDOWN false else s
       if bitsOf w 1 1 = 1 then s.wrB Reg.BOOT_ALERT_FALLBACK false else s)
      else s).result .boot 0x009 st)

end Sys2Proof.Machine
end

