-- ==== Sys2Proof/Machine/Reload.lean ====
section
/-! DEFINITION. Partial reload of one section (R125 to R129), and the commands of the host's image stream (R121, R126). -/

namespace Sys2Proof.Machine
open Sys2Proof

def State.setRl (s : State) (n : Nat) : State := s.wr Reg.BOOT_RLCTL_RLSTAGE n

/-! ### Start and end of a reload (R125) -/

/-- A source's code of BOOT_RLSEL. -/
def imgSrcOf (n : Nat) : ImgSrc := match n with | 0 => .copyA | 1 => .copyB | _ => .hostStream

/-- The record of a reload that has ended (Table 16-10, code 0x03), its count, and its interrupt. -/
def State.reloadEvent (s : State) (t u src status reason : Nat) : State :=
  ((s.logEvent 0x03 [t, u, src, status, reason]).countInc 20 1).irq 7

/-- A reload ends with a status and a reason (0: none). -/
def State.reloadEnd (s : State) (t u : Nat) (src : ImgSrc) (status reason idx : Nat) : State :=
  let s := if reason = 0 then s else s.setReason src reason idx
  let s := (s.wr Reg.BOOT_RLCTL_RLSTATUS status).setRl RStage.IDLE
  let s := { s with boot := { s.boot with reload := none, reloadData := [], reloadFail := none } }
  s.reloadEvent t u src.code status reason

/-- Types that Table 6-5 marks reloadable; one outside the table is not (notes/assumptions/88). -/
def reloadable (t : Nat) : Bool := (tableClass t).isSome && !memNat t [0x01, 0x02, 0x03, 0x20]

/-- The domain of a reloadable section's owner. -/
def ownerDomain (t u : Nat) : Option Nat :=
  match t with
  | 0x04 => some 27 | 0x05 => some 28 | 0x06 | 0x0B => some 29
  | 0x07 => some (25 + u)
  | 0x10 | 0x11 => some (5 + u)
  | 0x12 => some (5 + u / 4)
  | 0x14 | 0x15 => some 23
  | 0x16 => some 9
  | 0x17 => some 24
  | _ => none

/-- Checks 1 to 4 of R125: the status and the reason. -/
def State.reloadFirst (s : State) (t u : Nat) (src : ImgSrc) : Nat × Nat :=
  let e := (sectionEngines t u).headD .boot
  let off := match ownerDomain t u with | some d => decide ((s.dom d).st = .off) | none => false
  if s.stage ≠ BStage.RUN ∨ s.service then (Status.ILLEGAL_STATE, 0)
  else if s.boot.reload.isSome then (Status.BUSY, 0)
  else if !reloadable t ∨ (src = .hostStream ∧ (tableClass t = some 1 ∨ s.rd Reg.BOOT_STAT_COPY ≠ 2)) then
    (Status.REFUSED, Reason.NOT_RELOADABLE)
  else if !s.unitPresent t u then (Status.REFUSED, Reason.CAP_RESOURCE)
  else if (s.eng e ≠ stInService ∧ s.eng e ≠ stDown) ∨ off = true then (Status.ILLEGAL_STATE, 0)
  else (Status.OK, 0)

def fpReload : Footprint := { fpBoot with parts := fpBoot.parts ++ [.rtc] }

/-- RELOAD_START: a START in BOOT_RLCTL (R125). A locked BOOT rejects it without a request; a BUSY one leaves the reload in
progress as it is (notes/assumptions/88). -/
def execReloadStart (s : State) : Host.Outcome State Fault Refusal :=
  let g := s.gate .boot true
  let t := s.rd Reg.BOOT_RLSEL_TYPE
  let u := s.rd Reg.BOOT_RLSEL_UNIT
  let src := imgSrcOf (s.rd Reg.BOOT_RLSEL_SRC)
  let r := s.reloadFirst t u src
  done fpReload s
    (if g ≠ Status.OK then s.result .boot 0x006 g
     else if r.1 = Status.OK then
       (({ s with boot := { s.boot with
         reload := some (t, u, src), reloadData := [], reloadFail := none
         streamOpen := s.boot.streamOpen && decide (src ≠ ImgSrc.hostStream) } }).setRl
         RStage.VERIFY).result .boot 0x006 Status.OK
     else if s.boot.reload.isSome then s.result .boot 0x006 r.1
     else (s.reloadEnd t u src r.1 r.2 noSection).result .boot 0x006 r.1)

/-! ### Checks 5 to 10 (R125, R127) -/

/-- Copy x is older than the SEQ of the last full load (R119). -/
def State.olderCopy (s : State) (h : Header) : Bool :=
  let d := (s.rd Reg.BOOT_SEQ + 2 ^ 18 - h.seq) % 2 ^ 18
  Nat.ble 1 d && Nat.blt d (2 ^ 17)

/-- Words of a section's runs. -/
def runCount (content : List Byte) : Nat := (sectionNames content).length

/-- The outage that R127 estimates for a cluster, in ST periods. -/
def State.outage (s : State) (words : Nat) : Nat :=
  1 + ((stRate s.stinc).mul ⟨words, 187500000⟩).ceil + 1

/-- The tables of a port as a section under reload gives them, beside those of the other port. -/
def State.withTabs (s : State) (t u : Nat) (b : BusTables) : State :=
  if t = 0x0B then { s with boot := { s.boot with busTabs := s.boot.busTabs.filter (fun p => p.1 != u) ++ [(u, b)] } } else s

/-- Check 9: the image in force with the section replaced, as registers and tables; the reason of the first failure. Words that
break R117 fail later, in LOADING, where they are written. -/
def State.reloadTry (s : State) (i : Nat) (r : SecRec) (content : List Byte) (b : BusTables) : Option (Nat × Nat) :=
  match s.lacks [(i, r, content)] with
  | some e => some (e.1, i)
  | none =>
    let x := if registerType r.type then (s.withTabs r.type r.unit b).loadPart r.type r.unit content else s
    if x.compClash then some (Reason.SEC_CONTENT, i)
    else
      let p := x.pointsCheck
      if p ≠ 0 then some (p, i)
      else
        let c := x.capacity x.stinc x.ftdiv
        if c ≠ 0 then some (c, i) else none

/-- Bytes of control-class sections kept in working RAM: at most 256 KiB (R125 check 8). -/
abbrev reloadRoom : Nat := 262144

/-- Checks 5 to 10: the index of the section and its decoded content (empty for planes), or the reason and index of the
failure. DESIGN CHOICE: a control-class section above 256 KiB, for which check 8 gives the limit and no outcome, fails it with
CHECK_FAIL and SEC_CONTENT (notes/assumptions/107). -/
def State.reloadChecks (s : State) (t u : Nat) (src : ImgSrc) (b : BusTables) : Except (Nat × Nat) (Nat × List Byte) :=
  match s.header src with
  | .error r => .error (r, noSection)
  | .ok h =>
    let a := s.authentic src h
    if a ≠ 0 then .error (a, noSection)
    else if src ≠ .hostStream ∧ s.olderCopy h then .error (Reason.OLDER_COPY, noSection)
    else match h.indexed.find? (fun x => x.2.type == t && x.2.unit == u) with
      | none => .error (Reason.SEC_MISSING, noSection)
      | some (i, r) =>
        let stored := s.imgBytes src r.offset r.length
        if sha256 stored ≠ r.digest then .error (Reason.DIGEST, i)
        else if r.cls = 0 ∧ reloadRoom < max r.length r.outlen then .error (Reason.SEC_CONTENT, i)
        else
          match (if registerType t then (if r.coding = 1 then some [] else r.decode stored) else some []) with
          | none => .error (Reason.DECODE, i)
          | some c => match s.reloadTry i r c b with
            | some e => .error e
            | none => if t = 0x07 ∧ 64 < s.outage (runCount c) then .error (Reason.LIVE_GAP, i) else .ok (i, c)

/-- A reload's check of a flash header brings BOOT_UPD and BOOT_NEXTSEQ up to date (Tables 6-8, 6-12). -/
def State.headerChecked (s : State) (src : ImgSrc) : State :=
  match src with
  | .copyA => s.updShow (s.header .copyA).toOption s.boot.hdrB
  | .copyB => s.updShow s.boot.hdrA (s.header .copyB).toOption
  | .hostStream => s

/-- The streamed bytes that the checks of a reload need have arrived: the header, and the section where it is listed. -/
def State.reloadIn (s : State) (t u : Nat) : Bool :=
  s.streamHeaderIn && (match s.header .hostStream with
    | .error _ => true
    | .ok h => match h.secs.find? (fun r => r.type == t && r.unit == u) with
      | none => true
      | some r => Nat.ble (r.offset + r.length) s.boot.stream.length)

/-- The owner of a verified section leaves service: a cluster at the next ST edge, any other engine at once; one that is
DOWN goes to LOADING (Table 2-9). A recalibration of a port that leaves IN_SERVICE ends (Table 9-2). -/
def State.reloadDrain (s : State) (t u : Nat) : State :=
  if t = 0x07 then s.setRl RStage.CHECK
  else
    (sectionEngines t u).foldl (fun s e =>
      if s.eng e = stDown then ((s.setEng e stLoading).holdEngine e).setRl RStage.LOADING
      else
        let s := (s.enterDrain e).setRl RStage.DRAIN
        match e with | .head h => s.shutDrop h.val | _ => s) s

/-- RELOAD_CHECKS_DONE: checks 5 to 10 (R125). `b` holds the tables of a BUS section (notes/assumptions/71). -/
def execReloadChecksDone (b : BusTables) (s : State) : Host.Outcome State Fault Refusal :=
  done fpReload s
    (match s.boot.reload with
     | none => s
     | some (t, u, src) =>
       if s.rlStage ≠ RStage.VERIFY ∨
           (if src = .hostStream then !(s.boot.streamOpen && s.reloadIn t u) else s.chipBusy 0) then s
       else
         let c := s.reloadChecks t u src b
         let s := s.headerChecked src
         match c with
         | .error (r, i) => s.reloadEnd t u src (reasonStatus r) r i
         | .ok (i, c) =>
           ({ s with boot := { s.boot with reloadData := c, reloadTabs := some b, reloadIdx := i } }).reloadDrain t u)

/-- CLUSTER_RELOAD_DRAIN: at the ST edge the cluster leaves service; no evaluation is in flight, and LOADING begins (R128,
Table 6-8 step 5). -/
def execClusterReloadDrain (s : State) : Host.Outcome State Fault Refusal :=
  done fpReload s
    (match s.boot.reload with
     | some (0x07, u, _) =>
       if s.rlStage = RStage.CHECK then
         (let e : Engine := .ctl (Fin.ofNat 2 u)
          (((s.clusterLeave (u % 2)).setEng e stLoading).holdEngine e).setRl RStage.LOADING)
       else s
     | _ => s)

/-! ### Loading (R125, R126, R128, R129) -/

/-- Pixels whose content a lost or newly placed store leaves open (notes/assumptions/1). -/
def State.pxFree (s : State) (h : Nat) : State :=
  if (s.head h).px.length = s.headPixels h then s
  else
    let k := s.freeCtr
    let w := fun (i : Nat) => Config.freeWord i k
    let px : List Px := (List.range (s.headPixels h)).map (fun i =>
      { tmp := w (5 * i), bkg := w (5 * i + 1), gn := w (5 * i + 2), ofs := w (5 * i + 3), map := w (5 * i + 4) })
    ({ s with freeCtr := k + 1 }).setHead h (fun x => { x with px := px })

/-- The planes of a reloaded MAPS or HEADCAL section; an OFS plane cancels a pending finalization (R181). -/
def State.reloadPlanes (s : State) (t u : Nat) (content : List Byte) : Option State :=
  let h := if t = 0x11 then u else u / 4
  match decodePlanes (content.length + 1) content with
  | none => none
  | some ps =>
    let s := s.pxFree h
    if t = 0x11 then s.loadMaps h ps
    else (s.loadCal h (u % 4) ps).map (fun s =>
      (if hasOfs ps then s.setShut h (fun x => { x with final := none }) else s).curSync h)

/-- The owner returns to service with what its registers now hold (Table 2-9, R129). -/
def State.reloadUp (s : State) (t u : Nat) : State :=
  let s := s.assignPoints true
  let s := if t = 0x07 then s.setClasses u else s
  let s := s.reportShares s.stinc s.ftdiv
  let s := if t = 0x07 then s.reportLoad u else s
  match t with
  | 0x10 =>
    let s := ((s.pxFree u).ringFit u).seedHead u
    let e := Engine.ofHead u
    -- a bond keeps the odd port's domain ON together with its own (R131)
    let s := if s.rdB (Reg.HEAD_LINKCFG_BOND u) then s.domsOn [6 + u] else s
    if (s.head u).svc then
      ((s.setEng e stInService).setHead u (fun x => { x with
        neg := some .pending, attempt := 0, reneg := true, dropUntil := true, filtReset := true })).pspOwn u 10
    else (s.pspOwn u 10).engineUp e
  | 0x11 | 0x12 =>
    let h := if t = 0x11 then u else u / 4
    let e := Engine.ofHead h
    let s := s.seedHead h
    if (s.head h).svc then
      (s.setEng e stInService).setHead h (fun x => { x with dropUntil := false, filtReset := true })
    else s.engineUp e
  -- D27, where the host has switched it OFF, stays so
  | 0x05 => (s.domsOn [28]).actLoad.engineUp .act
  | _ => s.sectionUp t u

/-- The section under reload, with its registers or planes written; or the reason of its failure. An imaging section is read
a second time (R125). -/
def State.reloadWrite (s : State) (t u : Nat) (src : ImgSrc) : Except Nat State :=
  let s := match s.boot.reloadTabs with | some b => s.withTabs t u b | none => s
  if tableClass t = some 0 then
    (match s.loadSection t u s.boot.reloadData with | some x => .ok x | none => .error Reason.SEC_CONTENT)
  else match s.header src with
    | .error r => .error r
    | .ok h => match h.secs.find? (fun r => r.type == t && r.unit == u) with
      | none => .error Reason.SEC_MISSING
      | some r => match s.section src r with
        | .error e => .error e
        | .ok c =>
          (match (if registerType t then (if r.coding = 1 then none else s.loadSection t u c)
              else if r.coding = 1 then s.reloadPlanes t u c else none) with
           | some x => .ok x
           | none => .error Reason.SEC_CONTENT)

/-- The previous section is written again: from the copy that it came from, where that copy still gives it; else the
register shadow and the pixel store stand as they are (Table 2-9, R126; notes/assumptions/88). -/
def State.reloadRestore (s : State) (t u : Nat) : State :=
  match s.boot.secFrom.find? (fun x => x.1 == t && x.2.1 == u) with
  | none => s
  | some (_, _, src) =>
    if src = .hostStream then s
    else match s.header src with
      | .error _ => s
      | .ok h => match h.secs.find? (fun r => r.type == t && r.unit == u) with
        | none => s
        | some r => match s.section src r with
          | .error _ => s
          | .ok c =>
            ((if registerType t then (if r.coding = 1 then none else s.loadSection t u c)
              else if r.coding = 1 then s.reloadPlanes t u c else none)).getD s

/-- A reload whose owner is back in service ends; the owner's blocks record a restored section (Table 2-9). -/
def State.reloadFinish (s : State) (t u : Nat) (src : ImgSrc) : State :=
  match s.boot.reloadFail with
  | none => (s.recordSource t u src).reloadEnd t u src Status.OK 0 noSection
  | some r =>
    let s := (sectionBlocks t u).foldl (fun s b => s.wr b.statusFld (reasonStatus r)) s
    s.reloadEnd t u src (reasonStatus r) r s.boot.reloadIdx

/-- The reload is under way in LOADING or RESTORE, the flash that it reads is not programming (R341), and where it writes the
words of a head, no burst, statistics pass or resident run of that head is running, nor a job where it decodes planes (R153,
R360, R364). -/
def State.loaderRuns (s : State) (t u : Nat) (src : ImgSrc) : Bool :=
  (s.rlStage == RStage.LOADING || s.rlStage == RStage.RESTORE) && !memNat u s.boot.clusterIn &&
  (!s.chipBusy 0 || (s.rlStage == RStage.LOADING && (tableClass t == some 0 || decide (src = .hostStream)))) &&
  (match t with
   | 0x10 => !s.pxBusy u
   | 0x11 => !s.pxBusy u && s.cmp.running.isNone
   | 0x12 => !s.pxBusy (u / 4) && s.cmp.running.isNone
   | _ => true)

/-- RELOAD_LOAD_DONE: in LOADING, the section is written and verified (`ok`: the written words read back as they should), or it
fails and RESTORE begins; in RESTORE, the previous section is back. Then the owner returns to service, a cluster at the next ST
edge (R125, R128, Table 6-15). -/
def execReloadLoadDone (ok : Bool) (s : State) : Host.Outcome State Fault Refusal :=
  done fpReload s
    (match s.boot.reload with
     | none => s
     | some (t, u, src) =>
       if !s.loaderRuns t u src then s
       else
         let up := fun (s : State) => let s := s.reloadUp t u; if t = 0x07 then s else s.reloadFinish t u src
         let fail := fun (r : Nat) => ({ s with boot := { s.boot with reloadFail := some r } }).setRl RStage.RESTORE
         if s.rlStage = RStage.RESTORE then up (s.reloadRestore t u)
         else match s.reloadWrite t u src, ok with
           | .ok x, true => up x
           | .ok _, false => fail Reason.SEC_CONTENT
           | .error r, _ => fail r)

/-- CLUSTER_RETURN: at the first ST edge after its section is verified a cluster enters IN_SERVICE, and every slot takes its
INIT state (R128, R245). -/
def execClusterReturn (s : State) : Host.Outcome State Fault Refusal :=
  done fpReload s
    (let cs := s.boot.clusterIn
     let s := { s with boot := { s.boot with clusterIn := [] } }
     let s := cs.foldl (fun s c => s.engineUp (.ctl (Fin.ofNat 2 c))) s
     match s.boot.reload with
     | some (0x07, u, src) => if memNat u cs then s.reloadFinish 0x07 u src else s
     | _ => s)

/-! ### The host's stream (R121, R126) -/

/-- A full load from the host is in progress: from an accepted BEGIN to its end. -/
def State.hostLoading (s : State) : Bool :=
  s.hostBoot && Nat.ble BStage.SELECT s.stage && Nat.ble s.stage BStage.IMAGING && s.boot.streamOpen

/-- A reload from the stream that has not yet reached DRAIN. -/
def State.streamReload (s : State) : Bool :=
  match s.boot.reload with
  | some (_, _, .hostStream) => Nat.ble s.rlStage RStage.CHECK
  | _ => false

/-- A reload that waits for its stream. -/
def State.reloadWaits (s : State) : Bool := s.streamReload && !s.boot.streamOpen

/-- A streamed reload ends before DRAIN; what follows of its stream is discarded. -/
def State.streamReloadEnd (s : State) (status reason : Nat) : State :=
  match s.boot.reload with
  | some (t, u, src) => s.reloadEnd t u src status reason noSection
  | none => s

/-- HOST_BEGIN: in HOSTWAIT, or while a reload waits for its stream (R121, R126, Table 6-16). -/
def execHostBegin (s : State) : Host.Outcome State Fault Refusal :=
  let g := s.gate .boot true
  let st := if g ≠ Status.OK then g
    else if s.stage = BStage.HOSTWAIT ∨ s.reloadWaits then Status.OK else Status.ILLEGAL_STATE
  done fpReload s
    ((if st ≠ Status.OK then s
      else
        let s := { s with boot := { s.boot with stream := [], streamOpen := true } }
        let s := if s.stage = BStage.HOSTWAIT then { s with boot := { s.boot with imaged := false } } else s
        let s := (s.wr Reg.BOOT_HCNT 0).wr Reg.BOOT_HCTL_HFREE 0x800
        if s.stage = BStage.HOSTWAIT then s.setStage BStage.SELECT else s).result .boot 0x007 st)

/-- A gap or a CANCEL ends what the stream serves (R121, R126). -/
def State.streamStop (s : State) : State :=
  if s.hostLoading then (s.setReason .hostStream Reason.HOST_TIMEOUT noSection).hostLoadEnd Status.TIMEOUT
  else
    let s := if s.streamReload then s.streamReloadEnd Status.TIMEOUT Reason.HOST_TIMEOUT else s
    { s with boot := { s.boot with streamOpen := false } }

/-- A reload from the stream waits for it, receives it or has it behind it while bytes still come. -/
def State.reloadStreams (s : State) : Bool :=
  match s.boot.reload with
  | some (_, _, .hostStream) => s.streamReload || s.boot.streamOpen
  | _ => false

/-- HOST_CANCEL (R121, R126, Table 6-16). -/
def execHostCancel (s : State) : Host.Outcome State Fault Refusal :=
  let g := s.gate .boot true
  let st := if g ≠ Status.OK then g
    else if s.hostLoading || s.reloadStreams then Status.OK else Status.ILLEGAL_STATE
  done fpReload s ((if st = Status.OK then s.streamStop else s).result .boot 0x007 st)

/-- The whole image has arrived. -/
def State.streamFull (s : State) : Bool :=
  match s.header .hostStream with
  | .ok h => Nat.ble h.total s.boot.stream.length
  | .error _ => false

/-- A word of the stream: two bytes appended, or, at HFREE = 0, the load ends with OVERRUN. Bytes beyond TOTAL are ignored.
How far the loader has emptied the buffer meanwhile is open (R121; notes/assumptions/1). -/
def State.streamWord (s : State) (v : Word) : State :=
  if !s.boot.streamOpen || s.streamFull then s
  else if s.rd Reg.BOOT_HCTL_HFREE = 0 then
    (if s.hostLoading then s.hostLoadEnd Status.OVERRUN
     else
       let s := if s.streamReload then s.streamReloadEnd Status.OVERRUN 0 else s
       { s with boot := { s.boot with streamOpen := false } })
  else
    let two : List Byte := [BitVec.ofNat 8 v.toNat, BitVec.ofNat 8 (v.toNat / 256)]
    let (k, s) := s.freeN
    let bytes := s.boot.stream ++ two
    let s := { s with boot := { s.boot with stream := bytes } }
    let used := 0x800 - (s.rd Reg.BOOT_HCTL_HFREE - 1)
    (s.wr Reg.BOOT_HCTL_HFREE (0x800 - used + k % (used + 1))).wr Reg.BOOT_HCNT
      (min (2 ^ 18 - 1) (bytes.length / 256))

/-- HOST_STREAM_WRITE (R121). -/
def execHostStreamWrite (v : Word) (s : State) : Host.Outcome State Fault Refusal :=
  done fpReload s (if s.gate .boot false = Status.OK then s.streamWord v else s)

/-- HOST_STREAM_TIMEOUT: more than 1 s without a write while bytes are awaited (R121, R126). -/
def execHostStreamTimeout (s : State) : Host.Outcome State Fault Refusal :=
  done fpReload s
    (if (s.hostLoading && !s.streamFull) || s.reloadWaits || (s.boot.streamOpen && s.boot.reload.isSome && !s.streamFull) ||
        (s.boot.streamOpen && !s.hostLoading && s.boot.reload.isNone) then s.streamStop
     else s)

end Sys2Proof.Machine
end

