-- ==== Sys2Proof/Machine/ValveCmds.lean ====
section
/-! DEFINITION. The events and commands of the valve channels (R307 to R313), with what they mean to a recalibration
(R170, R175). -/

namespace Sys2Proof.Machine
open Sys2Proof

def fpValve : Footprint :=
  { regs := [Blk.range .vlv, Blk.range .shut, Blk.range .tally, Blk.range .cmp, (0x2006, 0x2007), (0x4000, 0x5000),
             (0x3000, 0x4000)]
    parts := [.act, .shut, .heads, .tally, .cmp, .points, .freeCtr] }

/-- VALVE_CYCLE_START: the time-proportional cycle of a channel is over and a new one takes its duty (R312). An ST edge
does so itself for every channel (notes/assumptions/42). -/
def execValveCycleStart (v : Fin 8) (s : State) : Host.Outcome State Fault Refusal :=
  let x := s.valve v.val
  done fpValve s
    (if s.rd (Reg.VLV_CFG_MODE v.val) = 1 ∧ Nat.ble x.cycLen (x.cyc + 1) then (s.valveSample s.now v.val).shutWatch
     else s)

/-- VALVE_LEAD_EXPIRY: LEAD after the switch rose, VG of the granted channel turns on (R309). -/
def execValveLeadExpiry (v : Fin 8) (s : State) : Host.Outcome State Fault Refusal :=
  let x := s.valve v.val
  done fpValve s
    (match x.leadUntil with
     | some t => if s.vstate v.val = VState.PEAK ∧ x.vgAt.isNone then s.valveVg v.val t else s
     | none => s)

/-- VALVE_IPK_REACHED: VS first reaches IPK at `t` ns (R307, R308). -/
def execValveIpkReached (v : Fin 8) (t : Nat) (s : State) : Host.Outcome State Fault Refusal :=
  done fpValve s (s.valveIpk v.val t).shutWatch

/-- VALVE_PEAK_END: TPK or TPKMAX ends the peak at `t` ns (R307, R308). -/
def execValvePeakEnd (v : Fin 8) (t : Nat) (halfSeen : Bool) (s : State) : Host.Outcome State Fault Refusal :=
  done fpValve s (s.valvePeakEnd v.val t halfSeen).shutWatch

/-- A channel chops: in HOLD, or in its peak once VS has reached IPK (R307). -/
def State.chops (s : State) (v : Nat) : Bool :=
  s.vstate v == VState.HOLD || (s.vstate v == VState.PEAK && (s.valve v).ipkAt.isSome)

/-- VALVE_CHOP_PERIOD: VG turns on if it has been off for TOFFMIN µs; the hold phase counts the period (R307). How long VG
has been off at the first period of a peak is open (notes/assumptions/1). -/
def execValveChopPeriod (v : Fin 8) (s : State) : Host.Outcome State Fault Refusal :=
  let v := v.val
  done fpValve s
    (if !s.chops v then s
     else
       let x := s.valve v
       let full := x.vg && x.periods != 0
       let (on, s) := if x.vg then (true, s)
         else match x.offNs with
           | some o => (Nat.ble (1000 * s.rd (Reg.VLV_CHOP_TOFFMIN v)) o, s)
           | none => s.freeB
       let hold := s.vstate v == VState.HOLD
       s.setValve v (fun x => { x with
         vg := on, offNs := if on then some 0 else x.offNs.map (· + s.chopNs v)
         onSum := x.onSum + if hold && full then s.chopNs v else 0
         periods := if hold then x.periods + 1 else 0 }))

/-- VALVE_CHOP_OFF: `onNs` after its turn-on VS reaches the threshold and VG turns off; the first 500 ns are ignored
(R307). -/
def execValveChopOff (v : Fin 8) (onNs : Nat) (s : State) : Host.Outcome State Fault Refusal :=
  let v := v.val
  done fpValve s
    (if s.chops v && (s.valve v).vg && Nat.ble 500 onNs then
      s.setValve v (fun x => { x with
        vg := false, offNs := some (s.chopNs v - onNs)
        onSum := x.onSum + if s.vstate v = VState.HOLD ∧ x.periods ≠ 0 then onNs else 0 })
     else s)

/-- VALVE_CLEAR: a CLEAR command names channel CH (R308, Table 14-30). -/
def execValveClear (v : Fin 8) (s : State) : Host.Outcome State Fault Refusal :=
  let g := s.gate .vlv true
  let st := if g ≠ Status.OK then g
    else if s.vstate v.val = VState.FAULT then Status.OK else Status.ILLEGAL_STATE
  let t := if st = Status.OK then
      (((s.wr Reg.VLV_CMD_CH v.val).setVstate v.val VState.OFF).wr (Reg.VLV_STAT_FCAUSE v.val) 0)
    else s
  done fpValve s (t.answer .vlv 0x202 (some Reg.VLV_CMD_CSTAT) st)

end Sys2Proof.Machine
end

