-- ==== Sys2Proof/Machine/Fuses.lean ====
section
/-! DEFINITION. Fuses (R390 to R392) and the JTAG port (R393). -/

namespace Sys2Proof.Machine
open Sys2Proof

/-! ### The console's answer (R387) -/

/-- A console command ends: its data lines and its final status. -/
def State.say (s : State) (lines : List ConLine) (st : Nat) : State :=
  ({ s with svc := { s.svc with lines := lines } }).wr Reg.SVC_STAT_LAST st

/-! ### Programming (R392) -/

def fpFuse : Footprint := { regs := [Blk.range .fuse, Blk.range .svc], parts := [.fuses, .svc, .freeCtr] }

/-- Fuse bits programmed to 1, kept rising; none is ever cleared (R390). -/
def fuseInsert (b : Nat) : List Nat → List Nat
  | [] => [b]
  | x :: xs => if b < x then b :: x :: xs else if b = x then x :: xs else x :: fuseInsert b xs

def fuseProgram (old : List Nat) (bits : List Nat) : List Nat := bits.foldl (fun l b => fuseInsert b l) old

/-- The conditions of every form of LOCK: SERVICE, Tj from 0 to 85 °C. -/
def State.lockGate (s : State) : Nat :=
  if s.therm.tripped then Status.DOWN
  else if !s.service then Status.ILLEGAL_STATE
  else match s.tj with
    | some (t, _, _) => if 0 ≤ t ∧ t ≤ 1360 then Status.OK else Status.ILLEGAL_STATE
    | none => Status.ILLEGAL_STATE

/-- Bits are programmed and each read back; where one does not read back, which of them hold is open
(notes/assumptions/1). -/
def State.burn (s : State) (bits : List Nat) (readBack : Bool) : State :=
  if readBack then { s with fuses := fuseProgram s.fuses bits }
  else
    let k := s.freeCtr
    { s with fuses := fuseProgram s.fuses (bits.filter (fun b => (Config.freeByte k b).toNat % 2 == 1)), freeCtr := k + 1 }

/-- The outcome of a LOCK, in PSTAT and on the console; DOWN, the answer of a tripped device, is no outcome of PSTAT
(Table 18-30). -/
def State.lockAnswer (s : State) (st : Nat) : State :=
  (if st = Status.DOWN then s else s.wr Reg.FUSE_STAT_PSTAT st).say [] st

/-- LOCK DBG and LOCK PRIV: the four bits of a field. -/
def State.lockField (s : State) (lo : Nat) (readBack : Bool) : State :=
  let g := s.lockGate
  if g ≠ Status.OK then s.lockAnswer g
  else (s.burn [lo, lo + 1, lo + 2, lo + 3] readBack).lockAnswer (if readBack then Status.OK else Status.CHECK_FAIL)

/-- LOCK_DBG (R392). -/
def execLockDbg (readBack : Bool) (s : State) : Host.Outcome State Fault Refusal := done fpFuse s (s.lockField 8 readBack)

/-- LOCK_PRIV (R392). -/
def execLockPriv (readBack : Bool) (s : State) : Host.Outcome State Fault Refusal := done fpFuse s (s.lockField 12 readBack)

/-- Fuse bits of KEYHASH that a digest sets: byte j, the j-th from the top of the 256 bits, lies in bits 32 + 8j to 39 + 8j,
least significant bit lowest (Table 18-9). -/
def hashBits (hash : BitVec 256) : List Nat :=
  ((List.range 32).map (fun j => (List.range 8).filterMap (fun i =>
    if hash.toNat / 2 ^ (8 * (31 - j) + i) % 2 = 1 then some (32 + 8 * j + i) else none))).flatten

/-- LOCK KEY (R392). -/
def State.lockKey (s : State) (hash : BitVec 256) (readBack : Bool) : State :=
  let g := s.lockGate
  let want := hashBits hash
  if g ≠ Status.OK then s.lockAnswer g
  else if s.fuseBit 16 then s.lockAnswer Status.LOCKED
  else if (List.range 256).any (fun i => s.fuseBit (32 + i) && !memNat (32 + i) want) then s.lockAnswer Status.IMPLAUSIBLE
  else
    let s := s.burn (want.filter (fun b => !s.fuseBit b)) readBack
    if readBack then (s.burn [16] true).lockAnswer Status.OK else s.lockAnswer Status.CHECK_FAIL

/-- LOCK_KEY (R392). -/
def execLockKey (hash : BitVec 256) (readBack : Bool) (s : State) : Host.Outcome State Fault Refusal :=
  done fpFuse s (s.lockKey hash readBack)

/-! ### JTAG (R391, R393) -/

def fpJtag : Footprint := { regs := [], parts := [.jtag] }

/-- The 32 bits of IDCODE, least significant first. -/
def State.idcode (s : State) : Nat :=
  let letter := Config.dieId.toNat / 2 ^ 9
  let part := match s.variant with | .slz4860 => 0x4860 | .slz4840 => 0x4840 | .slz4820 => 0x4820
  1 + 2 * 0x2D3 + 2 ^ 12 * part + 2 ^ 28 * ((letter + 15) % 16)

def natBits : Nat → Nat → List Bool
  | 0, _ => []
  | n + 1, v => (v % 2 == 1) :: natBits n (v / 2)

/-- Under DBGLOCK the TAP stays in Test-Logic-Reset, with IDCODE loaded and nothing shifted. -/
def State.tap (s : State) (f : JtagSt → JtagSt) : State :=
  if s.dbgLock then { s with jtag := { reg := .idcode, dr := [], preload := [] } } else { s with jtag := f s.jtag }

def bypassed (j : JtagSt) : JtagSt := { j with reg := .bypass, dr := [false] }

/-- JTAG_IDCODE. -/
def execJtagIdcode (s : State) : Host.Outcome State Fault Refusal :=
  done fpJtag s (s.tap (fun j => { j with reg := .idcode, dr := natBits 32 s.idcode }))

/-- JTAG_SAMPLE_PRELOAD: the balls as captured, and what is shifted into the boundary register. -/
def execJtagSamplePreload (captured shifted : List Bool) (s : State) : Host.Outcome State Fault Refusal :=
  done fpJtag s (s.tap (fun j => { j with reg := .sample, dr := captured, preload := shifted }))

/-- JTAG_EXTEST: in SERVICE the boundary register drives the balls; elsewhere BYPASS. -/
def execJtagExtest (s : State) : Host.Outcome State Fault Refusal :=
  done fpJtag s (s.tap (fun j => if s.service then { j with reg := .extest, dr := j.preload } else bypassed j))

/-- JTAG_HIGHZ: in SERVICE the outputs float, with the bypass register selected; elsewhere BYPASS. -/
def execJtagHighz (s : State) : Host.Outcome State Fault Refusal :=
  done fpJtag s (s.tap (fun j => if s.service then { j with reg := .highz, dr := [false] } else bypassed j))

/-- JTAG_BYPASS. -/
def execJtagBypass (s : State) : Host.Outcome State Fault Refusal := done fpJtag s (s.tap bypassed)

/-- JTAG_FACTORY: taken only in SERVICE, elsewhere BYPASS. What a factory instruction does is not stated
(notes/assumptions/4). -/
def execJtagFactory (code : BitVec 8) (s : State) : Host.Outcome State Fault Refusal :=
  let factory := Nat.ble 0x80 code.toNat && Nat.ble code.toNat 0xFE
  if s.up && factory && s.service && !s.dbgLock then .fault .factoryEffectUnstated
  else done fpJtag s (s.tap bypassed)

end Sys2Proof.Machine
end

