-- ==== Sys2Proof/Machine/Views.lean ====
section
/-! DEFINITION. What a read of a register shows where the register is a view of other state, the captures of R33, the read
side effects of R12, and the read tags of R349. -/

namespace Sys2Proof.Machine
open Sys2Proof

/-! ### Registers that show other state -/

/-- Fields of a word from a list of (high bit, low bit, value). -/
def withFields (w : Nat) (l : List (Nat × Nat × Nat)) : Nat := l.foldl (fun w f => putBits w f.1 f.2.1 f.2.2) w

def bit (b : Bool) : Nat := if b then 1 else 0

/-- State of a domain (Table 4-9). -/
def DomState.code : DomState → Nat
  | .off => 0 | .ret => 1 | .on => 2

/-- ON bits of `n` domains from `d` on (Tables 4-10, 4-11). -/
def State.onMap (s : State) (d : Nat) : Nat → Nat
  | 0 => 0
  | n + 1 => bit (s.domOn d) + 2 * s.onMap (d + 1) n

/-- Calendar words of the RTC count (Tables 12-34, 12-35). -/
def State.cal0 (s : State) : Nat :=
  let d := dateOf (s.rtc.sec.toNat / 86400)
  withFields 0 [(16, 9, d.year - 2000), (8, 5, d.month), (4, 0, d.day)]
def State.cal1 (s : State) : Nat :=
  let d := dateOf (s.rtc.sec.toNat / 86400)
  withFields 0 [(17, 17, bit s.rtc.tvalid), (13, 11, d.wday), (10, 0, s.rtc.sec.toNat % 86400 / 60)]

/-- PRF_VEL and PRF_ARRV of the selected generator (Table 12-19). -/
def State.prfView (s : State) : PrfSt := (assocGet s.prfs (s.rd Reg.PRF_GSEL)).getD PrfSt.init

/-- Part code of the variant (Table 2-14). -/
def Variant.part : Variant → Nat
  | .slz4860 => 0x14860 | .slz4840 => 0x14840 | .slz4820 => 0x14820

/-- FUSE_STAT but for PSTAT (Table 18-30). -/
def State.fuseStat (s : State) (w : Nat) : Nat :=
  let c := s.fuseField 0 8
  withFields w [(17, 17, bit s.dbgLock), (16, 16, bit (s.fuseField 12 4 != 0)), (15, 15, bit (s.fuseBit 16)),
    (14, 14, bit (s.fuseField 32 256 != 0)), (13, 13, bit (c != 0x3C && c != 0x5A && c != 0x69))]

/-- Bits of `n` fuse bits from `lo` that exist: the array ends at bit 4,095 (Table 18-29). -/
def State.fuseWord (s : State) (sel : Nat) : Nat := s.fuseField (18 * sel) (if sel = 227 then 10 else 18)

/-- Comparators armed, group 1 lowest (Table 14-19). -/
def State.armBits (s : State) : Nat :=
  (List.range 3).foldl (fun n g => n + 2 ^ g * bit (match s.act.groups[g]? with | some x => x.armed.isSome | none => false)) 0

/-- The high registers whose value a read of a low register captures (R33, R149, R248, R266, R338). -/
def capturesOf (a : Nat) : List Nat :=
  if a = 0x23 then [0x24]
  else if 0x3000 ≤ a ∧ a < 0x4000 then (if a % 0x400 = 0x36 then [a + 1] else [])
  else if 0x4000 ≤ a ∧ a < 0x5000 then (if a % 0x400 = 0x21 then [a + 1] else [])
  else if 0x504C ≤ a ∧ a < 0x50C0 then (if a % 0x20 = 0x0C then [a + 1] else [])
  else if 0x5800 ≤ a ∧ a < 0x5880 then (if a % 0x20 = 0x0A then [a + 1] else [])
  else if memNat a [0x6004, 0x6006, 0x6008, 0x600A, 0x6013, 0x6018, 0x601A, 0x601C, 0x6022, 0x6024] then [a + 1]
  else if a = 0x6633 ∨ a = 0x6A33 then [a + 1, a + 2]
  else if 0x7000 ≤ a ∧ a < 0x7040 then (if a % 0x10 = 7 then [a + 1] else [])
  else if 0x7400 ≤ a ∧ a < 0x7600 then (if a % 0x10 = 0x0A then [a + 1] else [])
  else if a = 0x8C02 ∨ a = 0x9002 then [a + 1]
  else if a = 0x9402 then [0x9403, 0x9404, 0x9405]
  else if a = 0x1411 then [0x1412]
  else []

/-- The low register that captures a high one. -/
def capturedFrom (a : Nat) : Bool :=
  (Nat.ble 1 a && memNat a (capturesOf (a - 1))) || (Nat.ble 2 a && memNat a (capturesOf (a - 2))) ||
  (Nat.ble 3 a && memNat a (capturesOf (a - 3)))

/-- Key of the latch of a captured high register. -/
def latchKey (a : Nat) : Nat := 0x50000 + a

/-- The word that a register holds at this moment, before any capture. -/
def State.liveWord (s : State) (key : Nat) : Nat :=
  let w := s.rdKey key
  if key < 0x400 then
    (match key with
     | 0x000 => s.variant.part
     | 0x001 => Config.dieId.toNat
     | 0x002 => withFields w [(6, 6, bit (decide (s.variant = .slz4860)))]
     | 0x023 => s.tick.frame.toNat % 2 ^ 18
     | 0x024 => s.tick.frame.toNat / 2 ^ 18
     | 0x025 => withFields w [(11, 11, bit s.liveOn)]
     | _ => w)
  else if 0x3000 ≤ key ∧ key < 0x4000 ∧ key % 0x400 = 0x045 ∧ !s.rdB (Reg.HEAD_TLMFPA_EN ((key - 0x3000) / 0x400)) then 0
  else if key = 0x402 then
    let d := s.rd Reg.PWR_DSEL
    withFields (s.rdKey (domKey d)) [(3, 3, bit (s.domFused d)), (2, 2, bit (s.dom d).pend.isSome),
      (1, 0, (s.dom d).st.code)]
  else if key = 0x403 then s.onMap 0 18
  else if key = 0x404 then s.onMap 18 12
  else if key = 0x1400 then
    withFields w [(11, 11, bit (!s.balls.nvwp)), (9, 3, s.tally.events.length)]
  else if key = 0x1411 ∨ key = 0x1412 then
    let v := match s.tally.counters[s.rd Reg.TALLY_CSEL]? with | some n => n | none => 0
    if !s.tally.scanned then 0 else if key = 0x1411 then v % 2 ^ 18 else v / 2 ^ 18
  else if 0x1C00 ≤ key ∧ key < 0x1C06 then withFields w [(3, 3, bit (s.headOwns (key - 0x1C00)))]
  else if key = 0x2006 then withFields w [(0, 0, s.rd (Reg.ADC_QSTATA_QRDY.plus 0)), (1, 1, s.rd (Reg.ADC_QSTATA_QRDY.plus 1))]
  else if 0x8800 ≤ key ∧ key < 0x8808 ∧ key % 2 = 1 then
    (match s.balls.forced.find? (fun f => f.1 == gpioBall ((key - 0x8800) / 2)) with
     | some (_, .high) => withFields w [(17, 17, 1)]
     | some (_, .low) => withFields w [(17, 17, 0)]
     | _ => w)
  else if key = 0x2401 then withFields w [(16, 16, bit s.dbgLock)]
  else if key = 0x2403 then s.balls.forced.length
  else if key = 0x2801 then s.fuseWord (s.rd Reg.FUSE_SEL)
  else if key = 0x2802 then s.fuseStat w
  else if 0x2804 ≤ key ∧ key < 0x2808 then
    s.fuseField (288 + 18 * (key - 0x2804)) (if key = 0x2807 then 10 else 18)
  else if key = 0x5C0C then
    withFields w [(17, 17, bit s.privLock), (16, 16, bit (s.fuseField 12 4 != 0)), (15, 15, bit s.boot.privImg)]
  else if key = 0x6010 then
    withFields w [(16, 16, bit (!s.cmp.queue.isEmpty && s.rd Reg.THM_STAT_LEVEL != 0))]
  else if key = 0x6012 then Config.landingBase
  else if key = 0x6E03 then ofSigned 18 (clampInt (-131072) 131071 (s.prfView.v.toInt / 2 ^ 16))
  else if key = 0x6E04 then min (2 ^ 18 - 1) s.prfView.arrv
  else if 0x7F01 ≤ key ∧ key ≤ 0x7F03 ∧ s.variant = .slz4860 then withFields w [(17, 17, 0)]
  else if key = 0x7F04 then withFields w [(8, 6, s.armBits)]
  else if key = 0x9402 then s.rtc.sec.toNat % 2 ^ 18
  else if key = 0x9403 then s.rtc.sec.toNat / 2 ^ 18
  else if key = 0x9404 then s.cal0
  else if key = 0x9405 then s.cal1
  else if key = 0x9802 then withFields w [(12, 0, (s.points.filter (fun p => p.2.shadow.isSome)).length)]
  else if 0x9C03 ≤ key ∧ key < 0x9C07 then (Config.freeWord key s.freeCtr).toNat % 1001
  else if 0x9C07 ≤ key ∧ key < 0x9C0B then max w (Config.freeWord key s.freeCtr).toNat
  else if 0x10000 ≤ key ∧ key < 0x20000 ∧ 0x23 ≤ key % 0x40 ∧ key % 0x40 ≤ 0x25 then
    let i := ofSigned 48 (match assocGet s.loops ((key - 0x10000) / 0x40) with | some x => x.i | none => 0)
    (match key % 0x40 with
     | 0x23 => i % 2 ^ 18
     | 0x24 => i / 2 ^ 18 % 2 ^ 18
     | _ => i / 2 ^ 36)
  else w

/-- The word that a read returns: a captured high register returns its latch (R33). -/
def State.readWord (s : State) (key a : Nat) : Nat :=
  if capturedFrom a then s.rdKey (latchKey a) else s.liveWord key

/-! ### Read side effects (R12, R33) -/

/-- RC fields of a register. -/
def rcFields (key : Nat) : List FSpec :=
  match rowOf key with
  | some r => r.fields.filter (fun f => decide (f.acc = .rc))
  | none => []

/-- The captures of a read of address `a`, whose register has key `key`: each high register of the pair is latched. -/
def State.capture (s : State) (key a : Nat) : State :=
  (capturesOf a).foldl (fun s hi => s.wrKey (latchKey hi) (s.liveWord (key + (hi - a)))) s

/-- RC fields read, then cleared to 0; the clear is no change for the read tags. -/
def State.rcClear (s : State) (key : Nat) : State :=
  let fs := rcFields key
  if fs.isEmpty then s
  else { s with regs := s.regs.clear key (BitVec.ofNat 18 (withFields (s.rdKey key) (fs.map (fun f => (f.hi, f.lo, 0))))) }

/-- Views of free values take a new one for each read. -/
def State.freshView (s : State) (key : Nat) : State :=
  if 0x9C03 ≤ key ∧ key < 0x9C0B then { s with freeCtr := s.freeCtr + 1 } else s

/-- The captures, the RC clear and the renewal of open values that a read of a register brings. -/
def State.readEffects (s : State) (key a : Nat) : State := ((s.capture key a).rcClear key).freshView key

/-! ### Tags (Table 16-2) -/

abbrev tagFresh : Nat := 0
abbrev tagReread : Nat := 1
abbrev tagNotYet : Nat := 2
abbrev tagHole : Nat := 3

/-- Fields whose Reset column names no value but a source: they show it before any load. -/
def dashFields (key : Nat) : List (Nat × Nat) :=
  if memNat key [0x0, 0x1, 0x403, 0x404, 0x6012, 0x9402, 0x9403, 0x9404, 0x9405] then [(17, 0)]
  else if key = 2 then [(6, 0)]
  else if key = 0x402 then [(3, 3), (1, 0)]
  else if key = 0x800 then [(3, 0)]
  else if key = 0x803 then [(7, 0)]
  else if key = 0x1400 then [(11, 11)]
  else if key = 0x5C0C then [(17, 16)]
  else []

/-- The Reset value of a register that shows its source where the table gives a dash. -/
def State.resetWord (s : State) (key : Nat) : Nat :=
  let w := s.liveWord key
  withFields (resetVal key).toNat ((dashFields key).map (fun f => (f.1, f.2, bitsOf w f.1 f.2)))

/-- Offsets that every block carries from reset on (R349 row 3). -/
def commonOff (off : Nat) : Bool := Nat.ble 0x3FC off && Nat.ble off 0x3FE

/-- A record of words read, with one more. -/
def seenPut (l : List (Nat × Nat)) (a w : Nat) : List (Nat × Nat) := (a, w) :: l.filter (fun p => p.1 != a)

/-- The words a reader has seen: the console's are kept apart from the HSP's (R387). -/
def State.seen (s : State) (con : Bool) : List (Nat × Nat) := if con then s.regs.seenCon else s.regs.seenHsp

def State.noteSeen (s : State) (con : Bool) (a w : Nat) : State :=
  if con then { s with regs := { s.regs with seenCon := seenPut s.regs.seenCon a w } }
  else { s with regs := { s.regs with seenHsp := seenPut s.regs.seenHsp a w } }

/-- FRESH where the word differs from the last one read, or none has been read; else REREAD (rows 4 and 5). -/
def State.tagOf (s : State) (con : Bool) (a w : Nat) : Nat :=
  if (s.seen con).any (fun p => p.1 == a && p.2 == w) then tagReread else tagFresh

/-- A read of a queue head takes the oldest entry out before it is shown (R285). -/
def State.queueTake (s : State) (key : Nat) : State :=
  let o := if key = 0x7810 then execAdcQheadRead 0 s else if key = 0x7812 then execAdcQheadRead 1 s else .next s
  match o with
  | .next t => t
  | _ => s

/-- What a read frame carries: word, quality in the point window, tag (Table 16-1). -/
structure ReadOut where
  word : Nat
  quality : Nat
  tag : Nat
  deriving DecidableEq, Repr

/-- A HOLE of an unmapped address. -/
def ReadOut.unmapped : ReadOut := ⟨0x3FFFF, 0, tagHole⟩

/-- A read below 0xC000, with its side effects (R348, R349). A NOT_YET read is none of the register's word
(DEDUCED, notes/assumptions/90). -/
def State.readReg (s : State) (con : Bool) (a : Nat) : ReadOut × State :=
  match Blk.ofAddr a with
  | none => (ReadOut.unmapped, s)
  | some b =>
    if !s.blkPresent b then (ReadOut.unmapped, s)
    else match s.regKey a with
      | none =>
        (if s.regAbsent b (a % 0x400) then ReadOut.unmapped
         else ⟨0, 0, tagHole⟩, s)
      | some (_, key) =>
        if !s.engineLoaded b.engine && !commonOff (a % 0x400) then (⟨s.resetWord key, 0, tagNotYet⟩, s)
        else if (key = 0x1411 ∨ key = 0x1412) ∧ !s.tally.scanned then (⟨0, 0, tagNotYet⟩, s)
        else
          let s := s.queueTake key
          let w := s.readWord key a
          (⟨w, 0, s.tagOf con a w⟩, (s.noteSeen con a w).readEffects key a)

/-- A read of the point window (R37, R45): the quality is part of the word for the tags. -/
def State.readPt (s : State) (con : Bool) (a : Nat) : ReadOut × State :=
  match s.point (a - 0xC000) with
  | none => (ReadOut.unmapped, s)
  | some p =>
    let q := p.v.quality.code
    let w := p.v.value.toNat
    if p.v.quality = .notYet then (⟨w, q, tagNotYet⟩, s)
    else (⟨w, q, s.tagOf con a (w + 2 ^ 18 * q)⟩, s.noteSeen con a (w + 2 ^ 18 * q))

end Sys2Proof.Machine
end

