-- ==== Sys2Proof/Machine/Windows.lean ====
section
/-! DEFINITION. The paged windows at 0xD000 to 0xEFFF (R154, R215, R341, R342, R351, R357). Windows are numbered as FETCH
numbers them: 0 pixel store, 1 working RAM, 2 flash, 3 tally store. -/

namespace Sys2Proof.Machine
open Sys2Proof

/-! ### The memories -/

/-- 18-bit words of the pixel store: 40 MiB in words of 72 bits (chapter 1), four parts each. -/
abbrev pixelStoreWords : Nat := 4 * 4660337

/-- Word of its window's memory that an address shows; none beyond the memory, the flash window's 16 MiB, or a chip's density.
Flash words of chip c count from c × 2^27. -/
def State.winWord (s : State) (a : Nat) : Option Nat :=
  let w := (a - 0xD000) / 0x800
  let n := s.rdKey (0x2000 + w) * 0x800 + a % 0x800
  match w with
  | 0 => if n < pixelStoreWords then some n else none
  | 1 => if n < Config.wramWords then some n else none
  | 2 =>
    let chip := s.rd Reg.FLW_WIN_CS
    let m := s.rd Reg.FLW_WIN_BASE * 2 ^ 23 + n
    if n < 2 ^ 23 ∧ 2 * m + 1 < s.flashSize chip then some (chip * 2 ^ 27 + m) else none
  | _ => if n < 2048 * 128 then some n else none

/-- What a word of the pixel store is. -/
inductive Place where
  | state (head pixel part : Nat)
  | map (head pixel : Nat)
  | landing (word : Nat)
  /-- A raw ring or a scratch. -/
  | plane
  | other
  deriving DecidableEq, Repr

/-- Rows of every slice that an area takes: eight state words, or eight words of four map words each. -/
def areaRows (kind pixels : Nat) : Nat := if kind = 0 then (pixels + 7) / 8 else (pixels + 31) / 32

/-- First row of a head's area: heads lie in ascending order (R152). -/
def areaBase (pixels : List Nat) (kind : Nat) : Nat → Nat
  | 0 => Config.gapRows pixels kind 0
  | h + 1 => areaBase pixels kind h + areaRows kind (pixels.getD h 0) + Config.gapRows pixels kind (h + 1)

/-- The head whose area of a kind holds a row, with the index among its words of the word in slice `sl`: state word i lies in
slice i modulo 8, the map words of pixels 4i to 4i + 3 in slice i modulo 8 (R152). -/
def areaWord (pixels : List Nat) (kind sl row : Nat) : Option (Nat × Nat) :=
  (List.range 4).findSome? (fun h =>
    let base := areaBase pixels kind h
    if base ≤ row ∧ row < base + areaRows kind (pixels.getD h 0) then
      some (h, 8 * Config.areaRow pixels kind h (row - base) + sl)
    else none)

/-- The place of an 18-bit word (R152, R372): the spec fixes landing's through LBASE, and of the rest the slice and the order
of the heads; where else a pixel's words stand is the loader's placement (notes/assumptions/86). -/
def State.place (s : State) (m : Nat) : Place :=
  let base := Config.landingBase * 0x800
  if base ≤ m ∧ m < base + landingWords then .landing (m - base)
  else
    let pixels := s.heads.toList.map (fun h => h.px.length)
    let at' := Config.sliceRow (m / 4)
    let part := (Config.partOf ⟨m % 4, Nat.mod_lt _ (by decide)⟩).val
    match areaWord pixels 0 at'.1.val at'.2, areaWord pixels 1 at'.1.val at'.2 with
    | some (h, i), _ => if i < (s.head h).px.length then .state h i part else .other
    | none, some (h, g) => if 4 * g + part < (s.head h).px.length then .map h (4 * g + part) else .other
    | none, none => if Config.planeWord pixels (m / 4) then .plane else .other

/-- A part of a state word: 0 OFS, 1 GN, 2 BKG, 3 TMP (Table 8-2). -/
def Px.part (x : Px) (i : Nat) : Word :=
  match i with
  | 0 => x.ofs | 1 => x.gn | 2 => x.bkg | _ => x.tmp

def Px.setPart (x : Px) (i : Nat) (v : Word) : Px :=
  match i with
  | 0 => { x with ofs := v } | 1 => { x with gn := v } | 2 => { x with bkg := v } | _ => { x with tmp := v }

/-- What a word of a window's memory holds now; what the raw rings, the scratches and unused words show is open
(notes/assumptions/1). -/
def State.winValue (s : State) (w m : Nat) : Word :=
  match w with
  | 0 =>
    (match s.place m with
     | .state h i p => (match (s.head h).px[i]? with | some x => x.part p | none => 0)
     | .map h i => (match (s.head h).px[i]? with | some x => x.map | none => 0)
     | .landing n => s.landing.get n
     | .plane | .other => Config.freeWord m s.freeCtr)
  | 1 => s.wram.get m
  | 2 => BitVec.ofNat 18 ((s.flashByte (m / 2 ^ 27) (2 * (m % 2 ^ 27))).toNat +
      256 * (s.flashByte (m / 2 ^ 27) (2 * (m % 2 ^ 27) + 1)).toNat)
  | _ => BitVec.ofNat 18 ((s.tallyByte (2 * m)).toNat + 256 * (s.tallyByte (2 * m + 1)).toNat)

/-- The privacy lock stops a read of an image plane or of landing; map words it leaves alone (Table 10-4). -/
def State.winLocked (s : State) (w m : Nat) : Bool :=
  s.privLock && w == 0 && (match s.place m with | .state _ _ _ | .landing _ | .plane => true | .map _ _ | .other => false)

/-! ### Buffers (R351) -/

def State.win (s : State) (w : Nat) : Win := if h : w < 4 then s.hsp.wins[w] else Win.init

def State.setWin (s : State) (w : Nat) (f : Win → Win) : State := { s with hsp := { s.hsp with wins := vmod s.hsp.wins w f } }

/-- FETCH shows the windows with a fetch pending. -/
def State.fetchSync (s : State) : State :=
  s.wr Reg.HSP_WSTAT_FETCH ((List.range 4).foldl (fun n w => n + 2 ^ w * bit (!(s.win w).fetch.isEmpty)) 0)

/-- The first slice that is not ON of those that hold the given 72-bit words: it answers DOWN (R382). -/
def State.sliceDown (s : State) (ks : List Nat) : Option Nat :=
  (ks.map (fun k => (Config.sliceRow k).1.val)).find? (fun i => !s.domOn (14 + i))

/-- A request answered DOWN is counted (Table 18-3). -/
def State.downReply (s : State) (d : Nat) : State := (s.bump Reg.FAB_DOWNREP).wr Reg.FAB_PART_DNPART d

/-- The fetch of a block starts, unless it is held or pending already. -/
def State.fetchStart (s : State) (w block : Nat) : State :=
  let x := s.win w
  let held := fun (b : Option WinBuf) => match b with | some b => b.block == block | none => false
  if held x.a || held x.b || memNat block x.fetch then s
  else match (if w = 0 then s.sliceDown ((List.range 16).map (· + 16 * block)) else none) with
    | some i => s.downReply (14 + i)
    | none => (s.setWin w (fun x => { x with fetch := x.fetch ++ [block] })).fetchSync

/-- Does the block's memory hold its first word? -/
def State.blockThere (s : State) (w block : Nat) : Bool :=
  match w with
  | 0 => Nat.blt (64 * block) pixelStoreWords
  | 1 => Nat.blt (64 * block) Config.wramWords
  | 2 => Nat.blt (2 * (64 * block % 2 ^ 27)) (s.flashSize (64 * block / 2 ^ 27)) && Nat.blt (64 * block) (2 ^ 28)
  | _ => Nat.blt (64 * block) (2048 * 128)

/-- A hit: the word is tagged FRESH at its first read after the fetch, and word 32 or later starts the fetch of the next
block. A state word's first part captures the word, and its next parts read the capture (R154). -/
def State.winHit (s : State) (con : Bool) (w m : Nat) (isA : Bool) (b : WinBuf) : ReadOut × State :=
  let i := m % 64
  let seen := if con then b.seenCon else b.seenHsp
  let tag := if memNat i seen then tagReread else tagFresh
  let b' := if con then { b with seenCon := i :: b.seenCon } else { b with seenHsp := i :: b.seenHsp }
  let s := s.setWin w (fun x => { x with a := if isA then some b' else x.a, b := if isA then x.b else some b', lastA := isA })
  let v := b.words.getD i 0
  let (v, s) :=
    if w = 0 then
      (match s.place m with
       | .state h _ _ =>
         if m % 4 = 0 then (v, s.setHead h (fun x => { x with winCap := some (m / 4, (b.words.drop i).take 4) }))
         else match (s.head h).winCap with
           | some (k, ws) => if k = m / 4 then (ws.getD (m % 4) 0, s) else (v, s)
           | none => (v, s)
       | _ => (v, s))
    else (v, s)
  let next := m / 64 + 1
  let s := if 32 ≤ i && s.blockThere w next then s.fetchStart w next else s
  (⟨v.toNat, 0, tag⟩, s)

/-- A read of a paged window (R215, R349, R351). -/
def State.readWin (s : State) (con : Bool) (a : Nat) : ReadOut × State :=
  let w := (a - 0xD000) / 0x800
  match s.winWord a with
  | none => (ReadOut.unmapped, s)
  | some m =>
    if s.winLocked w m then (ReadOut.unmapped, s.lockStop 2)
    else
      let x := s.win w
      match x.a.filter (fun b => b.block == m / 64), x.b.filter (fun b => b.block == m / 64) with
      | some b, _ => s.winHit con w m true b
      | none, some b => s.winHit con w m false b
      | none, none => (⟨0x3FFFF, 0, tagNotYet⟩, (s.fetchStart w (m / 64)).bump Reg.FAB_WDLY)

/-- Parts of the state that window accesses touch. -/
def fpWindow : Footprint :=
  { regs := [(0x2004, 0x2007), (0x1400, 0x1800), (0x1800, 0x1C00), (0x9C00, 0xA000), (0x5C0C, 0x5C0E), (0x23FC, 0x2400)]
    parts := [.hsp, .heads, .flash, .tally, .boot, .freeCtr] }

/-- A fetch fills the buffer that was not hit last. -/
def State.winFill (s : State) (w block : Nat) : State :=
  let words := (List.range 64).map (fun i => s.winValue w (64 * block + i))
  let b : WinBuf := { block := block, words := words, seenHsp := [], seenCon := [] }
  let s := s.setWin w (fun x => if x.lastA then { x with b := some b } else { x with a := some b })
  { s with freeCtr := s.freeCtr + 1 }

/-- A fetch of the flash window is over: programs and erases that waited behind it may start (R341). -/
def State.fetchOver (s : State) (w : Nat) : State := if w = 2 then s.flashStart.flashSync else s

/-- WINDOW_FETCH_DONE: the first pending fetch of a window fills a buffer (R351); a fetch from a chip that is programming or
erasing waits (R341). -/
def execWindowFetchDone (w : Fin 4) (s : State) : Host.Outcome State Fault Refusal :=
  done fpWindow s
    (match (s.win w.val).fetch with
     | [] => s
     | block :: rest =>
       if w = 2 ∧ s.chipBusy (64 * block / 2 ^ 27) then s
       else
         ((((s.winFill w.val block).setWin w.val (fun x => { x with fetch := rest })).fetchSync).fetchOver w.val).irq 3)

/-- DIRECT_FETCH: a DIRECT section of the image in force is fetched, 64 words of it, through the flash window; at its first
fetch since start-up its digest is checked, and a section that fails answers CHECK_FAIL, in RESULT of the port that serves
the window (R117, R341; DEDUCED, notes/assumptions/91). -/
def execDirectFetch (sec block : Nat) (s : State) : Host.Outcome State Fault Refusal :=
  done fpWindow s
    (match s.boot.inForce with
     | none => s
     | some (src, h) =>
       match h.secs.find? (fun r => r.type == 0x20 && r.unit == sec) with
       | none => s
       | some r =>
         let first := !memNat sec s.boot.directSeen
         let bad := first && !decide (sha256 (s.imgBytes src r.offset r.length) = r.digest)
         if r.length ≤ 128 * block ∨ src = .hostStream ∨ s.chipBusy 0 then s
         else if bad then s.wr Blk.hsp.statusFld Status.CHECK_FAIL
         else
           let s := if first then { s with boot := { s.boot with directSeen := sec :: s.boot.directSeen } } else s
           let m := (s.copyBase src + r.offset) / 2 + 64 * block
           ((((s.winFill 2 (m / 64)).setWin 2 (fun x => { x with fetch := x.fetch.filter (· != m / 64) })).fetchSync).fetchOver
             2).irq 3)

/-! ### Writes to the pixel store (R154, Table 16-3) -/

/-- A word of the pixel-store window at word `m` of the memory. -/
def State.pixelWindowWrite (s : State) (m : Nat) (v : Word) : State :=
  let stop := fun (h : Nat) (t : State) =>
    match s.sliceDown [m / 4] with
    | some i => (s.downReply (14 + i)).winResult Status.DOWN
    | none => if s.headState h = stDown then t else s.winResult Status.ILLEGAL_STATE
  if s.therm.tripped then s.winResult Status.DOWN
  else if pixelStoreWords ≤ m then s.winResult Status.REFUSED
  else match s.place m with
    | .map h i =>
      stop h (((s.setHead h (fun x => { x with px := x.px.modify i (fun p => { p with map := v }) })).winEmpty 0).winResult
        Status.OK)
    | .state h i _ =>
      let k := m / 4
      let staged := match s.hsp.stage with | some (k', ws) => if k' = k then ws else [] | none => []
      if m % 4 < 3 then
        stop h (({ s with hsp := { s.hsp with
          stage := some (k, (m % 4, v) :: staged.filter (fun p => p.1 != m % 4)) } }).winResult Status.OK)
      else
        let ws := (3, v) :: staged
        let px := fun (p : Px) => (List.range 4).foldl (fun (p : Px) (j : Nat) =>
          p.setPart (Config.partOf ⟨j % 4, Nat.mod_lt _ (by decide)⟩).val
            (match ws.find? (fun x => x.1 == j) with | some x => x.2 | none => Config.freeWord j s.freeCtr)) p
        stop h ((({ s.setHead h (fun x => { x with px := x.px.modify i px }) with
          hsp := { s.hsp with stage := none }, freeCtr := s.freeCtr + 1 }).winEmpty 0).winResult Status.OK)
    | .landing _ | .plane | .other => s.winResult Status.REFUSED

/-- PIXEL_WINDOW_WRITE (R154). -/
def execPixelWindowWrite (a : Nat) (v : Word) (s : State) : Host.Outcome State Fault Refusal :=
  done fpWindow s (s.pixelWindowWrite a v)

/-- A write to a paged window; beyond the memory, to working RAM, or past the flash window it is REFUSED (Table 16-3). -/
def State.writeWin (s : State) (a : Nat) (v : Word) : State :=
  let w := (a - 0xD000) / 0x800
  let n := s.rdKey (0x2000 + w) * 0x800 + a % 0x800
  match w with
  | 0 => s.pixelWindowWrite n v
  | 1 => s.winResult Status.REFUSED
  | 2 => if n < 2 ^ 23 then s.flashWindowWrite (2 * n) v else s.winResult Status.REFUSED
  | _ => s.tallyWindowWrite (2 * n) v

end Sys2Proof.Machine
end

