-- ==== Sys2Proof/Machine/Router.lean ====
section
/-! DEFINITION. A write of the host or the console to any address (R45, R52, R57): where it goes, and the registers whose
write has an effect of its own. -/

namespace Sys2Proof.Machine
open Sys2Proof

/-- The state that a meaning without a stop leads to. -/
def State.after (s : State) (o : Host.Outcome State Fault Refusal) : State :=
  match o with
  | .next t => t
  | _ => s

/-! ### Registers whose write acts -/

/-- A write to a command register whose RW fields are operands: they are set, and stay as they were where the command is
rejected (R51, R52). -/
def State.withOperands (s : State) (b : Blk) (key v : Nat) (run : State → State) : State :=
  let rw := (s.fieldsOf key).filter (fun f => decide (f.acc = .rw))
  let set := fun (t : State) (w : Nat) => t.wrKey key (withFields (t.rdKey key) (rw.map (fun f => (f.hi, f.lo, bitsOf w f.hi f.lo))))
  let t := run (set s v)
  let st := t.rd b.statusFld
  if st = Status.ILLEGAL_STATE ∨ st = Status.BAD_ARG ∨ st = Status.DOWN then set t (s.rdKey key) else t

/-- A FLUSH of the compression engine, which has consumed its input up to a place that the write does not tell
(notes/assumptions/1). -/
def State.flushWrite (s : State) (v : Word) : State :=
  let (n, s) := s.freeN
  s.after (execCmpFlush v n s)

/-- A COMMIT in HEAD_NEXTCTL at a time that the write does not tell (notes/assumptions/1). -/
def State.commitWrite (s : State) (h : Fin 4) : State :=
  let (n, s) := s.freeN
  s.after (execHeadCommit h n s)

/-- A word of the host stream at BOOT_HDATA. -/
def State.hdataWrite (s : State) (off : Nat) (v : Word) : State :=
  let st := s.gate .boot false
  (s.after (execHostStreamWrite v s)).result .boot off st

/-- Writes to SYS, PWR, THM, BOOT and TALLY that act. -/
def State.routeSystem (s : State) (b : Blk) (off : Nat) (v : Word) : Option State :=
  let c := v.toNat / 2 ^ 16
  match b, off with
  | .sys, 0x20 => some (s.after (execSysStinc0Write v s))
  | .sys, 0x21 => some (s.after (execSysStinc1Write v s))
  | .sys, 0x22 => some (s.after (execSysFtdivWrite v s))
  | .pwr, 0x01 =>
    (match v.toNat % 4 with
     | 1 => some (s.after (execDomainOn s))
     | 2 => some (s.after (execDomainRet s))
     | 3 => some (s.after (execDomainOff s))
     | _ => none)
  | .thm, 0x12 =>
    if v.toNat / 16 % 4 = 1 then some (s.after (execSensorClear (Fin.ofNat 16 v.toNat) s)) else none
  | .boot, 0x06 => if v.toNat % 4 = 1 then some (s.after (execReloadStart s)) else none
  | .boot, 0x07 =>
    (match c with
     | 1 => some (s.after (execHostBegin s))
     | 2 => some (s.after (execHostCancel s))
     | _ => none)
  | .boot, 0x09 => some (s.after (execBootAlertClear v s))
  | .boot, off => if 0x200 ≤ off ∧ off < 0x300 then some (s.hdataWrite off v) else none
  | .tally, 0x05 =>
    (match c with
     | 1 => some (s.after (execTallySelect s))
     | 2 => some (s.after (execTallyBegin s))
     | 3 => some (s.after (execTallyCommit s))
     | _ => none)
  | .tally, 0x13 => if c = 1 then some (s.after (execTallyInc s)) else none
  | _, _ => none

/-- Writes to FLW, PSP, SVC, AGE, POINT, SCHED and BUS that act. -/
def State.routeService (s : State) (b : Blk) (off : Nat) (v : Word) : Option State :=
  let c := v.toNat / 2 ^ 16
  match b, off with
  | .flw, 0x05 =>
    (match c with
     | 1 => some (s.withOperands .flw 0x1805 v.toNat (fun s => s.after (execFlashErase s)))
     | 2 => some (s.withOperands .flw 0x1805 v.toNat (fun s => s.after (execFlashFlush s)))
     | _ => none)
  | .psp, 0x11 => if c = 1 then some (s.after (execPspStart s)) else none
  | .svc, 0x00 =>
    (match c with
     | 1 => some (s.after (execServiceEnter s))
     | 2 => some (s.after (execServiceLeave s))
     | _ => none)
  | .age, 0x02 => if c = 1 then some (s.after (execAgeMeasure s)) else none
  | .point, 0x02 =>
    (match v.toNat / 2 ^ 13 % 4 with
     | 1 => some (s.after (execPointForce s))
     | 2 => some (s.after (execPointRelease s))
     | 3 => some (s.after (execPointReleaseAll s))
     | _ => none)
  | .sched, 0x01 => if c = 1 then some (s.after (execSchedOvrclr s)) else none
  | .sched, 0x02 => some (s.after (execSchedRtcStage v s))
  | .sched, 0x03 => some (s.after (execSchedRtcCommit v s))
  | .bus p, 0x09 => if c = 1 then some (s.after (execBusRedetect p s)) else none
  | .bus p, 0x20 => some (s.after (execBusSelWrite p 0 v s))
  | .bus p, 0x30 => some (s.after (execBusSelWrite p 1 v s))
  | .bus p, 0x40 => some (s.after (execBusSelWrite p 2 v s))
  | _, _ => none

/-- Writes to HEAD, PE, SHUT, STAND, OCC and CMP that act. -/
def State.routeImaging (s : State) (b : Blk) (off : Nat) (v : Word) : Option State :=
  let c := v.toNat / 2 ^ 16
  match b with
  | .head h =>
    if 0x20 ≤ off ∧ off < 0x30 then some (s.after (execHeadSetWrite h off v s))
    else if off = 0x35 ∧ c = 1 then some (s.commitWrite h)
    else if off = 0x35 ∧ c = 2 then some (s.after (execHeadCancel h s))
    else none
  | .pe h => if off = 0x07 ∧ c = 1 then some (s.after (execFilterReset h s)) else none
  | .shut =>
    let h : Fin 4 := Fin.ofNat 4 ((off - 0x40) / 0x20)
    if 0x40 ≤ off ∧ off < 0xC0 ∧ off % 0x20 = 0x08 ∧ c = 1 then some (s.after (execShutRecal h s))
    else if 0x40 ≤ off ∧ off < 0xC0 ∧ off % 0x20 = 0x08 ∧ c = 2 then some (s.after (execShutAbort h s))
    else none
  | .stand => if off = 0x08 then some (s.after (execStandRselWrite v s)) else none
  | .occ =>
    let h : Fin 4 := Fin.ofNat 4 (off / 0x20)
    if off = 0x100 then some (s.after (execOccBselWrite v s))
    else if off < 0x80 ∧ off % 0x20 = 0x07 ∧ c = 1 then some (s.after (execBkgReset h s))
    else if off < 0x80 ∧ off % 0x20 = 0x07 ∧ c = 2 then some (s.after (execTrackClear h s))
    else none
  | .cmp =>
    if off = 0x0C ∧ c = 1 then some (s.withOperands .cmp 0x600C v.toNat (fun s => s.after (execCmpSubmit s)))
    else if off = 0x0C ∧ c = 2 then some (s.flushWrite v)
    else if 0x18 ≤ off ∧ off < 0x1E then some (s.after (execCmpOptrWrite (Fin.ofNat 6 (off - 0x18)) v s))
    else if off = 0x20 then some (s.after (execCmpRselWrite v s))
    else none
  | _ => none

/-- Writes to CTL, PRF, TRC, ADC, FAN and VLV that act. -/
def State.routeControl (s : State) (b : Blk) (off : Nat) (v : Word) : Option State :=
  let c := v.toNat / 2 ^ 16
  match b, off with
  | .ctl k, 0x201 =>
    (match v.toNat / 2 ^ 15 with
     | 1 => some (s.after (execCtlOff k s))
     | 2 => some (s.after (execCtlOpen k s))
     | 3 => some (s.after (execCtlManual k s))
     | 4 => some (s.after (execCtlAuto k s))
     | 5 => some (s.after (execCtlReset k s))
     | _ => none)
  | .prf, 0x201 =>
    (match c with
     | 1 => some (s.after (execPrfSync s))
     | 2 => some (s.after (execPrfPreset s))
     | _ => none)
  | .trc, 0x100 => some (s.after (execTrcRselWrite v s))
  | .trc, off =>
    if 0x40 ≤ off ∨ off % 0x10 ≠ 4 then none
    else
      let u : Fin 4 := Fin.ofNat 4 (off / 0x10)
      (match c with
       | 1 => some (s.after (execTraceArm u s))
       | 2 => some (s.after (execTraceTrigger u s))
       | 3 => some (s.after (execTraceStop u s))
       | _ => none)
  | .adc, 0x04 => if c = 1 then some (s.after (execUrgentRequest (Fin.ofNat 32 v.toNat) s)) else none
  | .adc, off =>
    if off ≠ 0x05 ∧ off ≠ 0x06 then none
    else
      let q : Fin 2 := Fin.ofNat 2 (off - 0x05)
      let i : Fin 32 := Fin.ofNat 32 v.toNat
      (match c with
       | 1 => some (s.after (execCalZero q i s))
       | 2 => some (s.after (execCalFs q i s))
       | 3 => some (s.after (execCalAbort q i s))
       | _ => none)
  | .fan, 0x300 => if c = 1 then some (s.after (execFanClear (Fin.ofNat 3 (v.toNat % 4)) s)) else none
  | .vlv, 0x202 => if c = 1 then some (s.after (execValveClear (Fin.ofNat 8 v.toNat) s)) else none
  | _, _ => none

/-- The write that acts, if the register is of that kind and the word commands something. -/
def State.route (s : State) (b : Blk) (off : Nat) (v : Word) : Option State :=
  match b with
  | .sys | .pwr | .thm | .boot | .tally => s.routeSystem b off v
  | .flw | .psp | .svc | .age | .point | .sched | .bus _ => s.routeService b off v
  | .head _ | .pe _ | .shut | .stand | .occ | .cmp => s.routeImaging b off v
  | .ctl _ | .prf | .trc | .adc | .fan | .vlv => s.routeControl b off v
  | _ => none

/-! ### Plain registers with a consequence -/

/-- An accepted write to a slot's registers: what touches a running conversion voids it (R282), a new gain takes effect
(R283) and settles where it ranges (notes/assumptions/116), and the round times are computed anew (R278). -/
def State.afeWritten (s old : State) (key : Nat) : State :=
  let i := (key - 0x7400) / 0x10
  let was := fun (f : Fld) => s.rd f != old.rd f
  let void := [Reg.AFE_SLOTCFG0_PPIN i, Reg.AFE_SLOTCFG0_NPIN i, Reg.AFE_SLOTCFG0_REFSEL i, Reg.AFE_SLOTCFG0_ALT i,
    Reg.AFE_SLOTCFG0_GAIN i, Reg.AFE_SLOTCFG1_EXCP i, Reg.AFE_SLOTCFG1_EXCN i, Reg.AFE_SLOTCFG1_EXTYPE i,
    Reg.AFE_SLOTCFG1_EXMAG i, Reg.AFE_SLOTCFG1_BIAS i, Reg.AFE_SLOTCFG2_RATE i, Reg.AFE_SLOTCFG2_FILT i,
    Reg.AFE_SLOTCFG2_GMIN i, Reg.AFE_SLOTCFG2_GMAX i, Reg.AFE_SLOTCFG0_AUTO i, Reg.AFE_EXSET i].any was
  let s := if void then s.voidWhere (fun x => x.slot == i) else s
  let g := s.rd (Reg.AFE_SLOTCFG0_GAIN i)
  let ranged := s.rdB (Reg.AFE_SLOTCFG0_AUTO i) && s.rd (Reg.AFE_SLOTSTAT_CURGAIN i) != g
  let s := if was (Reg.AFE_SLOTCFG0_GAIN i) || was (Reg.AFE_SLOTCFG0_AUTO i) then
      (s.setAslot i (fun _ => { upCount := 0, settling := ranged })).wr (Reg.AFE_SLOTSTAT_CURGAIN i) g
    else s
  s.afeRounds

/-- A head's port takes the select that its PCS now names: mode 0, at the clock of the one it had (R137, R345). -/
def State.pcsWritten (s old : State) (h : Nat) : State :=
  let a := old.rd (Reg.HEAD_CTRL_PCS h)
  let b := s.rd (Reg.HEAD_CTRL_PCS h)
  if a = b ∨ s.headPixels h = 0 then s
  else (s.wr (Reg.PSP_SCFG_MODE b) 0).wr (Reg.PSP_SCFG_PDIV b) (old.rd (Reg.PSP_SCFG_PDIV a))

/-- What follows an applied plain write, from the state before it. -/
def State.written (s old : State) (b : Blk) (key : Nat) : State :=
  match b with
  | .hsp => if 0x2000 ≤ key ∧ key < 0x2004 then s.winEmpty (key - 0x2000) else s
  | .head h => if key % 0x400 = 0x04 then s.pcsWritten old h.val else s
  | .ctx => if key = 0x5C00 ∧ s.rdKey key ≠ old.rdKey key then { s with ctx := { s.ctx with relink := true } } else s
  | .afe => if 0x7400 ≤ key ∧ key < 0x7600 ∧ s.rdKey key ≠ old.rdKey key then s.afeWritten old key else s
  | .adc => if key = 0x7816 then (s.queueSync 0).queueSync 1 else s
  | .sched =>
    let k := (key - 0x30000) / 0x100
    if 0x30000 ≤ key ∧ key % 0x100 = 0x10 ∧ s.rdB (Reg.SCH_CFG_EN k) ∧ !old.rdB (Reg.SCH_CFG_EN k) then
      s.setSched k (fun x => { x with fresh := true })
    else s
  | _ => s

/-- FAB_CFG: a share that fails CAP_FABRIC is REFUSED and not applied (Table 18-10); the two shares of the check are
reported (R377). -/
def State.fabWrite (s : State) (v : Nat) : State :=
  let st := s.judge .fab 0x9C00 v
  if st ≠ Status.OK then s.result .fab 0 st
  else
    let fits := s.fabricFits (s.capCtx s.stinc s.ftdiv) (v % 32)
    let t := (s.applyWord 0x9C00 v).reportShares s.stinc s.ftdiv
    if fits then t.result .fab 0 Status.OK else (t.wrKey 0x9C00 (s.rdKey 0x9C00)).result .fab 0 Status.REFUSED

/-- A write to a register without behaviour of its own, with what follows from it (R52). -/
def State.plainWritten (s : State) (b : Blk) (key off v : Nat) : State :=
  if key = 0x9C00 then s.fabWrite v
  else if s.judge b key v = Status.OK then (s.plainWrite b key off v).written s b key
  else s.plainWrite b key off v

/-! ### Any address -/

/-- Everything that a host write may reach: every register, every part but the fuses, the JTAG port and the console. -/
def fpHost : Footprint :=
  { regs := [(0, 0x60000)]
    parts := [.points, .tick, .balls, .power, .clock, .therm, .boot, .heads, .bursts, .shut, .cruise, .stat, .ctx, .loops, .prfs,
              .traces, .scheds, .rtc, .afe, .act, .gpio, .bus, .flash, .psp, .hsp, .tally, .cmp, .landing, .fab,
              .age, .freeCtr] }

/-- The two-step course of a write to a mapped register: a value that R52 turns away, else the register's own act, else a plain
write. -/
def State.regWrite (s : State) (b : Blk) (key off : Nat) (v : Word) : State :=
  if off = 0x3FD then s.unlockWrite b v.toNat
  else if s.gate b false = Status.OK ∧ s.badArg b key v.toNat then s.plainWrite b key off v.toNat
  else match s.route b off v with
    | some t => t
    | none => s.plainWritten b key off v.toNat

/-- A write of the host or the console to an address (R45, R52, R57, R351). -/
def State.hostWrite (s : State) (a : Nat) (v : Word) : State :=
  if 0xF000 ≤ a then s
  else if 0xD000 ≤ a then s.writeWin a v
  else if 0xC000 ≤ a then s.after (execPointWindowWrite (Fin.ofNat 4096 a) v s)
  else match s.regKey a with
    | none => s
    | some (b, key) => s.regWrite b key (a % 0x400) v

/-- A read of the host or the console at an address, with its side effects (R45, R349, R351). -/
def State.hostRead (s : State) (con : Bool) (a : Nat) : ReadOut × State :=
  if 0xF000 ≤ a then (ReadOut.unmapped, s)
  else if 0xD000 ≤ a then s.readWin con a
  else if 0xC000 ≤ a then s.readPt con a
  else s.readReg con a

/-- REGISTER_WRITE (R52). -/
def execRegisterWrite (addr : BitVec 16) (v : Word) (s : State) : Host.Outcome State Fault Refusal :=
  done fpHost s (s.hostWrite addr.toNat v)

/-- CTX_LINK_CHANGE: a write to CTX_LINK; the change takes effect at the next frame gap, with a new link start (R216). -/
def execCtxLinkChange (v : Word) (s : State) : Host.Outcome State Fault Refusal :=
  done { regs := [Blk.range .ctx], parts := [.ctx] } s (s.plainWritten .ctx 0x5C00 0x000 v.toNat)

/-- Read effects may touch any register's latches and counters, a queue, and the windows. -/
def fpRead : Footprint := { regs := [(0, 0x60000)], parts := [.afe, .hsp, .heads, .freeCtr] }

/-- CAPTURE_READ: the HSP reads a low register, and its high part is captured (R33). -/
def execCaptureRead (addr : BitVec 16) (s : State) : Host.Outcome State Fault Refusal :=
  done fpRead s (s.hostRead false addr.toNat).2

/-- RC_REGISTER_READ: the HSP reads a register, and its RC fields are cleared (R12). -/
def execRcRegisterRead (addr : BitVec 16) (s : State) : Host.Outcome State Fault Refusal :=
  done fpRead s (s.hostRead false addr.toNat).2

end Sys2Proof.Machine
end

