-- ==== Sys2Proof/Machine/Hsp.lean ====
section
/-! DEFINITION. The host serial port: transfers, data frames, tags, the rise of HCS_N, and HSP_IRQ (R346 to R353). -/

namespace Sys2Proof.Machine
open Sys2Proof

/-- The port is alive: the device is out of reset and D3 is ON (R352). -/
def State.hspAlive (s : State) : Bool := s.up && s.domOn 3

def State.setXfer (s : State) (x : HspXfer) : State := { s with hsp := { s.hsp with xfer := x } }

def fpXfer : Footprint := { regs := [Blk.range .hsp], parts := [.hsp] }

/-! ### The start of a transfer (R346) -/

/-- A transfer of one of the four commands starts at an address. -/
def State.hspStart (s : State) (write inc : Bool) (addr : BitVec 16) : State :=
  if s.hspAlive then s.setXfer (.active write inc addr.toNat false) else s

/-- HSP_READ_INCREMENT: command 0x03. -/
def execHspReadIncrement (addr : BitVec 16) (s : State) : Host.Outcome State Fault Refusal :=
  done fpXfer s (s.hspStart false true addr)

/-- HSP_READ_FIXED: command 0x0B. -/
def execHspReadFixed (addr : BitVec 16) (s : State) : Host.Outcome State Fault Refusal :=
  done fpXfer s (s.hspStart false false addr)

/-- HSP_WRITE_INCREMENT: command 0x02. -/
def execHspWriteIncrement (addr : BitVec 16) (s : State) : Host.Outcome State Fault Refusal :=
  done fpXfer s (s.hspStart true true addr)

/-- HSP_WRITE_FIXED: command 0x0A. -/
def execHspWriteFixed (addr : BitVec 16) (s : State) : Host.Outcome State Fault Refusal :=
  done fpXfer s (s.hspStart true false addr)

/-- HSP_BAD_COMMAND: the transfer is ignored and counted. -/
def execHspBadCommand (s : State) : Host.Outcome State Fault Refusal :=
  done fpXfer s (if s.hspAlive then (s.bump Reg.HSP_BADCMD).setXfer .ignored else s)

/-! ### Addresses (R350) -/

/-- The last address of the block that holds an address. -/
def hspBlockEnd (a : Nat) : Nat :=
  if 0xF000 ≤ a then 0xFFFF
  else if 0xD000 ≤ a then a / 0x800 * 0x800 + 0x7FF
  else if 0xC000 ≤ a then 0xCFFF
  else a / 0x400 * 0x400 + 0x3FF

/-- The address after a frame: it advances in an auto-increment transfer, and stops at the end of its block, past which every
frame is a HOLE. -/
def hspNext (inc : Bool) (a : Nat) : Nat × Bool :=
  if !inc then (a, false) else if a = hspBlockEnd a then (a, true) else (a + 1, false)

/-! ### Frames (R347) -/

/-- Ones in the low `n` bits of a number. -/
def onesBelow (v : Nat) : Nat → Nat
  | 0 => 0
  | n + 1 => v / 2 ^ n % 2 + onesBelow v n

/-- A read data frame: tag, parity over bits 21:0 even, quality, word (Table 16-1). -/
def readFrame (o : ReadOut) : Nat :=
  let low := o.quality % 8 * 2 ^ 18 + o.word % 2 ^ 18
  o.tag % 4 * 2 ^ 22 + onesBelow low 21 % 2 * 2 ^ 21 + low

/-- Reading may touch every latch and counter, the queues and the windows; the port shows the frame. -/
def State.hspRead (s : State) : State :=
  match s.hsp.xfer with
  | .active false inc a past =>
    let (o, s) := if past then (ReadOut.unmapped, s) else s.hostRead false a
    let (a', past') := if past then (a, true) else hspNext inc a
    { s with hsp := { s.hsp with out := readFrame o, xfer := .active false inc a' past' } }
  | _ => { s with hsp := { s.hsp with out := 0 } }

/-- HSP_READ_FRAME (R348, R349). Outside a read transfer HSO drives 0 (R346). -/
def execHspReadFrame (s : State) : Host.Outcome State Fault Refusal :=
  done fpRead s (if s.hspAlive then s.hspRead else s)

/-- LASTW of a write word (Table 16-26): DOWN in the trip sequence, HOLE where nothing is mapped, else OK. -/
def State.lastw (s : State) (a : Nat) : Nat :=
  if s.therm.tripped then Status.DOWN
  else if 0xF000 ≤ a then Status.HOLE
  else if 0xC000 ≤ a then Status.OK
  else if (s.regKey a).isSome then Status.OK else Status.HOLE

/-- One write word reaches its address; from step 1 of the trip sequence on it is discarded (R352). -/
def State.hspWord (s : State) (a : Nat) (past : Bool) (v : Word) : State :=
  if s.therm.tripped then s.wr Reg.HSP_LASTW Status.DOWN
  else if past then s.wr Reg.HSP_LASTW Status.HOLE
  else (s.hostWrite a v).wr Reg.HSP_LASTW (s.lastw a)

/-- A full write frame: bits 21:0 hold an even count of ones, or the frame is discarded; the address advances either way. -/
def State.hspWrite (s : State) (frame : BitVec 24) : State :=
  match s.hsp.xfer with
  | .active true inc a past =>
    let (a', past') := if past then (a, true) else hspNext inc a
    let t :=
      if onesBelow frame.toNat 22 % 2 = 1 then (s.bump Reg.HSP_PERR).wr Reg.HSP_LASTW Status.CHECK_FAIL
      else s.hspWord a past (BitVec.ofNat 18 frame.toNat)
    t.setXfer (.active true inc a' past')
  | _ => s

/-- HSP_WRITE_FRAME (R347). -/
def execHspWriteFrame (frame : BitVec 24) (s : State) : Host.Outcome State Fault Refusal :=
  done fpHost s (if s.hspAlive then s.hspWrite frame else s)

/-- HSP_SELECT_RISE: HCS_N rises with `k` bits received since the last full frame, or since the select fell where no address
has come yet; `bits` holds them, right-aligned (R352). -/
def State.selectRise (s : State) (k : Fin 24) (bits : BitVec 24) : State :=
  let t := match s.hsp.xfer with
    | .none => s.bump Reg.HSP_ABORT
    | .active true _ a past =>
      if k.val = 0 then s
      else (s.hspWord a past (BitVec.ofNat 18 (bits.toNat % 2 ^ k.val))).bump Reg.HSP_PARTIAL
    | .active false _ _ _ | .ignored => s
  { t with hsp := { t.hsp with xfer := .none, out := 0 } }

/-- HSP_SELECT_RISE (R352). -/
def execHspSelectRise (k : Fin 24) (bits : BitVec 24) (s : State) : Host.Outcome State Fault Refusal :=
  done fpHost s (if s.hspAlive then s.selectRise k bits else s)

/-- HSP_IRQ_CLEAR: a 1 clears its event bit; the two level bits follow their condition (R353). -/
def execHspIrqClear (v : Word) (s : State) : Host.Outcome State Fault Refusal :=
  done { regs := [Blk.range .hsp], parts := [] } s (s.plainWrite .hsp 0x2006 0x006 v.toNat)

end Sys2Proof.Machine
end

