-- ==== Sys2Proof/Machine/Console.lean ====
section
/-! DEFINITION. The Mormen console: its commands (R388, Table 18-6), its tests (R64, R65, R290, R389) and its lines (R387). The
answer to the last command stands in `svc.lines`, its final status in SVC_STAT.LAST. -/

namespace Sys2Proof.Machine
open Sys2Proof

/-- A command of the console (Table 18-6), parsed. -/
inductive ConCmd where
  | ident
  | stat
  | rd (addr : Nat) (count : Nat)
  | wr (addr value : Nat)
  | ul (b : Blk)
  | lk (b : Blk)
  | svc (enter : Bool)
  | log (count : Nat)
  | cnt (c : Nat)
  | dump (h line first count : Nat)
  | force (ball : Nat) (level : BallForce)
  | release (ball : Nat)
  | releaseAll
  | dac (c : Nat) (code : Option Nat)
  | vlvHold (c code : Nat)
  | vlvOff (c : Nat)
  | vlvRel (c : Nat)
  | fan (c : Nat) (rpm : Option Nat)
  | afe (q pin mag : Nat) (volt : Bool)
  | afeOff (q : Nat)
  | mon (src : Nat)
  deriving DecidableEq, Repr

/-! ### Reads and writes -/

/-- `n` reads from an address, auto-incrementing as R350 states; each with its address and tag. -/
def State.conReads (s : State) (past : Bool) (a : Nat) : Nat → List ConLine × State
  | 0 => ([], s)
  | n + 1 =>
    let (o, s) := if past then (ReadOut.unmapped, s) else s.hostRead true a
    let (a', past') := if past then (a, true) else hspNext true a
    let (ls, s) := s.conReads past' a' n
    (.word a o.word o.tag :: ls, s)

/-- How a write ended: what RESULT of the block records, the window's WRES, or HOLE where nothing is mapped
(DEDUCED, notes/assumptions/92). -/
def State.writeStatus (s : State) (a : Nat) : Nat :=
  if 0xF000 ≤ a then Status.HOLE
  else if 0xD000 ≤ a then s.rd Reg.HSP_WSTAT_WRES
  else if 0xC000 ≤ a then s.rd Blk.point.statusFld
  else match s.regKey a with
    | some (b, _) => s.rd b.statusFld
    | none => Status.HOLE

/-- The alert causes that STAT names: start-up, trip, L3, NOIMAGE, FALLBACK, SECDOWN, AGEFAIL (R70, R123, R385). -/
def State.alertCauses (s : State) : List Bool :=
  [s.boot.loading, s.therm.tripped, s.rd Reg.THM_STAT_LEVEL == 3, s.rdB Reg.BOOT_ALERT_NOIMAGE,
   s.rdB Reg.BOOT_ALERT_FALLBACK, s.rdB Reg.BOOT_ALERT_SECDOWN, s.rdB Reg.AGE_REPLAN_AGEFAIL]

/-- The valid event records, from the newest back, at most `n` of them. -/
def eventsBack (m : List (Nat × Byte)) : Nat → Nat → List (List Byte)
  | 0, _ => []
  | n + 1, i =>
    match ringEntry m (eventAddr i) 32 0xE1 with
    | some _ => viewBytes m (eventAddr i) 32 :: eventsBack m n ((i + 4095) % 4096)
    | none => []

def State.newestEvents (s : State) (n : Nat) : List ConLine :=
  match ringNewest s.tally.mem eventAddr 32 0xE1 (List.range 4096) none with
  | some (i, _) => (eventsBack s.tally.mem n i).map .event
  | none => []

/-- DUMP: TMP of pixels of a line; a request that the privacy lock stops is counted (R215). -/
def State.conDump (s : State) (h line first count : Nat) : State :=
  let w := s.rd (Reg.HEAD_WIDTH h)
  if !s.headPresent h || Nat.ble (s.rd (Reg.HEAD_HEIGHT h)) line || count == 0 || Nat.blt 64 count || Nat.blt w (first + count) then
    s.say [] Status.BAD_ARG
  else if s.privLock then (s.lockStop 4).say [] Status.LOCKED
  else
    let px := ((s.head h).px.drop (line * w + first)).take count
    let free := (List.range (count - px.length)).map (fun i => Config.freeWord i s.freeCtr)
    let s := if px.length < count then { s with freeCtr := s.freeCtr + 1 } else s
    s.say ((px.map (·.tmp) ++ free).map (fun v => .pixel v.toNat)) Status.OK

/-! ### Tests in SERVICE -/

/-- A test command outside SERVICE is ILLEGAL_STATE (R388); so is one for an engine that does not work, or a channel that no
record configures. -/
def State.testGate (s : State) (e : Engine) (on : Bool) : Nat :=
  if s.therm.tripped then Status.DOWN
  else if !s.service || !s.works e || !on then Status.ILLEGAL_STATE
  else Status.OK

/-- BALL: force or release (R65, R76). -/
def State.ballCmd (s : State) (ball : Nat) (level : Option BallForce) : State :=
  if 256 ≤ ball ∨ s.ballFused ball then s.say [] Status.BAD_ARG
  else if s.therm.tripped then s.say [] Status.DOWN
  else if !s.service || !ballForceable ball then s.say [] Status.ILLEGAL_STATE
  else match level with
    | some l =>
      ({ s with balls := { s.balls with forced := insertForce (ball, l) s.balls.forced
                                        resets := s.balls.resets.filter (fun b => b != ball) } }).say [] Status.OK
    | none => (s.releaseBalls [ball]).say [] Status.OK

/-- DAC: hold the channel at a code, or end the test. -/
def State.dacCmd (s : State) (c : Nat) (code : Option Nat) : State :=
  let st := s.testGate .act (s.rdB (Reg.DAC_CFG_EN c))
  if 6 ≤ c ∨ 16384 ≤ code.getD 0 then s.say [] Status.BAD_ARG
  else if st ≠ Status.OK then s.say [] st
  else ((s.setDac c (fun x => { x with test := code })).dacLoad c).say [] Status.OK

/-- VLV HOLD: a peak under the channel's record and R310, then hold at the threshold code; the request's own outcome is the
answer. -/
def State.vlvHoldCmd (s : State) (c code : Nat) : State :=
  let st := s.testGate .act (s.rdB (Reg.VLV_CFG_EN c))
  if 8 ≤ c ∨ 1024 ≤ code then s.say [] Status.BAD_ARG
  else if st ≠ Status.OK then s.say [] st
  else
    let s := (s.setValve c (fun x => { x with test := some (some code) })).wrB (Reg.VLV_STAT_TEST c) true
    let s := s.valveDrive c true true s.now
    s.say [] (s.rd (Reg.VLV_STAT_RSTAT c))

/-- VLV OFF and REL. A shutter channel has no command point to return to (R313). -/
def State.vlvCmd (s : State) (c : Nat) (off : Bool) : State :=
  let st := s.testGate .act (s.rdB (Reg.VLV_CFG_EN c))
  if 8 ≤ c then s.say [] Status.BAD_ARG
  else if st ≠ Status.OK then s.say [] st
  else if off then
    let s := (s.setValve c (fun x => { x with test := some none })).wrB (Reg.VLV_STAT_TEST c) true
    (s.valveDrive c false false s.now).say [] Status.OK
  else
    let was := (s.valve c).test.isSome
    let s := (s.setValve c (fun x => { x with test := none })).wrB (Reg.VLV_STAT_TEST c) false
    (if was && s.rdB (Reg.VLV_CFG_SHUT c) then s.shutRelease c s.now else s).say [] Status.OK

/-- FAN: run at a speed, 0 for OFF, or end the test. -/
def State.fanCmd (s : State) (c : Nat) (rpm : Option Nat) : State :=
  let st := s.testGate .act (s.rdB (Reg.FAN_CFG_EN c))
  if 3 ≤ c ∨ 65536 ≤ rpm.getD 0 then s.say [] Status.BAD_ARG
  else if st ≠ Status.OK then s.say [] st
  else ((s.setFan c (fun f => { f with test := rpm })).wrB (Reg.FAN_STAT_TEST c) rpm.isSome).say [] Status.OK

/-- AFE EXC: one sequencer at a time is placed under test (R290), and its excitation drives a pin. -/
def State.afeCmd (s : State) (q pin mag : Nat) (volt : Bool) : State :=
  let st := s.testGate .conv (!(s.seq (1 - q)).test)
  if 2 ≤ q ∨ 14 ≤ pin ∨ (if volt then 2 else 8) ≤ mag then s.say [] Status.BAD_ARG
  else if st ≠ Status.OK then s.say [] st
  else (s.testSeq q pin mag volt).say [] Status.OK

def State.afeOffCmd (s : State) (q : Nat) : State :=
  let st := s.testGate .conv true
  if 2 ≤ q then s.say [] Status.BAD_ARG
  else if st ≠ Status.OK then s.say [] st
  else (s.testSeqEnd q).say [] Status.OK

/-- MON: a source goes to TESTMON (R389). Table 18-6 lets the command act in SERVICE and asks for no unlocked block, which a
write of SVC_MON needs (DEDUCED, notes/assumptions/92). -/
def State.monCmd (s : State) (src : Nat) : State :=
  if 10 ≤ src then s.say [] Status.BAD_ARG
  else if s.therm.tripped then s.say [] Status.DOWN
  else if !s.service then s.say [] Status.ILLEGAL_STATE
  else (s.wr Reg.SVC_MON src).say [] Status.OK

/-! ### The commands (Table 18-6) -/

/-- UL and LK write the UNLOCK register of a block; that of a block the variant lacks is unmapped (R6, R387). -/
def State.lockCmd (s : State) (b : Blk) (v : Nat) : State :=
  if !s.blkPresent b then s.say [] Status.HOLE
  else
    let s := s.unlockWrite b v
    s.say [] (s.rd b.statusFld)

/-- What a command does, with its answer. -/
def State.conRun (s : State) (c : ConCmd) : State :=
  match c with
  | .ident =>
    s.say [.ident s.variant.part Config.dieId.toNat (s.fuseField 288 64) s.dbgLock (s.fuseField 12 4 != 0) (s.fuseBit 16)]
      Status.OK
  | .stat => s.say [.stat s.service (s.rd Reg.BOOT_STAT_STAGE) s.alertCauses] Status.OK
  | .rd a n =>
    if n = 0 ∨ 64 < n ∨ 65536 ≤ a then s.say [] Status.BAD_ARG
    else
      let (ls, s) := s.conReads false a n
      s.say ls Status.OK
  | .wr a v =>
    if 65536 ≤ a ∨ 2 ^ 18 ≤ v then s.say [] Status.BAD_ARG
    else if s.therm.tripped then s.say [] Status.DOWN
    else
      let s := s.hostWrite a (BitVec.ofNat 18 v)
      s.say [] (s.writeStatus a)
  | .ul b => s.lockCmd b 0x2D1E5
  | .lk b => s.lockCmd b 0
  | .svc enter =>
    let s := s.serviceCmd enter
    s.say [] (s.rd Reg.SVC_CMD_CSTAT)
  | .log n => if n = 0 ∨ 64 < n then s.say [] Status.BAD_ARG else s.say (s.newestEvents n) Status.OK
  | .cnt c =>
    if 64 ≤ c then s.say [] Status.BAD_ARG
    else if !s.tally.scanned then s.say [] Status.NOT_YET
    else s.say [.count (match s.tally.counters[c]? with | some n => n | none => 0)] Status.OK
  | .dump h line first count => s.conDump h line first count
  | .force ball l => s.ballCmd ball (some l)
  | .release ball => s.ballCmd ball none
  | .releaseAll =>
    if s.therm.tripped then s.say [] Status.DOWN
    else if !s.service then s.say [] Status.ILLEGAL_STATE
    else ({ s with balls := { s.balls with forced := [], resets := [] } }).say [] Status.OK
  | .dac c code => s.dacCmd c code
  | .vlvHold c code => s.vlvHoldCmd c code
  | .vlvOff c => s.vlvCmd c true
  | .vlvRel c => s.vlvCmd c false
  | .fan c rpm => s.fanCmd c rpm
  | .afe q pin mag volt => s.afeCmd q pin mag volt
  | .afeOff q => s.afeOffCmd q
  | .mon src => s.monCmd src

/-- The console runs in D1, out of reset (R387). -/
def State.conAlive (s : State) : Bool := s.up && s.domOn 1

/-- Everything that a console command may reach: all but the fuses, which LOCK alone programs. -/
def fpConsole : Footprint := { regs := fpHost.regs, parts := .svc :: fpHost.parts }

/-- What a LOCK given as a console line may reach. -/
def fpConLock : Footprint := { regs := fpHost.regs, parts := .svc :: .fuses :: fpHost.parts }

/-- A command of the console, where the console runs. -/
def conDo (s : State) (c : ConCmd) : Host.Outcome State Fault Refusal :=
  done fpConsole s (if s.conAlive then s.conRun c else s)

/-- CONSOLE_ID (R388). -/
def execConsoleId (s : State) : Host.Outcome State Fault Refusal := conDo s .ident

/-- CONSOLE_STAT (R388). -/
def execConsoleStat (s : State) : Host.Outcome State Fault Refusal := conDo s .stat

/-- CONSOLE_RD (R388). -/
def execConsoleRd (addr : BitVec 16) (count : Nat) (s : State) : Host.Outcome State Fault Refusal :=
  conDo s (.rd addr.toNat count)

/-- CONSOLE_WR (R388). -/
def execConsoleWr (addr : BitVec 16) (v : Nat) (s : State) : Host.Outcome State Fault Refusal := conDo s (.wr addr.toNat v)

/-- CONSOLE_UL (R388). -/
def execConsoleUl (b : Blk) (s : State) : Host.Outcome State Fault Refusal := conDo s (.ul b)

/-- CONSOLE_LK (R388). -/
def execConsoleLk (b : Blk) (s : State) : Host.Outcome State Fault Refusal := conDo s (.lk b)

/-- CONSOLE_SVC_ENTER (R49, R388). -/
def execConsoleSvcEnter (s : State) : Host.Outcome State Fault Refusal := conDo s (.svc true)

/-- CONSOLE_SVC_LEAVE (R388). -/
def execConsoleSvcLeave (s : State) : Host.Outcome State Fault Refusal := conDo s (.svc false)

/-- CONSOLE_LOG (R388). -/
def execConsoleLog (count : Nat) (s : State) : Host.Outcome State Fault Refusal := conDo s (.log count)

/-- CONSOLE_CNT (R358, R388). -/
def execConsoleCnt (c : Nat) (s : State) : Host.Outcome State Fault Refusal := conDo s (.cnt c)

/-- CONSOLE_DUMP (R215, R388). -/
def execConsoleDump (h : Nat) (line : Nat) (first : Nat) (count : Nat) (s : State) : Host.Outcome State Fault Refusal :=
  conDo s (.dump h line first count)

/-- CONSOLE_BALL_FORCE (R65). -/
def execConsoleBallForce (ball : Nat) (level : BallForce) (s : State) : Host.Outcome State Fault Refusal :=
  conDo s (.force ball level)

/-- CONSOLE_BALL_RELEASE (R65). -/
def execConsoleBallRelease (ball : Nat) (s : State) : Host.Outcome State Fault Refusal := conDo s (.release ball)

/-- CONSOLE_BALL_RELEASE_ALL (R65). -/
def execConsoleBallReleaseAll (s : State) : Host.Outcome State Fault Refusal := conDo s .releaseAll

/-- CONSOLE_DAC_HOLD (R388). -/
def execConsoleDacHold (c : Nat) (code : Nat) (s : State) : Host.Outcome State Fault Refusal := conDo s (.dac c (some code))

/-- CONSOLE_DAC_RELEASE (R388). -/
def execConsoleDacRelease (c : Nat) (s : State) : Host.Outcome State Fault Refusal := conDo s (.dac c none)

/-- CONSOLE_VLV_HOLD (R388). -/
def execConsoleVlvHold (c : Nat) (code : Nat) (s : State) : Host.Outcome State Fault Refusal := conDo s (.vlvHold c code)

/-- CONSOLE_VLV_OFF (R388). -/
def execConsoleVlvOff (c : Nat) (s : State) : Host.Outcome State Fault Refusal := conDo s (.vlvOff c)

/-- CONSOLE_VLV_RELEASE (R388). -/
def execConsoleVlvRelease (c : Nat) (s : State) : Host.Outcome State Fault Refusal := conDo s (.vlvRel c)

/-- CONSOLE_FAN_RPM (R388). -/
def execConsoleFanRpm (c : Nat) (rpm : Nat) (s : State) : Host.Outcome State Fault Refusal := conDo s (.fan c (some rpm))

/-- CONSOLE_FAN_OFF (R388). -/
def execConsoleFanOff (c : Nat) (s : State) : Host.Outcome State Fault Refusal := conDo s (.fan c (some 0))

/-- CONSOLE_FAN_RELEASE (R388). -/
def execConsoleFanRelease (c : Nat) (s : State) : Host.Outcome State Fault Refusal := conDo s (.fan c none)

/-- CONSOLE_AFE_EXC_CURRENT (R290). -/
def execConsoleAfeExcCurrent (q : Fin 2) (pin : Nat) (mag : Nat) (s : State) : Host.Outcome State Fault Refusal :=
  conDo s (.afe q.val pin mag false)

/-- CONSOLE_AFE_EXC_VOLTAGE (R290). -/
def execConsoleAfeExcVoltage (q : Fin 2) (pin : Nat) (mag : Nat) (s : State) : Host.Outcome State Fault Refusal :=
  conDo s (.afe q.val pin mag true)

/-- CONSOLE_AFE_OFF (R290). -/
def execConsoleAfeOff (q : Fin 2) (s : State) : Host.Outcome State Fault Refusal := conDo s (.afeOff q.val)

/-- CONSOLE_MON (R389). -/
def execConsoleMon (src : Nat) (s : State) : Host.Outcome State Fault Refusal := conDo s (.mon src)

/-! ### The factory set (R388, R391) -/

/-- A factory command: LOCKED while DBGLOCK is in force, ILLEGAL_STATE outside SERVICE; what one does where it is allowed, the spec
does not say (notes/assumptions/4). -/
def State.factory (s : State) : Host.Outcome State Fault Refusal :=
  if !s.conAlive then done fpConsole s s
  else if s.dbgLock then done fpConsole s (s.say [] Status.LOCKED)
  else if !s.service then done fpConsole s (s.say [] Status.ILLEGAL_STATE)
  else .fault .factoryEffectUnstated

/-- CONSOLE_MEM (R388). -/
def execConsoleMem (s : State) : Host.Outcome State Fault Refusal := s.factory

/-- CONSOLE_TRIM (R388). -/
def execConsoleTrim (s : State) : Host.Outcome State Fault Refusal := s.factory

/-- CONSOLE_SCAN (R388). -/
def execConsoleScan (s : State) : Host.Outcome State Fault Refusal := s.factory

/-- CONSOLE_FUSE (R388). -/
def execConsoleFuse (s : State) : Host.Outcome State Fault Refusal := s.factory

end Sys2Proof.Machine
end

