-- ==== Sys2Proof/Machine/ConsoleLine.lean ====
section
/-! DEFINITION. A line of the Mormen console: its characters, its tokens and the command they spell (R387, Table 18-6). -/

namespace Sys2Proof.Machine
open Sys2Proof

/-! ### Ball names (Table 3-1) -/

/-- Row A of Table 3-1. -/
def ballRowA : List String :=
  ["HRX0_D0P", "HRX0_CKP", "HRX0_D1P", "VSS", "HRX1_D0P", "HRX1_CKP", "HRX1_D1P", "VSS",
   "HRX2_D0P", "HRX2_CKP", "HRX2_D1P", "VSS", "HRX3_D0P", "HRX3_CKP", "HRX3_D1P", "VSS"]

/-- Row B of Table 3-1. -/
def ballRowB : List String :=
  ["HRX0_D0N", "HRX0_CKN", "HRX0_D1N", "VSS", "HRX1_D0N", "HRX1_CKN", "HRX1_D1N", "VSS",
   "HRX2_D0N", "HRX2_CKN", "HRX2_D1N", "VSS", "HRX3_D0N", "HRX3_CKN", "HRX3_D1N", "VSS"]

/-- Row C of Table 3-1. -/
def ballRowC : List String :=
  ["SYNC0", "HRST_N0", "VDD_PHY", "VSS", "SYNC1", "HRST_N1", "VSS", "VDDIO18",
   "SYNC2", "HRST_N2", "VSS", "VDD_PHY", "SYNC3", "HRST_N3", "VSS", "VDDIO18"]

/-- Row D of Table 3-1. -/
def ballRowD : List String :=
  ["AIN0", "AIN1", "VSSA", "XIN", "XOUT", "RESET_N", "PGOOD", "LIVE",
   "ALERT_N", "SYSOFF_N", "SVC_TX", "SVC_RX", "PCS5_N", "VSS", "CTX_D0N", "CTX_D0P"]

/-- Row E of Table 3-1. -/
def ballRowE : List String :=
  ["AIN2", "AIN3", "VDDA18", "BOOTSEL0", "VDD_MEM", "VDD_MEM", "VSS", "VDD_MEM",
   "VDD_MEM", "VSS", "VDD_MEM", "VDDIO18", "PCLK", "VDD_PHY", "CTX_D1N", "CTX_D1P"]

/-- Row F of Table 3-1. -/
def ballRowF : List String :=
  ["AIN4", "AIN5", "VSSA", "BOOTSEL1", "VDD_MEM", "VSS", "VDD_CORE", "VDD_CORE",
   "VDD_CORE", "VDD_CORE", "VSS", "VDD_MEM", "PMOSI", "VSS", "CTX_CKN", "CTX_CKP"]

/-- Row G of Table 3-1. -/
def ballRowG : List String :=
  ["AIN6", "AIN7", "VDDA18", "TRIPSEL0", "VDD_CORE", "VDD_CORE", "VSS", "VDD_CORE",
   "VDD_CORE", "VSS", "VDD_CORE", "VDD_CORE", "PMISO", "VDD_PHY", "CTX_D2N", "CTX_D2P"]

/-- Row H of Table 3-1. -/
def ballRowH : List String :=
  ["AIN8", "AIN9", "VSSA", "TRIPSEL1", "VDD_MEM", "VDD_CORE", "VDD_CORE", "VSS",
   "VSS", "VDD_CORE", "VDD_CORE", "VDD_MEM", "PCS0_N", "VSS", "CTX_D3N", "CTX_D3P"]

/-- Row J of Table 3-1. -/
def ballRowJ : List String :=
  ["AIN10", "AIN11", "VDDA18", "TCK", "VDD_MEM", "VDD_CORE", "VDD_CORE", "VSS",
   "VSS", "VDD_CORE", "VDD_CORE", "VDD_MEM", "PCS1_N", "VSS", "HCS_N", "HCLK"]

/-- Row K of Table 3-1. -/
def ballRowK : List String :=
  ["REFP", "REFN", "VSSA", "TMS", "VDD_CORE", "VDD_CORE", "VSS", "VDD_CORE",
   "VDD_CORE", "VSS", "VDD_CORE", "VDD_CORE", "PCS2_N", "HIRQ_N", "HSO", "HSI"]

/-- Row L of Table 3-1. -/
def ballRowL : List String :=
  ["DAC0", "DAC1", "VDDA18", "TDI", "VDD_AON", "VDD_CORE", "VDD_CORE", "VSS",
   "VDD_MEM", "VDD_CORE", "VDD_CORE", "VDD_AON", "PCS3_N", "FCS1_N", "FCS0_N", "FCLK"]

/-- Row M of Table 3-1. -/
def ballRowM : List String :=
  ["DAC2", "DAC3", "TESTMON", "TDO", "VDDIO33", "VSS", "VDDIO33", "VSS",
   "VDDIO18", "VDDIO33", "VSS", "VDDIO33", "PCS4_N", "VDDIO18", "FIO1", "FIO0"]

/-- Row N of Table 3-1. -/
def ballRowN : List String :=
  ["DAC4", "DAC5", "VSS", "RTCXIN", "RTCXOUT", "BUS0_TX", "BUS0_RX", "BUS0_DE",
   "BUS1_TX", "BUS1_RX", "BUS1_DE", "GPIO3", "NVWP_N", "VDDIO18", "FIO3", "FIO2"]

/-- Row P of Table 3-1. -/
def ballRowP : List String :=
  ["FAN0_FG", "FAN1_FG", "FAN2_FG", "GPIO0", "VS0", "VS1", "VS2", "VS3",
   "VS4", "VS5", "VS6", "VS7", "HSW0", "HSW1", "GPIO1", "GPIO2"]

/-- Row T of Table 3-1. -/
def ballRowT : List String :=
  ["FAN0_BEMFA", "FAN0_BEMFB", "FAN0_BEMFC", "FAN0_ISNS", "FAN1_BEMFA", "FAN1_BEMFB", "FAN1_BEMFC", "FAN1_ISNS",
   "FAN2_BEMFA", "FAN2_BEMFB", "FAN2_BEMFC", "FAN2_ISNS", "VG4", "VG5", "VG6", "VG7"]

/-- Row U of Table 3-1. -/
def ballRowU : List String :=
  ["FAN0_PHA", "FAN0_PHB", "FAN0_PHC", "FAN0_EN", "FAN1_PHA", "FAN1_PHB", "FAN1_PHC", "FAN1_EN",
   "FAN2_PHA", "FAN2_PHB", "FAN2_PHC", "FAN2_EN", "VG0", "VG1", "VG2", "VG3"]

/-- The ball map, row by row. -/
def ballNames : List String :=
  ballRowA ++ ballRowB ++ ballRowC ++ ballRowD ++ ballRowE ++ ballRowF ++ ballRowG ++ ballRowH ++ ballRowJ ++ ballRowK ++
  ballRowL ++ ballRowM ++ ballRowN ++ ballRowP ++ ballRowT ++ ballRowU

/-! ### Tokens -/

/-- A token: the codes of its characters, letters as capitals. -/
abbrev Token : Type := List Nat

/-- The token that a name spells. -/
def tok (s : String) : Token := s.toList.map Char.toNat

/-- Letters are taken in either case. -/
def upper (c : Nat) : Nat := if 0x61 ≤ c ∧ c ≤ 0x7A then c - 0x20 else c

/-- The characters that stand when CR comes, and whether there were ever more than 96: LF is ignored, 0x08 deletes the last
character. -/
def lineChars : List Byte → List Nat → Bool → List Nat × Bool
  | [], acc, long => (acc.reverse, long)
  | c :: cs, acc, long =>
    let n := c.toNat
    if n = 0x0A then lineChars cs acc long
    else if n = 0x08 then lineChars cs acc.tail long
    else lineChars cs (n :: acc) (long || Nat.ble 96 acc.length)

/-- Tokens separated by spaces. -/
def tokens : List Nat → Token → List Token
  | [], cur => if cur.isEmpty then [] else [cur.reverse]
  | c :: cs, cur =>
    if c = 0x20 then (if cur.isEmpty then tokens cs [] else cur.reverse :: tokens cs [])
    else tokens cs (upper c :: cur)

def hexDigit (c : Nat) : Option Nat :=
  if 0x30 ≤ c ∧ c ≤ 0x39 then some (c - 0x30) else if 0x41 ≤ c ∧ c ≤ 0x46 then some (c - 0x37) else none

/-- Digits in a base; underscores may stand in a hexadecimal number. -/
def digits (base : Nat) (skip : Bool) : Token → Nat → Bool → Option Nat
  | [], n, some_ => if some_ then some n else none
  | c :: cs, n, some_ =>
    if skip && c == 0x5F then digits base skip cs n some_
    else match hexDigit c with
      | some d => if d < base then digits base skip cs (base * n + d) true else none
      | none => none

/-- A number: decimal, or hexadecimal behind 0x. -/
def number (t : Token) : Option Nat :=
  match t with
  | 0x30 :: 0x58 :: cs => digits 16 true cs 0 false
  | _ => digits 10 false t 0 false

/-! ### Names -/

/-- A name with the unit number that its last character is. -/
def unitName (t : Token) (base : String) (n : Nat) : Option Nat :=
  (List.range n).find? (fun i => decide (t = tok base ++ [0x30 + i]))

/-- Blocks of Table 2-13 without a unit number. -/
def plainBlocks : List (String × Blk) :=
  [("SYS", .sys), ("PWR", .pwr), ("CLK", .clk), ("THM", .thm), ("BOOT", .boot), ("TALLY", .tally), ("FLW", .flw),
   ("PSP", .psp), ("HSP", .hsp), ("SVC", .svc), ("FUSE", .fuse), ("SHUT", .shut), ("STAND", .stand), ("OCC", .occ)] ++
  [("CTX", .ctx), ("CMP", .cmp), ("CTLA", .ctl 0), ("CTLB", .ctl 1), ("PRF", .prf), ("TRC", .trc), ("AFE", .afe),
   ("ADC", .adc), ("FAN", .fan), ("VLV", .vlv), ("DAC", .dac), ("GPIO", .gpio), ("SCHED", .sched), ("POINT", .point),
   ("FAB", .fab), ("AGE", .age)]

/-- A block by its name in Table 2-13. -/
def blockName (t : Token) : Option Blk :=
  match plainBlocks.find? (fun p => decide (tok p.1 = t)) with
  | some p => some p.2
  | none =>
    match unitName t "HEAD" 4 with
    | some h => some (.head (Fin.ofNat 4 h))
    | none => match unitName t "PE" 4 with
      | some h => some (.pe (Fin.ofNat 4 h))
      | none => (unitName t "BUS" 2).map (fun p => .bus (Fin.ofNat 2 p))

/-- A ball by its name in Table 3-1; supply and ground balls have none of their own. -/
def ballName (t : Token) : Option Nat :=
  let i := ballNames.findIdx (fun n => decide (tok n = t))
  if i < 256 ∧ !(tok "VSS" == t || tok "VDD" == t.take 3 || tok "VSSA" == t) then some i else none

/-- TESTMON sources by name (Table 18-7), or by number. -/
def monName (t : Token) : Option Nat :=
  match ["OFF", "XDIV", "CORE", "MEM", "AON", "IO18", "IO33", "A18", "PHY", "VREF"].findIdx? (fun n => decide (tok n = t)) with
  | some i => some i
  | none => number t

/-- Eight hexadecimal digits. -/
def hashGroup (t : Token) : Option Nat := if t.length = 8 then digits 16 false t 0 false else none

/-- Eight groups of eight digits, the first one highest. -/
def hashOf : List Token → Nat → Option Nat
  | [], n => some n
  | t :: ts, n => match hashGroup t with
    | some g => hashOf ts (n * 2 ^ 32 + g)
    | none => none

/-! ### Commands -/

/-- What a line asks for. -/
inductive Line where
  | cmd (c : ConCmd)
  /-- LOG without a count: how many records it lists is open. -/
  | logAll
  | lockDbg
  | lockPriv
  | lockKey (hash : BitVec 256)
  | factory
  deriving DecidableEq, Repr

/-- A command of numbers only. -/
def numbers (name : Token) (args : List Nat) : Option ConCmd :=
  if name = tok "RD" then
    (match args with
     | [a] => some (.rd a 1)
     | [a, n] => some (.rd a n)
     | _ => none)
  else if name = tok "WR" then (match args with | [a, v] => some (.wr a v) | _ => none)
  else if name = tok "LOG" then (match args with | [n] => some (.log n) | _ => none)
  else if name = tok "CNT" then (match args with | [c] => some (.cnt c) | _ => none)
  else if name = tok "DUMP" then (match args with | [h, l, f, n] => some (.dump h l f n) | _ => none)
  else if name = tok "DAC" then (match args with | [c, v] => some (.dac c (some v)) | _ => none)
  else none

/-- BALL and what follows. -/
def ballLine (args : List Token) : Option ConCmd :=
  match args with
  | [a] => if a = tok "RELALL" then some .releaseAll else none
  | [a, l] =>
    (match ballName a with
     | none => none
     | some b =>
       if l = tok "H" then some (.force b .high)
       else if l = tok "L" then some (.force b .low)
       else if l = tok "Z" then some (.force b .z)
       else if l = tok "REL" then some (.release b)
       else none)
  | _ => none

/-- DAC, VLV and FAN with a word. -/
def channelLine (name : Token) (args : List Token) : Option ConCmd :=
  match args with
  | [c, w] =>
    (match number c with
     | none => none
     | some c =>
       if name = tok "DAC" ∧ w = tok "REL" then some (.dac c none)
       else if name = tok "VLV" ∧ w = tok "OFF" then some (.vlvOff c)
       else if name = tok "VLV" ∧ w = tok "REL" then some (.vlvRel c)
       else if name = tok "FAN" ∧ w = tok "OFF" then some (.fan c (some 0))
       else if name = tok "FAN" ∧ w = tok "REL" then some (.fan c none)
       else none)
  | [c, w, v] =>
    (match number c, number v with
     | some c, some v =>
       if name = tok "VLV" ∧ w = tok "HOLD" then some (.vlvHold c v)
       else if name = tok "FAN" ∧ w = tok "RPM" then some (.fan c (some v))
       else none
     | _, _ => none)
  | _ => none

/-- AFE and what follows. -/
def afeLine (args : List Token) : Option ConCmd :=
  match args with
  | [q, w] =>
    if w ≠ tok "OFF" then none
    else if q = tok "A" then some (.afeOff 0) else if q = tok "B" then some (.afeOff 1) else none
  | [q, w, pin, m, mag] =>
    let q := if q = tok "A" then 0 else if q = tok "B" then 1 else 2
    (match number pin, number mag with
     | some pin, some mag =>
       if w ≠ tok "EXC" then none
       else if m = tok "I" then some (.afe q pin mag false) else if m = tok "V" then some (.afe q pin mag true) else none
     | _, _ => none)
  | _ => none

/-- LOCK and what follows. -/
def lockLine (args : List Token) : Option Line :=
  match args with
  | [] => none
  | w :: ts =>
    if w = tok "DBG" ∧ ts.isEmpty then some .lockDbg
    else if w = tok "PRIV" ∧ ts.isEmpty then some .lockPriv
    else if w = tok "KEY" ∧ ts.length = 8 then (hashOf ts 0).map (fun n => .lockKey (BitVec.ofNat 256 n))
    else none

/-- All arguments as numbers. -/
def allNumbers : List Token → Option (List Nat)
  | [] => some []
  | t :: ts => match number t, allNumbers ts with
    | some n, some ns => some (n :: ns)
    | _, _ => none

/-- The request that a line's tokens spell; none for a line that is not recognised. -/
def parseLine (ts : List Token) : Option Line :=
  match ts with
  | [] => none
  | name :: args =>
    if [tok "MEM", tok "TRIM", tok "SCAN", tok "FUSE"].any (fun n => decide (n = name)) then some .factory
    else if name = tok "ID" ∧ args.isEmpty then some (.cmd .ident)
    else if name = tok "STAT" ∧ args.isEmpty then some (.cmd .stat)
    else if name = tok "LOG" ∧ args.isEmpty then some .logAll
    else if name = tok "UL" then
      (match args with | [b] => (blockName b).map (fun b => .cmd (.ul b)) | _ => none)
    else if name = tok "LK" then
      (match args with | [b] => (blockName b).map (fun b => .cmd (.lk b)) | _ => none)
    else if name = tok "SVC" then
      (if args = [tok "ENTER"] then some (.cmd (.svc true)) else if args = [tok "LEAVE"] then some (.cmd (.svc false)) else none)
    else if name = tok "MON" then (match args with | [m] => (monName m).map (fun n => .cmd (.mon n)) | _ => none)
    else if name = tok "BALL" then (ballLine args).map .cmd
    else if name = tok "AFE" then (afeLine args).map .cmd
    else if name = tok "LOCK" then lockLine args
    else match channelLine name args with
      | some c => some (.cmd c)
      | none => match allNumbers args with
        | some ns => (numbers name ns).map .cmd
        | none => none

/-- The state in which a line has been echoed with its CR, counted, and thrown away if it was too long (R387, Table 18-28). -/
def State.lineCounted (s : State) (chars : List Byte) (long : Bool) : State :=
  let s := { s with svc := { s.svc with echo := chars ++ [0x0D#8] } }.bump Reg.SVC_LINES
  if long then s.bump Reg.SVC_LONG else s

/-! ### What the console sends (R387) -/

/-- The names of Table 2-7, by code. -/
def statusNames : List String :=
  ["OK", "ILLEGAL_STATE", "BAD_ARG", "DOWN", "REFUSED", "DELAYED", "OUT_OF_SPACE", "NOT_YET"] ++
  ["STALE", "HELD", "CHECK_FAIL", "TIMEOUT", "LOCKED", "IMPLAUSIBLE", "OVERRUN", "HOLE"] ++
  ["EQUAL_SEQ", "DROPPED", "SHORT_FRAME", "LONG_FRAME", "MISSED", "CLIPPED", "FAULT", "BUSY"]

/-- The final line of the answer and the prompt after it: "= NAME", then "> " (R387). How the console ends its lines is open. -/
def State.conFinal (s : State) : List String :=
  ["= " ++ (statusNames[s.rd Reg.SVC_STAT_LAST]?).getD "", "> "]

/-- CONSOLE_LINE: the characters of a line, up to its CR (R387). A blank line asks nothing (DEDUCED, notes/assumptions/92). -/
def execConsoleLine (chars : List Byte) (s : State) : Host.Outcome State Fault Refusal :=
  if !s.conAlive then done fpConsole s s
  else
    let (cs, long) := lineChars chars [] false
    let t := s.lineCounted chars long
    let ts := tokens cs []
    if long || ts.isEmpty then done fpConsole s t
    else match parseLine ts with
      | none => done fpConsole s (t.say [] Status.BAD_ARG)
      | some (.cmd c) => done fpConsole s (t.conRun c)
      | some .logAll =>
        let (n, u) := t.freeN
        done fpConsole s (u.conRun (.log (n % 64 + 1)))
      | some .lockDbg =>
        let (b, u) := t.freeB
        done fpConLock s (u.lockField 8 b)
      | some .lockPriv =>
        let (b, u) := t.freeB
        done fpConLock s (u.lockField 12 b)
      | some (.lockKey hash) =>
        let (b, u) := t.freeB
        done fpConLock s (u.lockKey hash b)
      | some .factory =>
        if t.dbgLock then done fpConsole s (t.say [] Status.LOCKED)
        else if !t.service then done fpConsole s (t.say [] Status.ILLEGAL_STATE)
        else .fault .factoryEffectUnstated

end Sys2Proof.Machine
end

