-- ==== Sys2Proof/Machine/Dispatch.lean ====
section
/-! DEFINITION. One arm per command: a direct call of its meaning, or a rejection by name. -/

namespace Sys2Proof.Machine
open Sys2Proof

/-- The effect of a command on everything but the queue of pending commands. -/
def exec (i : Instr) (s : State) : Host.Outcome State Fault Refusal :=
  match i with
  | .stEdge => Sys2Proof.Machine.execStEdge s
  | .ftEdge => Sys2Proof.Machine.execFtEdge s
  | .syncPulseEnd h => Sys2Proof.Machine.execSyncPulseEnd h s
  | .liveToggle => Sys2Proof.Machine.execLiveToggle s
  | .sysStinc0Write v => Sys2Proof.Machine.execSysStinc0Write v s
  | .sysStinc1Write v => Sys2Proof.Machine.execSysStinc1Write v s
  | .sysFtdivWrite v => Sys2Proof.Machine.execSysFtdivWrite v s
  | .captureRead addr => Sys2Proof.Machine.execCaptureRead addr s
  | .rcRegisterRead addr => Sys2Proof.Machine.execRcRegisterRead addr s
  | .statisticsDeadline h => Sys2Proof.Machine.execStatisticsDeadline h s
  | .loopEvaluation l => Sys2Proof.Machine.execLoopEvaluation l s
  | .ctlOff c => Sys2Proof.Machine.execCtlOff c s
  | .ctlOpen c => Sys2Proof.Machine.execCtlOpen c s
  | .ctlManual c => Sys2Proof.Machine.execCtlManual c s
  | .ctlAuto c => Sys2Proof.Machine.execCtlAuto c s
  | .ctlReset c => Sys2Proof.Machine.execCtlReset c s
  | .traceArm u => Sys2Proof.Machine.execTraceArm u s
  | .traceTrigger u => Sys2Proof.Machine.execTraceTrigger u s
  | .traceStop u => Sys2Proof.Machine.execTraceStop u s
  | .trcRselWrite v => Sys2Proof.Machine.execTrcRselWrite v s
  | .profileStep g => Sys2Proof.Machine.execProfileStep g s
  | .prfSync => Sys2Proof.Machine.execPrfSync s
  | .prfPreset => Sys2Proof.Machine.execPrfPreset s
  | .pointAgeTick => Sys2Proof.Machine.execPointAgeTick s
  | .pointWriteTimeout n => Sys2Proof.Machine.execPointWriteTimeout n s
  | .pointStale n => Sys2Proof.Machine.execPointStale n s
  | .pointWindowWrite n v => Sys2Proof.Machine.execPointWindowWrite n v s
  | .pointForce => Sys2Proof.Machine.execPointForce s
  | .pointRelease => Sys2Proof.Machine.execPointRelease s
  | .pointReleaseAll => Sys2Proof.Machine.execPointReleaseAll s
  | .blockUnlock b => Sys2Proof.Machine.execBlockUnlock b s
  | .blockLock b v => Sys2Proof.Machine.execBlockLock b v s
  | .unlockTimeout b => Sys2Proof.Machine.execUnlockTimeout b s
  | .registerWrite addr v => Sys2Proof.Machine.execRegisterWrite addr v s
  | .serviceEnter => Sys2Proof.Machine.execServiceEnter s
  | .serviceLeave => Sys2Proof.Machine.execServiceLeave s
  | .drainComplete e => Sys2Proof.Machine.execDrainComplete e s
  | .resetAssert => Sys2Proof.Machine.execResetAssert s
  | .pgoodFall => Sys2Proof.Machine.execPgoodFall s
  | .resetRelease => Sys2Proof.Machine.execResetRelease s
  | .powerOnReset => Sys2Proof.Machine.execPowerOnReset s
  | .railMonitorTrip rail => Sys2Proof.Machine.execRailMonitorTrip rail s
  | .railRecovery => Sys2Proof.Machine.execRailRecovery s
  | .forcedVgTimeout v => Sys2Proof.Machine.execForcedVgTimeout v s
  | .strapSampling samples => Sys2Proof.Machine.execStrapSampling samples s
  | .domainOn => Sys2Proof.Machine.execDomainOn s
  | .domainRet => Sys2Proof.Machine.execDomainRet s
  | .domainOff => Sys2Proof.Machine.execDomainOff s
  | .domainTransitionDone d => Sys2Proof.Machine.execDomainTransitionDone d s
  | .peRetentionEntry => Sys2Proof.Machine.execPeRetentionEntry s
  | .xtalCheck count => Sys2Proof.Machine.execXtalCheck count s
  | .ioscTrim count => Sys2Proof.Machine.execIoscTrim count s
  | .xinLoss => Sys2Proof.Machine.execXinLoss s
  | .holdoverExpiry => Sys2Proof.Machine.execHoldoverExpiry s
  | .xinReturn => Sys2Proof.Machine.execXinReturn s
  | .pllmUnlock => Sys2Proof.Machine.execPllmUnlock s
  | .pllbUnlock => Sys2Proof.Machine.execPllbUnlock s
  | .pllbRelockDone => Sys2Proof.Machine.execPllbRelockDone s
  | .rtcSourceSelect ok => Sys2Proof.Machine.execRtcSourceSelect ok s
  | .rtcCrystalStop => Sys2Proof.Machine.execRtcCrystalStop s
  | .thermalSample readings dt => Sys2Proof.Machine.execThermalSample readings dt s
  | .sensorClear k => Sys2Proof.Machine.execSensorClear k s
  | .trip => Sys2Proof.Machine.execTrip s
  | .shutdownRecord => Sys2Proof.Machine.execShutdownRecord s
  | .tripDomainsOff => Sys2Proof.Machine.execTripDomainsOff s
  | .warmRestart => Sys2Proof.Machine.execWarmRestart s
  | .nautoWindowEnd => Sys2Proof.Machine.execNautoWindowEnd s
  | .bootSequencerStart => Sys2Proof.Machine.execBootSequencerStart s
  | .flashNegotiation c0 c1 => Sys2Proof.Machine.execFlashNegotiation c0 c1 s
  | .copySelection => Sys2Proof.Machine.execCopySelection s
  | .copyVerify => Sys2Proof.Machine.execCopyVerify s
  | .planRead b0 b1 => Sys2Proof.Machine.execPlanRead b0 b1 s
  | .controlStage => Sys2Proof.Machine.execControlStage s
  | .imagingStage => Sys2Proof.Machine.execImagingStage s
  | .hostBegin => Sys2Proof.Machine.execHostBegin s
  | .hostCancel => Sys2Proof.Machine.execHostCancel s
  | .hostStreamWrite v => Sys2Proof.Machine.execHostStreamWrite v s
  | .hostStreamTimeout => Sys2Proof.Machine.execHostStreamTimeout s
  | .bootAlertClear v => Sys2Proof.Machine.execBootAlertClear v s
  | .reloadStart => Sys2Proof.Machine.execReloadStart s
  | .reloadChecksDone b => Sys2Proof.Machine.execReloadChecksDone b s
  | .clusterReloadDrain => Sys2Proof.Machine.execClusterReloadDrain s
  | .reloadLoadDone ok => Sys2Proof.Machine.execReloadLoadDone ok s
  | .clusterReturn => Sys2Proof.Machine.execClusterReturn s
  | .frameStart h vc t => Sys2Proof.Machine.execFrameStart h vc t s
  | .imageLine h vc raw16 px eccFixed crcOk => Sys2Proof.Machine.execImageLine h vc raw16 px eccFixed crcOk s
  | .telemetryPacket h vc dt bytes crcOk => Sys2Proof.Machine.execTelemetryPacket h vc dt bytes crcOk s
  | .packetDiscard h crcOk => Sys2Proof.Machine.execPacketDiscard h crcOk s
  | .headerEccError h corrected image => Sys2Proof.Machine.execHeaderEccError h corrected image s
  | .frameEnd h vc t => Sys2Proof.Machine.execFrameEnd h vc t s
  | .frameEndTimeout h => Sys2Proof.Machine.execFrameEndTimeout h s
  | .negotiationStart h => Sys2Proof.Machine.execNegotiationStart h s
  | .hrstRelease h => Sys2Proof.Machine.execHrstRelease h s
  | .hrstwaitExpiry h => Sys2Proof.Machine.execHrstwaitExpiry h s
  | .descriptorReadDone h bytes reads => Sys2Proof.Machine.execDescriptorReadDone h bytes reads s
  | .negotiationFsTimeout h => Sys2Proof.Machine.execNegotiationFsTimeout h s
  | .headCommit h t => Sys2Proof.Machine.execHeadCommit h t s
  | .headCancel h => Sys2Proof.Machine.execHeadCancel h s
  | .settingProgramStart h => Sys2Proof.Machine.execSettingProgramStart h s
  | .settingProgramDone h reads => Sys2Proof.Machine.execSettingProgramDone h reads s
  | .headSetWrite h off v => Sys2Proof.Machine.execHeadSetWrite h off v s
  | .burstStart => Sys2Proof.Machine.execBurstStart s
  | .burstEnd uecc cecc => Sys2Proof.Machine.execBurstEnd uecc cecc s
  | .filterReset h => Sys2Proof.Machine.execFilterReset h s
  | .pixelWindowWrite a v => Sys2Proof.Machine.execPixelWindowWrite a v s
  | .shutRecal h => Sys2Proof.Machine.execShutRecal h s
  | .shutAbort h => Sys2Proof.Machine.execShutAbort h s
  | .elapsedTick h => Sys2Proof.Machine.execElapsedTick h s
  | .cruiseStart => Sys2Proof.Machine.execCruiseStart s
  | .cruiseSurveyEnd h => Sys2Proof.Machine.execCruiseSurveyEnd h s
  | .cruiseTimeout => Sys2Proof.Machine.execCruiseTimeout s
  | .statisticsPassStart => Sys2Proof.Machine.execStatisticsPassStart s
  | .statisticsPassEnd uecc => Sys2Proof.Machine.execStatisticsPassEnd uecc s
  | .standRselWrite v => Sys2Proof.Machine.execStandRselWrite v s
  | .occBselWrite v => Sys2Proof.Machine.execOccBselWrite v s
  | .bkgReset h => Sys2Proof.Machine.execBkgReset h s
  | .trackClear h => Sys2Proof.Machine.execTrackClear h s
  | .ctxFrameSend t => Sys2Proof.Machine.execCtxFrameSend t s
  | .ctxRepeatSend h t => Sys2Proof.Machine.execCtxRepeatSend h t s
  | .ctxLinkChange v => Sys2Proof.Machine.execCtxLinkChange v s
  | .ctxDeskew => Sys2Proof.Machine.execCtxDeskew s
  | .adcConversionEnd q code clip fault => Sys2Proof.Machine.execAdcConversionEnd q code clip fault s
  | .urgentTimedRequest slot => Sys2Proof.Machine.execUrgentTimedRequest slot s
  | .urgentRequest slot => Sys2Proof.Machine.execUrgentRequest slot s
  | .adcQheadRead q => Sys2Proof.Machine.execAdcQheadRead q s
  | .calZero q slot => Sys2Proof.Machine.execCalZero q slot s
  | .calFs q slot => Sys2Proof.Machine.execCalFs q slot s
  | .calAbort q slot => Sys2Proof.Machine.execCalAbort q slot s
  | .calZwaitTimeout q => Sys2Proof.Machine.execCalZwaitTimeout q s
  | .fanPwmPeriod c code => Sys2Proof.Machine.execFanPwmPeriod c code s
  | .fanCurrentLimit c => Sys2Proof.Machine.execFanCurrentLimit c s
  | .fanZeroCrossing c dt => Sys2Proof.Machine.execFanZeroCrossing c dt s
  | .fanFgEdge c dt => Sys2Proof.Machine.execFanFgEdge c dt s
  | .fanMeasureWrite c => Sys2Proof.Machine.execFanMeasureWrite c s
  | .fanCatchEnd c outcome => Sys2Proof.Machine.execFanCatchEnd c outcome s
  | .fanBrakeEnd c => Sys2Proof.Machine.execFanBrakeEnd c s
  | .fanStartTimeout c => Sys2Proof.Machine.execFanStartTimeout c s
  | .fanWaitEnd c => Sys2Proof.Machine.execFanWaitEnd c s
  | .fanRotationLost c => Sys2Proof.Machine.execFanRotationLost c s
  | .fanFgLost c => Sys2Proof.Machine.execFanFgLost c s
  | .fanOvercurrent c => Sys2Proof.Machine.execFanOvercurrent c s
  | .fanClear c => Sys2Proof.Machine.execFanClear c s
  | .groupSensorTimeout g => Sys2Proof.Machine.execGroupSensorTimeout g s
  | .windowComparatorTrip g ratio => Sys2Proof.Machine.execWindowComparatorTrip g ratio s
  | .valveCycleStart v => Sys2Proof.Machine.execValveCycleStart v s
  | .valveLeadExpiry v => Sys2Proof.Machine.execValveLeadExpiry v s
  | .valveIpkReached v t => Sys2Proof.Machine.execValveIpkReached v t s
  | .valvePeakEnd v t halfSeen => Sys2Proof.Machine.execValvePeakEnd v t halfSeen s
  | .valveChopPeriod v => Sys2Proof.Machine.execValveChopPeriod v s
  | .valveChopOff v onNs => Sys2Proof.Machine.execValveChopOff v onNs s
  | .valveClear v => Sys2Proof.Machine.execValveClear v s
  | .gpioInputSample g level => Sys2Proof.Machine.execGpioInputSample g level s
  | .actuatorTrendRecord => Sys2Proof.Machine.execActuatorTrendRecord s
  | .mstpFrameReceived p f => Sys2Proof.Machine.execMstpFrameReceived p f s
  | .mstpNoToken p => Sys2Proof.Machine.execMstpNoToken p s
  | .mstpUsageTimeout p => Sys2Proof.Machine.execMstpUsageTimeout p s
  | .mstpSlotTimeout p => Sys2Proof.Machine.execMstpSlotTimeout p s
  | .autobaudDwell p => Sys2Proof.Machine.execAutobaudDwell p s
  | .autobaudTimeout p => Sys2Proof.Machine.execAutobaudTimeout p s
  | .busRedetect p => Sys2Proof.Machine.execBusRedetect p s
  | .whoIs p range => Sys2Proof.Machine.execWhoIs p range s
  | .readProperty p src obj prop index => Sys2Proof.Machine.execReadProperty p src obj prop index s
  | .readPropertyMultiple p src specs => Sys2Proof.Machine.execReadPropertyMultiple p src specs s
  | .writeProperty p src obj prop value prio => Sys2Proof.Machine.execWriteProperty p src obj prop value prio s
  | .subscribeCov p src proc obj cancel confirmed life => Sys2Proof.Machine.execSubscribeCov p src proc obj cancel confirmed life s
  | .unrecognizedService p src confirmed => Sys2Proof.Machine.execUnrecognizedService p src confirmed s
  | .covScan p => Sys2Proof.Machine.execCovScan p s
  | .covExpiry p sub => Sys2Proof.Machine.execCovExpiry p sub s
  | .modbusCycleStart p => Sys2Proof.Machine.execModbusCycleStart p s
  | .modbusRequest p => Sys2Proof.Machine.execModbusRequest p s
  | .modbusResponse p bytes checkOk => Sys2Proof.Machine.execModbusResponse p bytes checkOk s
  | .modbusResponseTimeout p => Sys2Proof.Machine.execModbusResponseTimeout p s
  | .modbusNegotiation p replies => Sys2Proof.Machine.execModbusNegotiation p replies s
  | .busSelWrite p off v => Sys2Proof.Machine.execBusSelWrite p off v s
  | .flashWindowWrite a v => Sys2Proof.Machine.execFlashWindowWrite a v s
  | .flashBufferTimeout tally => Sys2Proof.Machine.execFlashBufferTimeout tally s
  | .flashStatusPoll wip => Sys2Proof.Machine.execFlashStatusPoll wip s
  | .flashProgramDone timeout mismatch => Sys2Proof.Machine.execFlashProgramDone timeout mismatch s
  | .flashErase => Sys2Proof.Machine.execFlashErase s
  | .flashFlush => Sys2Proof.Machine.execFlashFlush s
  | .flashEraseDone => Sys2Proof.Machine.execFlashEraseDone s
  | .flashEraseTimeout => Sys2Proof.Machine.execFlashEraseTimeout s
  | .directFetch sec block => Sys2Proof.Machine.execDirectFetch sec block s
  | .windowFetchDone w => Sys2Proof.Machine.execWindowFetchDone w s
  | .pspStart => Sys2Proof.Machine.execPspStart s
  | .pspTransactionDone rx => Sys2Proof.Machine.execPspTransactionDone rx s
  | .hspReadIncrement addr => Sys2Proof.Machine.execHspReadIncrement addr s
  | .hspReadFixed addr => Sys2Proof.Machine.execHspReadFixed addr s
  | .hspWriteIncrement addr => Sys2Proof.Machine.execHspWriteIncrement addr s
  | .hspWriteFixed addr => Sys2Proof.Machine.execHspWriteFixed addr s
  | .hspBadCommand => Sys2Proof.Machine.execHspBadCommand s
  | .hspReadFrame => Sys2Proof.Machine.execHspReadFrame s
  | .hspWriteFrame frame => Sys2Proof.Machine.execHspWriteFrame frame s
  | .hspSelectRise k bits => Sys2Proof.Machine.execHspSelectRise k bits s
  | .hspIrqClear v => Sys2Proof.Machine.execHspIrqClear v s
  | .tallyPulseDone => Sys2Proof.Machine.execTallyPulseDone s
  | .tallySelect => Sys2Proof.Machine.execTallySelect s
  | .tallyBegin => Sys2Proof.Machine.execTallyBegin s
  | .tallyCommit => Sys2Proof.Machine.execTallyCommit s
  | .tallyWindowWrite a v => Sys2Proof.Machine.execTallyWindowWrite a v s
  | .tallyInc => Sys2Proof.Machine.execTallyInc s
  | .tallyHourly => Sys2Proof.Machine.execTallyHourly s
  | .counterScanDone => Sys2Proof.Machine.execCounterScanDone s
  | .cmpSubmit => Sys2Proof.Machine.execCmpSubmit s
  | .cmpFlush v pos => Sys2Proof.Machine.execCmpFlush v pos s
  | .cmpJobStart => Sys2Proof.Machine.execCmpJobStart s
  | .cmpJobDone flash => Sys2Proof.Machine.execCmpJobDone flash s
  | .residentRunStart h => Sys2Proof.Machine.execResidentRunStart h s
  | .cmpRselWrite v => Sys2Proof.Machine.execCmpRselWrite v s
  | .cmpOptrWrite off v => Sys2Proof.Machine.execCmpOptrWrite off v s
  | .fabricPromotion c3 slice cycles => Sys2Proof.Machine.execFabricPromotion c3 slice cycles s
  | .c3ShareWindow => Sys2Proof.Machine.execC3ShareWindow s
  | .fabricRequestToDrained r b tag answered => Sys2Proof.Machine.execFabricRequestToDrained r b tag answered s
  | .ageMeasureDue => Sys2Proof.Machine.execAgeMeasureDue s
  | .ageMeasure => Sys2Proof.Machine.execAgeMeasure s
  | .ageRetry => Sys2Proof.Machine.execAgeRetry s
  | .ageMeasureDelayed => Sys2Proof.Machine.execAgeMeasureDelayed s
  | .ageMeasureDone counts => Sys2Proof.Machine.execAgeMeasureDone counts s
  | .consoleLine chars => Sys2Proof.Machine.execConsoleLine chars s
  | .consoleId => Sys2Proof.Machine.execConsoleId s
  | .consoleStat => Sys2Proof.Machine.execConsoleStat s
  | .consoleRd addr count => Sys2Proof.Machine.execConsoleRd addr count s
  | .consoleWr addr v => Sys2Proof.Machine.execConsoleWr addr v s
  | .consoleUl b => Sys2Proof.Machine.execConsoleUl b s
  | .consoleLk b => Sys2Proof.Machine.execConsoleLk b s
  | .consoleSvcEnter => Sys2Proof.Machine.execConsoleSvcEnter s
  | .consoleSvcLeave => Sys2Proof.Machine.execConsoleSvcLeave s
  | .consoleLog count => Sys2Proof.Machine.execConsoleLog count s
  | .consoleCnt c => Sys2Proof.Machine.execConsoleCnt c s
  | .consoleDump h line first count => Sys2Proof.Machine.execConsoleDump h line first count s
  | .consoleBallForce ball level => Sys2Proof.Machine.execConsoleBallForce ball level s
  | .consoleBallRelease ball => Sys2Proof.Machine.execConsoleBallRelease ball s
  | .consoleBallReleaseAll => Sys2Proof.Machine.execConsoleBallReleaseAll s
  | .consoleDacHold c code => Sys2Proof.Machine.execConsoleDacHold c code s
  | .consoleDacRelease c => Sys2Proof.Machine.execConsoleDacRelease c s
  | .consoleVlvHold c code => Sys2Proof.Machine.execConsoleVlvHold c code s
  | .consoleVlvOff c => Sys2Proof.Machine.execConsoleVlvOff c s
  | .consoleVlvRelease c => Sys2Proof.Machine.execConsoleVlvRelease c s
  | .consoleFanRpm c rpm => Sys2Proof.Machine.execConsoleFanRpm c rpm s
  | .consoleFanOff c => Sys2Proof.Machine.execConsoleFanOff c s
  | .consoleFanRelease c => Sys2Proof.Machine.execConsoleFanRelease c s
  | .consoleAfeExcCurrent q pin mag => Sys2Proof.Machine.execConsoleAfeExcCurrent q pin mag s
  | .consoleAfeExcVoltage q pin mag => Sys2Proof.Machine.execConsoleAfeExcVoltage q pin mag s
  | .consoleAfeOff q => Sys2Proof.Machine.execConsoleAfeOff q s
  | .consoleMon src => Sys2Proof.Machine.execConsoleMon src s
  | .lockDbg readBack => Sys2Proof.Machine.execLockDbg readBack s
  | .lockPriv readBack => Sys2Proof.Machine.execLockPriv readBack s
  | .lockKey hash readBack => Sys2Proof.Machine.execLockKey hash readBack s
  | .consoleMem => Sys2Proof.Machine.execConsoleMem s
  | .consoleTrim => Sys2Proof.Machine.execConsoleTrim s
  | .consoleScan => Sys2Proof.Machine.execConsoleScan s
  | .consoleFuse => Sys2Proof.Machine.execConsoleFuse s
  | .jtagIdcode => Sys2Proof.Machine.execJtagIdcode s
  | .jtagSamplePreload captured shifted => Sys2Proof.Machine.execJtagSamplePreload captured shifted s
  | .jtagExtest => Sys2Proof.Machine.execJtagExtest s
  | .jtagHighz => Sys2Proof.Machine.execJtagHighz s
  | .jtagBypass => Sys2Proof.Machine.execJtagBypass s
  | .jtagFactory code => Sys2Proof.Machine.execJtagFactory code s
  | .rtcSecond => Sys2Proof.Machine.execRtcSecond s
  | .schedRtcStage v => Sys2Proof.Machine.execSchedRtcStage v s
  | .schedRtcCommit v => Sys2Proof.Machine.execSchedRtcCommit v s
  | .schedOvrclr => Sys2Proof.Machine.execSchedOvrclr s
  | .powerOnResetRelease => Sys2Proof.Machine.execPowerOnResetRelease s
  | .d0LeavesReset => Sys2Proof.Machine.execD0LeavesReset s
  | .mstpFrameAbort p => Sys2Proof.Machine.execMstpFrameAbort p s
  | .ctxFrameDone t => Sys2Proof.Machine.execCtxFrameDone t s

end Sys2Proof.Machine
end

