-- ==== Sys2Proof/WellFormed.lean ====
section
/-! DEFINITION. Which commands are well formed: those whose operands the block's ports can carry. `exec` has a meaning for
the others too, and no statement rests on it. -/

namespace Sys2Proof
open Sys2Proof.Machine

/-- The greatest BACnet instance number: 22 bits (Table 15-3). -/
def maxInstance : Nat := 4194303

/-- A unicast MAC, and behind it a network number that is no broadcast. -/
def Machine.BAddr.inRange (a : BAddr) : Bool :=
  Nat.ble a.mac 254 && a.route.all (fun r => Nat.ble 1 r.1 && Nat.ble r.1 65534)

/-- The instance of an object identifier fits its 22 bits. -/
def Machine.BObjId.inRange : BObjId → Bool
  | .device n => Nat.ble n maxInstance
  | .obj _ n => Nat.ble n maxInstance
  | .unsupported _ n => Nat.ble n maxInstance

/-- The operands fit what carries them: a CSI-2 packet holds at most 65,535 bytes (R133), a descriptor 64 bytes (R138), a
transaction of the PSP 64 (Table 16-20), a window write the word at an even byte address (R342), MS/TP addresses an octet (R320), a line of the
console no CR (R387), a factory instruction of the JTAG port a code from 0x80 to 0xFE (R393). -/
def Instr.WellFormed : Instr → Prop
  | .stEdge => True
  | .ftEdge => True
  | .syncPulseEnd _ => True
  | .liveToggle => True
  | .sysStinc0Write _ => True
  | .sysStinc1Write _ => True
  | .sysFtdivWrite _ => True
  | .captureRead _ => True
  | .rcRegisterRead _ => True
  | .statisticsDeadline _ => True
  | .loopEvaluation _ => True
  | .ctlOff _ => True
  | .ctlOpen _ => True
  | .ctlManual _ => True
  | .ctlAuto _ => True
  | .ctlReset _ => True
  | .traceArm _ => True
  | .traceTrigger _ => True
  | .traceStop _ => True
  | .trcRselWrite _ => True
  | .profileStep _ => True
  | .prfSync => True
  | .prfPreset => True
  | .pointAgeTick => True
  | .pointWriteTimeout _ => True
  | .pointStale _ => True
  | .pointWindowWrite _ _ => True
  | .pointForce => True
  | .pointRelease => True
  | .pointReleaseAll => True
  | .blockUnlock _ => True
  | .blockLock _ _ => True
  | .unlockTimeout _ => True
  | .registerWrite _ _ => True
  | .serviceEnter => True
  | .serviceLeave => True
  | .drainComplete _ => True
  | .resetAssert => True
  | .pgoodFall => True
  | .resetRelease => True
  | .powerOnReset => True
  | .railMonitorTrip _ => True
  | .railRecovery => True
  | .forcedVgTimeout _ => True
  | .strapSampling _ => True
  | .domainOn => True
  | .domainRet => True
  | .domainOff => True
  | .domainTransitionDone _ => True
  | .peRetentionEntry => True
  | .xtalCheck _ => True
  | .ioscTrim _ => True
  | .xinLoss => True
  | .holdoverExpiry => True
  | .xinReturn => True
  | .pllmUnlock => True
  | .pllbUnlock => True
  | .pllbRelockDone => True
  | .rtcSourceSelect _ => True
  | .rtcCrystalStop => True
  | .thermalSample _ _ => True
  | .sensorClear _ => True
  | .trip => True
  | .shutdownRecord => True
  | .tripDomainsOff => True
  | .warmRestart => True
  | .nautoWindowEnd => True
  | .bootSequencerStart => True
  | .flashNegotiation _ _ => True
  | .copySelection => True
  | .copyVerify => True
  | .planRead _ _ => True
  | .controlStage => True
  | .imagingStage => True
  | .hostBegin => True
  | .hostCancel => True
  | .hostStreamWrite _ => True
  | .hostStreamTimeout => True
  | .bootAlertClear _ => True
  | .reloadStart => True
  | .reloadChecksDone _ => True
  | .clusterReloadDrain => True
  | .reloadLoadDone _ => True
  | .clusterReturn => True
  | .frameStart _ _ _ => True
  | .imageLine _ _ _ px _ _ => px.length * 14 ≤ 65535 * 8
  | .telemetryPacket _ _ dt bytes _ => dt < 64 ∧ bytes.length ≤ 65535
  | .packetDiscard _ _ => True
  | .headerEccError _ _ _ => True
  | .frameEnd _ _ _ => True
  | .frameEndTimeout _ => True
  | .negotiationStart _ => True
  | .hrstRelease _ => True
  | .hrstwaitExpiry _ => True
  | .descriptorReadDone _ bytes _ => bytes.length = 64
  | .negotiationFsTimeout _ => True
  | .headCommit _ _ => True
  | .headCancel _ => True
  | .settingProgramStart _ => True
  | .settingProgramDone _ _ => True
  | .headSetWrite _ off _ => (findRow off rowsHEAD).isSome
  | .burstStart => True
  | .burstEnd uecc _ => uecc.Nodup
  | .filterReset _ => True
  | .pixelWindowWrite a _ => a < 2 ^ 29
  | .shutRecal _ => True
  | .shutAbort _ => True
  | .elapsedTick _ => True
  | .cruiseStart => True
  | .cruiseSurveyEnd _ => True
  | .cruiseTimeout => True
  | .statisticsPassStart => True
  | .statisticsPassEnd uecc => uecc.Nodup
  | .standRselWrite _ => True
  | .occBselWrite _ => True
  | .bkgReset _ => True
  | .trackClear _ => True
  | .ctxFrameSend _ => True
  | .ctxRepeatSend _ _ => True
  | .ctxLinkChange _ => True
  | .ctxDeskew => True
  | .adcConversionEnd _ _ _ _ => True
  | .urgentTimedRequest _ => True
  | .urgentRequest _ => True
  | .adcQheadRead _ => True
  | .calZero _ _ => True
  | .calFs _ _ => True
  | .calAbort _ _ => True
  | .calZwaitTimeout _ => True
  | .fanPwmPeriod _ _ => True
  | .fanCurrentLimit _ => True
  | .fanZeroCrossing _ _ => True
  | .fanFgEdge _ _ => True
  | .fanMeasureWrite _ => True
  | .fanCatchEnd _ _ => True
  | .fanBrakeEnd _ => True
  | .fanStartTimeout _ => True
  | .fanWaitEnd _ => True
  | .fanRotationLost _ => True
  | .fanFgLost _ => True
  | .fanOvercurrent _ => True
  | .fanClear _ => True
  | .groupSensorTimeout _ => True
  | .windowComparatorTrip _ _ => True
  | .valveCycleStart _ => True
  | .valveLeadExpiry _ => True
  | .valveIpkReached _ _ => True
  | .valvePeakEnd _ _ _ => True
  | .valveChopPeriod _ => True
  | .valveChopOff _ _ => True
  | .valveClear _ => True
  | .gpioInputSample _ _ => True
  | .actuatorTrendRecord => True
  | .mstpFrameReceived _ f => f.dst ≤ 255 ∧ f.src ≤ 255 ∧ f.len ≤ 65535
  | .mstpNoToken _ => True
  | .mstpUsageTimeout _ => True
  | .mstpSlotTimeout _ => True
  | .autobaudDwell _ => True
  | .autobaudTimeout _ => True
  | .busRedetect _ => True
  | .whoIs _ range => match range with | none => True | some (lo, hi) => lo ≤ maxInstance ∧ hi ≤ maxInstance
  | .readProperty _ src obj _ _ => src.inRange ∧ obj.inRange
  | .readPropertyMultiple _ src specs => src.inRange ∧ specs.all (fun q => q.1.inRange)
  | .writeProperty _ src obj _ _ _ => src.inRange ∧ obj.inRange
  | .subscribeCov _ src proc obj _ _ life => src.inRange ∧ obj.inRange ∧ proc < 2 ^ 32 ∧ life < 2 ^ 32
  | .unrecognizedService _ src _ => src.inRange
  | .covScan _ => True
  | .covExpiry _ _ => True
  | .modbusCycleStart _ => True
  | .modbusRequest _ => True
  | .modbusResponse _ bytes _ => bytes.length ≤ 256
  | .modbusResponseTimeout _ => True
  | .modbusNegotiation _ _ => True
  | .busSelWrite _ _ _ => True
  | .flashWindowWrite a _ => a % 2 = 0 ∧ a < 2 ^ 30
  | .flashBufferTimeout _ => True
  | .flashStatusPoll _ => True
  | .flashProgramDone _ _ => True
  | .flashErase => True
  | .flashFlush => True
  | .flashEraseDone => True
  | .flashEraseTimeout => True
  | .directFetch _ _ => True
  | .windowFetchDone _ => True
  | .pspStart => True
  | .pspTransactionDone rx => rx.length ≤ 64
  | .hspReadIncrement _ => True
  | .hspReadFixed _ => True
  | .hspWriteIncrement _ => True
  | .hspWriteFixed _ => True
  | .hspBadCommand => True
  | .hspReadFrame => True
  | .hspWriteFrame _ => True
  | .hspSelectRise _ _ => True
  | .hspIrqClear _ => True
  | .tallyPulseDone => True
  | .tallySelect => True
  | .tallyBegin => True
  | .tallyCommit => True
  | .tallyWindowWrite a _ => a % 2 = 0 ∧ a < 2 ^ 30
  | .tallyInc => True
  | .tallyHourly => True
  | .counterScanDone => True
  | .cmpSubmit => True
  | .cmpFlush _ _ => True
  | .cmpJobStart => True
  | .cmpJobDone _ => True
  | .residentRunStart _ => True
  | .cmpRselWrite _ => True
  | .cmpOptrWrite _ _ => True
  | .fabricPromotion _ _ _ => True
  | .c3ShareWindow => True
  | .fabricRequestToDrained _ _ _ _ => True
  | .ageMeasureDue => True
  | .ageMeasure => True
  | .ageRetry => True
  | .ageMeasureDelayed => True
  | .ageMeasureDone _ => True
  | .consoleLine chars => chars.all (fun c => c != 0x0D)
  | .consoleId => True
  | .consoleStat => True
  | .consoleRd _ _ => True
  | .consoleWr _ _ => True
  | .consoleUl _ => True
  | .consoleLk _ => True
  | .consoleSvcEnter => True
  | .consoleSvcLeave => True
  | .consoleLog _ => True
  | .consoleCnt _ => True
  | .consoleDump _ _ _ _ => True
  | .consoleBallForce _ _ => True
  | .consoleBallRelease _ => True
  | .consoleBallReleaseAll => True
  | .consoleDacHold _ _ => True
  | .consoleDacRelease _ => True
  | .consoleVlvHold _ _ => True
  | .consoleVlvOff _ => True
  | .consoleVlvRelease _ => True
  | .consoleFanRpm _ _ => True
  | .consoleFanOff _ => True
  | .consoleFanRelease _ => True
  | .consoleAfeExcCurrent _ _ _ => True
  | .consoleAfeExcVoltage _ _ _ => True
  | .consoleAfeOff _ => True
  | .consoleMon _ => True
  | .lockDbg _ => True
  | .lockPriv _ => True
  | .lockKey _ _ => True
  | .consoleMem => True
  | .consoleTrim => True
  | .consoleScan => True
  | .consoleFuse => True
  | .jtagIdcode => True
  | .jtagSamplePreload captured shifted => captured.length = shifted.length
  | .jtagExtest => True
  | .jtagHighz => True
  | .jtagBypass => True
  | .jtagFactory code => 0x80 ≤ code.toNat ∧ code.toNat ≤ 0xFE
  | .rtcSecond => True
  | .schedRtcStage _ => True
  | .schedRtcCommit _ => True
  | .schedOvrclr => True
  | .powerOnResetRelease => True
  | .d0LeavesReset => True
  | .mstpFrameAbort _ => True
  | .ctxFrameDone _ => True

end Sys2Proof
end

