-- ==== Sys2Proof/Safety.lean ====
section
/-! DEFINITION. What holds of every state that the block reaches, in the terms that claims use. -/

namespace Sys2Proof.Safety
open Sys2Proof Sys2Proof.Machine

/-- The register file is in its canonical form: keys strictly rising, no entry at its Reset value. Equal register files are
then equal data. -/
def RegsCanonical (s : State) : Prop := cellsWf resetVal 0 s.regs.cells = true

/-- The memories of words are in their canonical form: working RAM and the landing buffers. -/
def WordsCanonical (s : State) : Prop :=
  cellsWf wordBlank 0 s.wram.cells = true ∧ cellsWf wordBlank 0 s.landing.cells = true

/-- The chips of flash and the tally store are in their canonical form. -/
def BytesCanonical (s : State) : Prop :=
  (∀ i : Fin 2, cellsWf flashBlank 0 s.flash.chips[i].mem = true) ∧ cellsWf tallyBlank 0 s.tally.mem = true

/-- Numbers of a list rise strictly. -/
def rising : List Nat → Bool
  | a :: b :: t => Nat.blt a b && rising (b :: t)
  | _ => true

/-- The programmed fuse bits are listed in rising order, once each (R390). -/
def FusesRising (s : State) : Prop := rising s.fuses = true

/-- The engine of a block takes writes and commands: it is in service, or in SERVICE, no trip sequence runs, and no domain is held
in reset (R51, R61, Table 5-4). -/
def Accepts (s : State) (b : Blk) : Prop :=
  s.up = true ∧ s.therm.tripped = false ∧ (s.blk b = stInService ∨ s.blk b = stService)

/-- A part of `t` is that of `s`. -/
def SamePart (s t : State) : Part → Prop
  | .points => t.points = s.points | .tick => t.tick = s.tick | .balls => t.balls = s.balls
  | .power => t.power = s.power | .clock => t.clock = s.clock | .therm => t.therm = s.therm
  | .boot => t.boot = s.boot | .heads => t.heads = s.heads | .bursts => t.bursts = s.bursts
  | .shut => t.shut = s.shut | .cruise => t.cruise = s.cruise | .stat => t.stat = s.stat
  | .ctx => t.ctx = s.ctx | .loops => t.loops = s.loops | .prfs => t.prfs = s.prfs
  | .traces => t.traces = s.traces | .scheds => t.scheds = s.scheds | .rtc => t.rtc = s.rtc
  | .afe => t.afe = s.afe | .act => t.act = s.act | .gpio => t.gpio = s.gpio | .bus => t.bus = s.bus
  | .flash => t.flash = s.flash | .psp => t.psp = s.psp | .hsp => t.hsp = s.hsp | .tally => t.tally = s.tally
  | .cmp => t.cmp = s.cmp | .wram => t.wram = s.wram | .landing => t.landing = s.landing | .fab => t.fab = s.fab
  | .age => t.age = s.age | .svc => t.svc = s.svc | .fuses => t.fuses = s.fuses | .jtag => t.jtag = s.jtag
  | .freeCtr => t.freeCtr = s.freeCtr

/-- From `s` to `t` nothing changes but registers in the given ranges (first key, key after the last), the given parts, and
HSP_IRQ's bit 8, which follows ALERT_N (Table 16-4). The queue is as it was. -/
def Frame (regs : List (Nat × Nat)) (parts : List Part) (s t : State) : Prop :=
  (∀ f : Fld, (regs.any fun r => Nat.ble r.1 f.key && Nat.blt f.key r.2) = false →
    (f.key ≠ 0x2006 ∨ f.hi < 8 ∨ 8 < f.lo) → t.rd f = s.rd f) ∧
  (∀ p, (parts.any fun q => decide (q = p)) = false → SamePart s t p) ∧ t.pending = s.pending

end Sys2Proof.Safety
end

