-- ==== Sys2Proof/Certificates/Slice0/Obligations.lean ====
section
/-! DEFINITION. The statements for the provers, chapter by chapter. -/

open Sys2Proof Sys2Proof.Machine Sys2Proof.Safety

/-- With a command in front of the queue, a step is that command's effect on the state with the queue's rest. -/
def Obligations.StepTakesFrontCommand : Prop :=
  ∀ (c : Instr) (s : State) (rest : List Instr), s.pending = c :: rest → step s = exec c { s with pending := rest }

/-- R17, R21: a sample tick edge comes `m` crystal cycles after the one before, `m` being the least number, at least one, that
carries out of the 40-bit accumulator. The accumulator keeps its residue, the sample counter advances by one and wraps, and
every Nth edge makes a frame tick edge due. -/
def Obligations.SampleEdge : Prop :=
  ∀ s : State, s.d0Up = true → s.tick.running = true → s.tick.ftDue = false → 0 < s.stinc →
    ∃ t m, exec .stEdge s = .next t ∧ 1 ≤ m ∧
      2 ^ 40 ≤ s.tick.phase.toNat + m * s.stinc ∧ s.tick.phase.toNat + (m - 1) * s.stinc < 2 ^ 40 ∧
      t.tick.phase.toNat = s.tick.phase.toNat + m * s.stinc - 2 ^ 40 ∧ t.tick.cycles = s.tick.cycles + m ∧
      t.tick.sample.toNat = (s.tick.sample.toNat + 1) % 2 ^ 20 ∧
      t.tick.ftDue = decide (s.ftdiv ≤ s.tick.ftCount + 1) ∧
      t.tick.ftCount = (if s.ftdiv ≤ s.tick.ftCount + 1 then 0 else s.tick.ftCount + 1)

/-- R22, R32: a frame tick edge increments the 36-bit frame number, which wraps to 0. A committed change of STINC and N takes
effect at that edge: the sample counter and the divider restart, and the accumulator keeps its residue.

R20, R134: LIVE changes level at a 64th sample tick edge exactly while every fitted cluster is IN_SERVICE and the device is
neither in SERVICE nor in the trip sequence (Table 5-4), and keeps it otherwise; SYNCn goes back to its inactive level at
the end of its pulse. Neither changes any register. -/
def Obligations.FrameEdgeAndLive : Prop :=
  (∀ s : State, s.d0Up = true → s.tick.running = true → s.tick.ftDue = true →
    ∃ t, exec .ftEdge s = .next t ∧ t.tick.ftDue = false ∧ t.tick.frame.toNat = (s.tick.frame.toNat + 1) % 2 ^ 36 ∧
      t.tick.phase = s.tick.phase ∧ t.tick.pend = none ∧
      (s.tick.pend = none → t.tick.sample = s.tick.sample ∧ t.tick.ftCount = s.tick.ftCount) ∧
      (s.tick.pend ≠ none → t.tick.sample = 0 ∧ t.tick.ftCount = 0 ∧ t.tick.staged = none)) ∧
  ((∀ s : State, s.d0Up = true → s.tick.liveDue = true → ∃ t, exec .liveToggle s = .next t ∧ t.tick.liveDue = false ∧
    t.balls.live = (if (∀ c ∈ s.fitted, s.eng (.ctl c) = stInService) ∧ s.service = false ∧ s.therm.tripped = false then !s.balls.live
      else s.balls.live) ∧ Frame [] [.tick, .balls] s t) ∧
  (∀ (s : State) (h : Fin 4), s.up = true → ∃ t, exec (.syncPulseEnd h) s = .next t ∧ t.balls.sync[h] = false ∧
    (∀ k : Fin 4, k ≠ h → t.balls.sync[k] = s.balls.sync[k]) ∧ Frame [] [.balls] s t))

/-- R32: a write to SYS_STINC0 stages the low part and commits nothing; a write to SYS_STINC1 or SYS_FTDIV that is allowed, in
range and within capacity waits for the next frame tick edge, with TSTAT OK and FTPEND set. A write is allowed with SYS
unlocked in SERVICE, and where it changes nothing. The staged low part, or the one in force, stands below the new high part.

R32: a commit out of range, or beyond capacity, is turned away with BAD_ARG or REFUSED; the values in force and those that
wait stay, and the staged low part is discarded. -/
def Obligations.TickRegisterWrites : Prop :=
  ((∀ (s : State) (v : Word), Accepts s .sys → (s.service = true ∧ s.unlocked .sys = true ∨ v.toNat = s.rd Reg.SYS_STINC0) →
    ∃ t, exec (.sysStinc0Write v) s = .next t ∧ t.tick = { s.tick with staged := some v } ∧
      t.rd Reg.SYS_STINC0 = s.rd Reg.SYS_STINC0 ∧ t.rd Blk.sys.statusFld = Status.OK ∧ t.rd Blk.sys.offsetFld = 0x020 ∧
      Frame [(0x3FE, 0x3FF)] [.tick] s t) ∧
  (∀ (s : State) (v : Word), Accepts s .sys →
    (s.service = true ∧ s.unlocked .sys = true ∨ v.toNat % 2 ^ 13 = s.rd Reg.SYS_STINC1) →
    ∀ lo, lo = (match s.tick.staged with | some w => w.toNat | none => s.rd Reg.SYS_STINC0) →
    ∀ x, x = lo + 2 ^ 18 * (v.toNat % 2 ^ 13) → 43980466 ≤ x → x ≤ 1407374883 → 16 ≤ s.ftdiv → s.ftdiv ≤ 4096 →
    s.capacity x s.ftdiv = 0 →
    ∃ t, exec (.sysStinc1Write v) s = .next t ∧
      t.tick = { s.tick with pend := some (BitVec.ofNat 31 x, BitVec.ofNat 13 s.ftdiv) } ∧
      t.rd Reg.SYS_TICKSTAT_TSTAT = Status.OK ∧ t.rd Reg.SYS_TICKSTAT_FTPEND = 1 ∧
      t.rd Reg.SYS_STINC1 = s.rd Reg.SYS_STINC1 ∧ t.rd Blk.sys.statusFld = Status.OK ∧
      Frame [(0x025, 0x026), (0x3FE, 0x3FF), (0x9C01, 0x9C03)] [.tick] s t) ∧
  (∀ (s : State) (v : Word), Accepts s .sys →
    (s.service = true ∧ s.unlocked .sys = true ∨ v.toNat % 2 ^ 13 = s.rd Reg.SYS_FTDIV) →
    16 ≤ v.toNat % 2 ^ 13 → v.toNat % 2 ^ 13 ≤ 4096 → 43980466 ≤ s.stinc → s.stinc ≤ 1407374883 →
    s.capacity s.stinc (v.toNat % 2 ^ 13) = 0 →
    ∃ t, exec (.sysFtdivWrite v) s = .next t ∧
      t.tick = { s.tick with pend := some (BitVec.ofNat 31 s.stinc, BitVec.ofNat 13 v.toNat) } ∧
      t.rd Reg.SYS_TICKSTAT_TSTAT = Status.OK ∧ t.rd Reg.SYS_TICKSTAT_FTPEND = 1 ∧
      t.rd Reg.SYS_FTDIV = s.rd Reg.SYS_FTDIV ∧ t.rd Blk.sys.statusFld = Status.OK ∧
      Frame [(0x025, 0x026), (0x3FE, 0x3FF), (0x9C01, 0x9C03)] [.tick] s t)) ∧
  (∀ (s : State) (v : Word), Accepts s .sys → s.service = true → s.unlocked .sys = true →
    (∀ x, x = s.stincWith v.toNat → x < 43980466 ∨ 1407374883 < x →
      ∃ t, exec (.sysStinc1Write v) s = .next t ∧ t.tick = { s.tick with staged := none } ∧
        t.rd Reg.SYS_TICKSTAT_TSTAT = Status.BAD_ARG ∧ Frame [(0x025, 0x026), (0x3FE, 0x3FF)] [.tick] s t) ∧
    (43980466 ≤ s.stinc → s.stinc ≤ 1407374883 → 16 ≤ v.toNat % 2 ^ 13 → v.toNat % 2 ^ 13 ≤ 4096 →
      s.capacity s.stinc (v.toNat % 2 ^ 13) ≠ 0 →
      ∃ t, exec (.sysFtdivWrite v) s = .next t ∧ t.tick = { s.tick with staged := none } ∧
        t.rd Reg.SYS_TICKSTAT_TSTAT = Status.REFUSED ∧
        Frame [(0x025, 0x026), (0x3FE, 0x3FF), (0x9C01, 0x9C03)] [.tick] s t))

/-- R33: a read of SYS_FRAME0 returns FRAME[17:0] and captures FRAME[35:18]; a read of SYS_FRAME1 returns the captured value, 0
if SYS_FRAME0 has not been read since reset. -/
def Obligations.FrameNumberRead : Prop :=
  (∀ s : State, s.up = true → s.engineLoaded .tick = true →
    (s.hostRead false 0x0023).1.word = s.tick.frame.toNat % 2 ^ 18 ∧
    ∃ t, exec (.captureRead 0x0023) s = .next t ∧ (t.hostRead false 0x0024).1.word = s.tick.frame.toNat / 2 ^ 18) ∧
  (∀ s : State, s.engineLoaded .tick = true → s.rdKey (latchKey 0x0024) = 0 → (s.hostRead false 0x0024).1.word = 0) ∧
  State.reset.rdKey (latchKey 0x0024) = 0

/-- Table 2-3, R42: what each trigger does to an entry that is not FORCED. A write sets FRESH, a result out of range CLIPPED
with the range limit, a failure FAULT (from FAULT itself nothing changes), no result HELD from FRESH and CLIPPED, an age
over the allowance STALE from HELD; every other pair changes nothing, and a FORCED entry changes under none of them.

R40, R42, R46: the 1 kHz time base makes every entry a millisecond older, saturating at 65,535, and a FORCED point's shadow
entry in its place; a HELD entry older than its allowance goes STALE; an entry unwritten for twice its expected interval
goes HELD. -/
def Obligations.PointQuality : Prop :=
  (∀ (p : PVal) (w : Word),
    (p.quality = .forced → ∀ t : PTrig, p.trig t = p) ∧
    (p.quality ≠ .forced →
      p.trig (.write w) = { value := w, quality := .fresh, age := 0 } ∧
      p.trig (.clip w) = { value := w, quality := .clipped, age := 0 } ∧
      (p.quality ≠ .fault → p.trig (.fail none) = { p with quality := .fault }) ∧
      (p.quality = .fault → p.trig (.fail (some w)) = p) ∧
      p.trig .noResult = (if p.quality = .fresh ∨ p.quality = .clipped then { p with quality := .held } else p) ∧
      p.trig .overAge = (if p.quality = .held then { p with quality := .stale } else p))) ∧
  ((∀ s : State, s.up = true → ∃ t, exec .pointAgeTick s = .next t ∧ Frame [] [.points] s t ∧
    ∀ n p, s.point n = some p →
      (p.shadow = none → t.point n = some { p with v := { p.v with age := if p.v.age < 65535 then p.v.age + 1 else p.v.age } }) ∧
      (∀ sh, p.shadow = some sh → t.point n =
        some { p with shadow := some { sh with age := if sh.age < 65535 then sh.age + 1 else sh.age } })) ∧
  (∀ (s : State) (n : Fin 4096) (p : Point), s.up = true → s.point n = some p → p.live.quality = .held → p.hold < p.live.age →
    ∃ t, exec (.pointStale n) s = .next t ∧
      t.point n = some (match p.shadow with
        | some sh => { p with shadow := some { sh with quality := .stale } }
        | none => { p with v := { p.v with quality := .stale } }) ∧
      (∀ k, k ≠ n.val → t.point k = s.point k) ∧ Frame [] [.points] s t) ∧
  (∀ (s : State) (n : Fin 4096) (p : Point) (i : Frac), s.up = true → s.point n = some p → p.shadow = none → s.interval p.source = some i →
    overdue p.v.age i = true → p.v.quality = .fresh →
    ∃ t, exec (.pointWriteTimeout n) s = .next t ∧ t.point n = some { p with v := { p.v with quality := .held } } ∧
      (∀ k, k ≠ n.val → t.point k = s.point k) ∧ Frame [] [.points] s t))

/-- R45, R46: a write to the point window takes effect at a point whose source is the host, in the entry or in the shadow entry
of a forced one; FORCE gives the point the value of POINT_FVAL, with quality FORCED and age 0, and keeps what it held in the
shadow entry; RELEASE gives it the shadow entry back. POINT_RESULT reads OK, and no other point changes.

R45, R46, R54, Table 5-4: what turns a point command away leaves every point as it is. A window write to a point with
another source, or to none, is REFUSED, and one in the trip sequence answered DOWN; FORCE and RELEASE of an unassigned point
are BAD_ARG, and every one of the three commands is ILLEGAL_STATE while POINT is locked. -/
def Obligations.PointCommandOutcomes : Prop :=
  ((∀ (s : State) (n : Fin 4096) (v : Word) (p : Point), s.up = true → s.therm.tripped = false → s.point n = some p →
    p.source = .host →
    ∃ t, exec (.pointWindowWrite n v) s = .next t ∧
      t.point n = some (if p.shadow = none then { p with v := (p.v.trig (.write v)) }
        else { p with shadow := p.shadow.map (fun x => x.trig (.write v)) }) ∧
      (∀ k, k ≠ n.val → t.point k = s.point k) ∧ t.rd Blk.point.statusFld = Status.OK ∧ t.rd Blk.point.offsetFld = 0x3FF ∧
      Frame [(0x9BFE, 0x9BFF)] [.points] s t) ∧
  (∀ (s : State) (p : Point), Accepts s .point → s.unlocked .point = true → s.point (s.rd Reg.POINT_FNUM) = some p →
    ∃ t, exec .pointForce s = .next t ∧
      t.point (s.rd Reg.POINT_FNUM) = some { p with
        v := { value := BitVec.ofNat 18 (s.rd Reg.POINT_FVAL), quality := .forced, age := 0 }
        shadow := some (match p.shadow with | some sh => sh | none => p.v) } ∧
      (∀ k, k ≠ s.rd Reg.POINT_FNUM → t.point k = s.point k) ∧ t.rd Blk.point.statusFld = Status.OK ∧
      t.rd Blk.point.offsetFld = 2 ∧ Frame [(0x9BFE, 0x9BFF)] [.points] s t) ∧
  (∀ (s : State) (p : Point), Accepts s .point → s.unlocked .point = true → s.point (s.rd Reg.POINT_FNUM) = some p →
    ∃ t, exec .pointRelease s = .next t ∧
      t.point (s.rd Reg.POINT_FNUM) = some (match p.shadow with | some sh => { p with v := sh, shadow := none } | none => p) ∧
      (∀ k, k ≠ s.rd Reg.POINT_FNUM → t.point k = s.point k) ∧ t.rd Blk.point.statusFld = Status.OK ∧
      Frame [(0x9BFE, 0x9BFF)] [.points] s t) ∧
  (∀ s : State, Accepts s .point → s.unlocked .point = true →
    (s.points.map (fun c => c.1)).Nodup →
    ∃ t, exec .pointReleaseAll s = .next t ∧ (∀ n p, s.point n = some p →
        t.point n = some (match p.shadow with | some sh => { p with v := sh, shadow := none } | none => p)) ∧
      t.rd Blk.point.statusFld = Status.OK ∧ Frame [(0x9BFE, 0x9BFF)] [.points] s t)) ∧
  ((∀ (s : State) (n : Fin 4096) (v : Word), s.up = true → s.therm.tripped = false →
    (∀ p, s.point n = some p → p.source ≠ .host) →
    ∃ t, exec (.pointWindowWrite n v) s = .next t ∧ t.rd Blk.point.statusFld = Status.REFUSED ∧
      t.rd Blk.point.offsetFld = 0x3FF ∧ Frame [(0x9BFE, 0x9BFF)] [] s t) ∧
  (∀ (s : State) (n : Fin 4096) (v : Word), s.up = true → s.therm.tripped = true →
    ∃ t, exec (.pointWindowWrite n v) s = .next t ∧ t.rd Blk.point.statusFld = Status.DOWN ∧
      Frame [(0x9BFE, 0x9BFF)] [] s t) ∧
  (∀ (s : State) (c : Instr), c = .pointForce ∨ c = .pointRelease → Accepts s .point → s.unlocked .point = true →
    s.point (s.rd Reg.POINT_FNUM) = none →
    ∃ t, exec c s = .next t ∧ t.rd Blk.point.statusFld = Status.BAD_ARG ∧ Frame [(0x9BFE, 0x9BFF)] [] s t) ∧
  (∀ (s : State) (c : Instr), c = .pointForce ∨ c = .pointRelease ∨ c = .pointReleaseAll → Accepts s .point →
    s.unlocked .point = false →
    ∃ t, exec c s = .next t ∧ t.rd Blk.point.statusFld = Status.ILLEGAL_STATE ∧ Frame [(0x9BFE, 0x9BFF)] [] s t))

/-- R54: 0x2_D1E5 in a block's UNLOCK register unlocks it, any other value locks it, and 10 s without a write lock it again.
RESULT of the block records the write, with the offset of UNLOCK.

R49, R64, R65: ENTER, while no engine is in DRAIN or LOADING, takes every engine in service into SERVICE; LEAVE returns the
device, ends every forced ball and clears SVC_MON. CSTAT and RESULT read OK.

R49, R51, R54: SERVICE is turned away with ILLEGAL_STATE while SVC is locked, ENTER also while an engine is in DRAIN or
LOADING or the device is in SERVICE already, and LEAVE while it is not; nothing else changes. -/
def Obligations.LocksAndService : Prop :=
  ((∀ (s : State) (b : Blk), s.up = true → s.therm.tripped = false → s.blkPresent b = true → s.blk b ≠ stDrain → s.blk b ≠ stLoading →
    (∃ t, exec (.blockUnlock b) s = .next t ∧ t.unlocked b = true ∧ t.blk b = s.blk b ∧ t.rd b.statusFld = Status.OK ∧
      t.rd b.offsetFld = 0x3FD ∧ Frame [(b.base + 0x3FC, b.base + 0x3FD), (b.base + 0x3FE, b.base + 0x3FF)] [] s t) ∧
    (∀ v : Word, v ≠ 0x2D1E5 → ∃ t, exec (.blockLock b v) s = .next t ∧ t.unlocked b = false ∧ t.blk b = s.blk b ∧
      t.rd b.statusFld = Status.OK ∧
      Frame [(b.base + 0x3FC, b.base + 0x3FD), (b.base + 0x3FE, b.base + 0x3FF)] [] s t)) ∧
  (∀ (s : State) (b : Blk), s.up = true → ∃ t, exec (.unlockTimeout b) s = .next t ∧ t.unlocked b = false ∧ t.blk b = s.blk b ∧
    Frame [(b.base + 0x3FC, b.base + 0x3FD)] [] s t)) ∧
  ((∀ s : State, Accepts s .svc → s.unlocked .svc = true → s.service = false →
    (∀ e : Engine, s.eng e ≠ stDrain ∧ s.eng e ≠ stLoading) →
    ∃ t, exec .serviceEnter s = .next t ∧ t.service = true ∧ (∀ e, s.eng e = stInService → t.eng e = stService) ∧
      t.rd Reg.SVC_CMD_CSTAT = Status.OK ∧ t.rd Blk.svc.statusFld = Status.OK ∧ t.tick = s.tick ∧ t.fuses = s.fuses) ∧
  (∀ s : State, Accepts s .svc → s.unlocked .svc = true → s.service = true →
    s.rd Reg.BOOT_STAT_STAGE ≠ 8 → s.rd Reg.BOOT_STAT_STAGE ≠ 9 →
    ∃ t, exec .serviceLeave s = .next t ∧ t.service = false ∧ t.balls.forced = [] ∧ t.rd Reg.SVC_MON = 0 ∧
      t.rd Reg.SVC_CMD_CSTAT = Status.OK ∧ t.rd Blk.svc.statusFld = Status.OK ∧ t.tick = s.tick ∧ t.fuses = s.fuses) ∧
  (∀ (s : State) (v : Fin 8), s.up = true → (s.balls.forced.any fun x => x.1 == vgBall v.val && decide (x.2 = .high)) = true →
    ∃ t, exec (.forcedVgTimeout v) s = .next t ∧ (∀ x ∈ t.balls.forced, x.1 ≠ vgBall v.val ∧ x ∈ s.balls.forced) ∧
      t.rd Reg.SVC_STAT_LAST = Status.TIMEOUT ∧ Frame [(0x2401, 0x2402)] [.balls] s t)) ∧
  (∀ s : State, s.up = true → s.therm.tripped = false →
    (∀ c : Instr, c = .serviceEnter ∨ c = .serviceLeave → s.unlocked .svc = false →
      ∃ t, exec c s = .next t ∧ t.rd Reg.SVC_CMD_CSTAT = Status.ILLEGAL_STATE ∧ t.rd Blk.svc.statusFld = Status.ILLEGAL_STATE ∧
        Frame [(0x2400, 0x2401), (0x27FE, 0x27FF)] [] s t) ∧
    (s.service = true ∨ (∃ e : Engine, s.eng e = stDrain ∨ s.eng e = stLoading) →
      ∃ t, exec .serviceEnter s = .next t ∧ t.rd Reg.SVC_CMD_CSTAT = Status.ILLEGAL_STATE ∧
        Frame [(0x2400, 0x2401), (0x27FE, 0x27FF)] [] s t) ∧
    (s.service = false →
      ∃ t, exec .serviceLeave s = .next t ∧ t.rd Reg.SVC_CMD_CSTAT = Status.ILLEGAL_STATE ∧
        Frame [(0x2400, 0x2401), (0x27FE, 0x27FF)] [] s t))

/-- R346: while the port is alive, a command byte starts a read or a write transfer at its address, fixed or advancing; any
other byte has the transfer ignored and counted.

R347, R348, R350: in a read transfer the port drives the frame of the word at the address, then advances; bits 21:0 of every
frame that it drives hold an even number of ones. -/
def Obligations.HspReads : Prop :=
  (∀ s : State, s.hspAlive = true →
    (∀ a : BitVec 16,
      (∃ t, exec (.hspReadIncrement a) s = .next t ∧ t.hsp = { s.hsp with xfer := .active false true a.toNat false } ∧
        Frame [] [.hsp] s t) ∧
      (∃ t, exec (.hspReadFixed a) s = .next t ∧ t.hsp = { s.hsp with xfer := .active false false a.toNat false } ∧
        Frame [] [.hsp] s t) ∧
      (∃ t, exec (.hspWriteIncrement a) s = .next t ∧ t.hsp = { s.hsp with xfer := .active true true a.toNat false } ∧
        Frame [] [.hsp] s t) ∧
      (∃ t, exec (.hspWriteFixed a) s = .next t ∧ t.hsp = { s.hsp with xfer := .active true false a.toNat false } ∧
        Frame [] [.hsp] s t)) ∧
    (∃ t, exec .hspBadCommand s = .next t ∧ t.hsp = { s.hsp with xfer := .ignored } ∧
      t.rd Reg.HSP_BADCMD = min (s.rd Reg.HSP_BADCMD + 1) 262143 ∧ Frame [(0x2013, 0x2014)] [.hsp] s t)) ∧
  ((∀ o : ReadOut, readFrame o < 2 ^ 24 ∧ onesBelow (readFrame o) 22 % 2 = 0 ∧ readFrame o % 2 ^ 18 = o.word % 2 ^ 18 ∧
    readFrame o / 2 ^ 18 % 8 = o.quality % 8 ∧ readFrame o / 2 ^ 22 = o.tag % 4) ∧
  (∀ (s : State) (inc : Bool) (a : Nat), s.hspAlive = true → s.hsp.xfer = .active false inc a false →
    ∃ t, exec .hspReadFrame s = .next t ∧ t.hsp.out = readFrame (s.hostRead false a).1 ∧
      t.hsp.xfer = .active false inc (if inc ∧ a ≠ hspBlockEnd a then a + 1 else a) (inc && a == hspBlockEnd a) ∧
      t.points = s.points ∧ t.fuses = s.fuses ∧ t.tick = s.tick) ∧
  (∀ (s : State) (inc : Bool) (a : Nat), s.hspAlive = true → s.hsp.xfer = .active false inc a true →
    ∃ t, exec .hspReadFrame s = .next t ∧ t.hsp.out = readFrame ⟨0x3FFFF, 0, tagHole⟩ ∧ t.hsp.xfer = s.hsp.xfer))

/-- R347: a write frame with an odd number of ones in bits 21:0 is discarded, counted and answered CHECK_FAIL; one with an even
number carries its word to the address, as a write of the host does. The address advances either way.

R352, R353: the rise of HCS_N ends the transfer, and releases HSO; a select without an address is counted as an abort, one
that ends within a write frame as a partial frame whose bits were written. A 1 written to a bit of HSP_IRQ clears it, a 0
leaves it as it was. -/
def Obligations.HspWritesAndEnds : Prop :=
  (∀ (s : State) (inc : Bool) (a : Nat) (f : BitVec 24), s.hspAlive = true → s.hsp.xfer = .active true inc a false →
    (onesBelow f.toNat 22 % 2 = 1 → ∃ t, exec (.hspWriteFrame f) s = .next t ∧
      t.hsp = { s.hsp with xfer := .active true inc (hspNext inc a).1 (hspNext inc a).2 } ∧
      t.rd Reg.HSP_PERR = min (s.rd Reg.HSP_PERR + 1) 262143 ∧ t.rd Reg.HSP_LASTW = Status.CHECK_FAIL ∧
      Frame [(0x2007, 0x2008), (0x2010, 0x2011)] [.hsp] s t) ∧
    (onesBelow f.toNat 22 % 2 = 0 → s.therm.tripped = false → ∃ t, exec (.hspWriteFrame f) s = .next t ∧
      t.hsp.xfer = .active true inc (hspNext inc a).1 (hspNext inc a).2 ∧ t.rd Reg.HSP_LASTW = s.lastw a ∧
      (∀ k, k ≠ 0x2006 → k ≠ 0x2007 → k < 0x60000 → t.rdKey k = (s.hostWrite a (BitVec.ofNat 18 f.toNat)).rdKey k) ∧
      t.points = (s.hostWrite a (BitVec.ofNat 18 f.toNat)).points)) ∧
  ((∀ (s : State) (k : Fin 24) (b : BitVec 24), s.hspAlive = true →
    ∃ t, exec (.hspSelectRise k b) s = .next t ∧ t.hsp.xfer = .none ∧ t.hsp.out = 0 ∧
      (s.hsp.xfer = .none → t.rd Reg.HSP_ABORT = min (s.rd Reg.HSP_ABORT + 1) 262143 ∧
        Frame [(0x2012, 0x2013)] [.hsp] s t) ∧
      ((∃ inc a p, s.hsp.xfer = .active true inc a p) → k.val = 0 → Frame [] [.hsp] s t)) ∧
  (∀ (s : State) (v : Word), Accepts s .hsp →
    ∃ t, exec (.hspIrqClear v) s = .next t ∧
      (∀ i, 2 ≤ i → i < 13 → t.rd ⟨0x2006, i, i⟩ = (if v.toNat / 2 ^ i % 2 = 1 then 0 else s.rd ⟨0x2006, i, i⟩)) ∧
      t.rd Blk.hsp.statusFld = Status.OK ∧ Frame [(0x2006, 0x2007), (0x23FE, 0x23FF)] [] s t))

/-- R341, R351: a fetch fills the buffer of its window that was not hit last with the 64 words of its block, and sets bit 3 of
HSP_IRQ; one of the flash window waits for a chip that is programming or erasing. A DIRECT section of the image in force
whose digest has been found good is fetched through the flash window (R341). A write to the pixel store changes a map word
only, or a state word only with its fourth part, and only while the head's port is DOWN (R154; where a pixel's words stand
is open, notes/assumptions/86).

R12, R33: an HSP read of a low register captures every high register of its quantity; one of a register with an RC field
clears the field. -/
def Obligations.WindowsAndReadEffects : Prop :=
  ((∀ (s : State) (w : Fin 4) (block : Nat) (rest : List Nat), s.up = true → (s.win w.val).fetch = block :: rest →
    (w = 2 → s.chipBusy (64 * block / 2 ^ 27) = false) →
    ∃ t b, exec (.windowFetchDone w) s = .next t ∧ (t.win w.val).fetch = rest ∧
      (if (s.win w.val).lastA then (t.win w.val).b else (t.win w.val).a) = some b ∧ b.block = block ∧
      b.words = (List.range 64).map (fun i => s.winValue w.val (64 * block + i)) ∧
      t.rd ⟨0x2006, 3, 3⟩ = 1 ∧ (∀ k : Nat, k ≠ w.val → t.win k = s.win k) ∧
      (w ≠ 2 → Frame [(0x2004, 0x2005), (0x2006, 0x2007)] [.hsp, .freeCtr] s t) ∧
      Frame [(0x1804, 0x1805), (0x2004, 0x2005), (0x2006, 0x2007)] [.hsp, .flash, .freeCtr] s t) ∧
  (∀ (s : State) (block : Nat) (rest : List Nat), (s.win 2).fetch = block :: rest → s.chipBusy (64 * block / 2 ^ 27) = true →
    ∃ t, exec (.windowFetchDone 2) s = .next t ∧ Frame [] [] s t) ∧
  (∀ (s : State) (sec block : Nat) (src : ImgSrc) (h : Header) (r : SecRec), s.up = true → s.boot.inForce = some (src, h) →
    s.chipBusy 0 = false →
    h.secs.find? (fun r => r.type == 0x20 && r.unit == sec) = some r → src ≠ .hostStream → 128 * block < r.length →
    memNat sec s.boot.directSeen = true ∨ sha256 (s.imgBytes src r.offset r.length) = r.digest →
    ∃ t b, exec (.directFetch sec block) s = .next t ∧
      (if (s.win 2).lastA then (t.win 2).b else (t.win 2).a) = some b ∧
      b.block = ((s.copyBase src + r.offset) / 2 + 64 * block) / 64 ∧ t.rd ⟨0x2006, 3, 3⟩ = 1 ∧
      Frame [(0x1804, 0x1805), (0x2004, 0x2005), (0x2006, 0x2007)] [.hsp, .flash, .boot, .freeCtr] s t) ∧
  (∀ (s : State) (a : Nat) (v : Word),
    ∃ t, exec (.pixelWindowWrite a v) s = .next t ∧ (∀ k, (t.head k).px.length = (s.head k).px.length) ∧
      (∀ h i, s.up = true → s.therm.tripped = false → s.place a = .map h i → a < pixelStoreWords → s.sliceDown [a / 4] = none →
        s.headState h = stDown →
        ∀ p, (s.head h).px[i]? = some p → (t.head h).px[i]? = some { p with map := v }) ∧
      (∀ h i j, s.place a = .state h i j → a % 4 < 3 → ∀ k, (t.head k).px = (s.head k).px) ∧
      (∀ h i, s.place a = .map h i → s.headState h ≠ stDown → ∀ k, (t.head k).px = (s.head k).px) ∧
      t.wram = s.wram ∧ t.landing = s.landing)) ∧
  ((∀ (s : State) (a : BitVec 16) (b : Blk) (key hi : Nat), s.up = true → s.regKey a.toNat = some (b, key) → a.toNat < 0xC000 →
    s.engineLoaded b.engine = true → (s.tally.scanned = true ∨ key ≠ 0x1411) → hi ∈ capturesOf a.toNat →
    ∃ t, exec (.captureRead a) s = .next t ∧
      t.rdKey (latchKey hi) = s.liveWord (key + (hi - a.toNat)) % 2 ^ 18 ∧ t.points = s.points ∧ t.tick = s.tick) ∧
  (∀ (s : State) (a : BitVec 16) (b : Blk) (key : Nat) (f : FSpec), s.up = true → s.regKey a.toNat = some (b, key) → a.toNat < 0xC000 →
    s.engineLoaded b.engine = true → rcFields key = [f] → f.lo ≤ f.hi → f.hi < 18 →
    ∃ t, exec (.rcRegisterRead a) s = .next t ∧ t.rd ⟨key, f.hi, f.lo⟩ = 0 ∧ t.points = s.points ∧ t.tick = s.tick))

/-- R52: a host write to a register without behaviour of its own, while its block accepts writes. A field that is locked in the
present state and would change gives ILLEGAL_STATE, else a value out of range or a reserved one BAD_ARG, and then nothing
but RESULT changes; else RESULT reads OK, with the register's offset.

R12, R52: a host write that passes stores what it writes. Every register that stands alone (no view, no consequence in
another register) takes each RW and RWL field of the word, and keeps its RO fields; RESULT reads OK. -/
def Obligations.RegisterWrites : Prop :=
  (∀ (s : State) (a : BitVec 16) (v : Word) (b : Blk) (key : Nat), a.toNat < 0xC000 → s.regKey a.toNat = some (b, key) →
    a.toNat % 0x400 ≠ 0x3FD → s.route b (a.toNat % 0x400) v = none → key ≠ 0x9C00 → Accepts s b →
    ((∃ f ∈ s.fieldsOf key, f.acc.lockable = true ∧ bitsOf v.toNat f.hi f.lo ≠ bitsOf (s.rdKey key) f.hi f.lo ∧
        s.fieldOpen b key f.acc = false) →
      ∃ t, exec (.registerWrite a v) s = .next t ∧ t.rd b.statusFld = Status.ILLEGAL_STATE ∧
        t.rd b.offsetFld = a.toNat % 0x400 ∧ Frame [(b.base + 0x3FE, b.base + 0x3FF)] [] s t) ∧
    ((∀ f ∈ s.fieldsOf key, f.acc.lockable = true → bitsOf v.toNat f.hi f.lo ≠ bitsOf (s.rdKey key) f.hi f.lo →
        s.fieldOpen b key f.acc = true) →
      s.badArg b key v.toNat = true →
      ∃ t, exec (.registerWrite a v) s = .next t ∧ t.rd b.statusFld = Status.BAD_ARG ∧
        t.rd b.offsetFld = a.toNat % 0x400 ∧ Frame [(b.base + 0x3FE, b.base + 0x3FF)] [] s t)) ∧
  (∀ (s : State) (a : BitVec 16) (v : Word) (b : Blk) (key : Nat), a.toNat < 0xC000 → s.regKey a.toNat = some (b, key) →
    a.toNat % 0x400 < 0x3FC → s.route b (a.toNat % 0x400) v = none → Accepts s b →
    b = .boot ∨ b = .tally ∨ b = .flw ∨ b = .psp ∨ b = .svc ∨ b = .fuse ∨ b = .shut ∨ b = .stand ∨ b = .occ ∨ b = .cmp ∨
      b = .prf ∨ b = .trc ∨ b = .fan ∨ b = .vlv ∨ b = .dac ∨ b = .gpio ∨ b = .point ∨ b = .age →
    (∀ f ∈ s.fieldsOf key, f.acc.lockable = true → bitsOf v.toNat f.hi f.lo ≠ bitsOf (s.rdKey key) f.hi f.lo →
      s.fieldOpen b key f.acc = true) →
    s.badArg b key v.toNat = false →
    ∃ t, exec (.registerWrite a v) s = .next t ∧ t.rd b.statusFld = Status.OK ∧ t.rd b.offsetFld = a.toNat % 0x400 ∧
      (∀ f ∈ s.fieldsOf key, f.acc = .rw ∨ f.acc = .rwl ∨ f.acc = .load →
        t.rd ⟨key, f.hi, f.lo⟩ = bitsOf v.toNat f.hi f.lo) ∧
      (∀ f ∈ s.fieldsOf key, f.acc = .ro → t.rd ⟨key, f.hi, f.lo⟩ = s.rd ⟨key, f.hi, f.lo⟩) ∧
      Frame [(key, key + 1), (b.base + 0x3FE, b.base + 0x3FF)] [] s t)

/-- R216: a write to CTX_LINK that passes is in force from the next frame gap on, with a new link start.

R216, R217, R219, R221: the transmitter. A free transmitter takes the first waiting frame, with image lines only where the
head exports them and no privacy lock is in force, those of a repeat only where t_ro fits before the next FT; a frame
without a burst joins the others at its send time; at the end of a frame, whole or cut short, it counts and the band trim
takes effect; above 1.5 Gbit/s a deskew is sent as a link starts and in a gap. -/
def Obligations.LinkAndTransmitter : Prop :=
  (∀ (s : State) (v : Word), Accepts s .ctx → s.unlocked .ctx = true → s.badArg .ctx 0x5C00 v.toNat = false →
    ∃ t, exec (.ctxLinkChange v) s = .next t ∧ t.rd Blk.ctx.statusFld = Status.OK ∧ t.rd Blk.ctx.offsetFld = 0 ∧
      (∀ f ∈ s.fieldsOf 0x5C00, f.acc = .rwl → t.rd ⟨0x5C00, f.hi, f.lo⟩ = bitsOf v.toNat f.hi f.lo) ∧
      (t.rdKey 0x5C00 ≠ s.rdKey 0x5C00 → t.ctx.relink = true) ∧
      Frame [(0x5C00, 0x5C01), (0x5FFE, 0x5FFF)] [.ctx] s t) ∧
  (∀ s : State, s.up = true → s.works .ctx = true →
    (∀ (q : CtxReq) (qs : List CtxReq) (n : Nat), s.ctx.sending = none → s.ctx.waiting = q :: qs → q.head < 4 →
      ∃ t, exec (.ctxFrameSend n) s = .next t ∧ t.ctx.sending = some q ∧ t.ctx.waiting = qs ∧
        t.rd Reg.CTX_STAT_SENDING = 1 ∧ t.rd Reg.CTX_STAT_HEAD = q.head ∧
        ∃ o, t.ctx.out = some o ∧ o.fs = q.res.frame.toNat % 65535 + 1 ∧ o.cut = false ∧
          (let fits := q.noLines = false ∧ (q.repeated = true → (s.readOut q.head true).le (s.toNextFt n) = true)
           ((s.rd (Reg.CTX_HCFG_EXPIMG q.head) = 0 ∨ s.privLock = true ∨ ¬fits) → o.image = []) ∧
           (s.rd (Reg.CTX_HCFG_EXPIMG q.head) = 1 → s.privLock = false → fits → o.image = s.imageLines q.head) ∧
           (q.repeated = true → s.rd (Reg.CTX_HCFG_EXPIMG q.head) = 1 → s.privLock = false → ¬fits →
             t.rd Reg.CTX_NOIMG = min (s.rd Reg.CTX_NOIMG + 1) 0x3FFFF))) ∧
    (∀ (h : Fin 4) (p : CtxReq) (n : Nat), s.ctx.sending = some p →
      ∃ t, exec (.ctxRepeatSend h n) s = .next t ∧
        t.ctx = { s.ctx with waiting := s.ctx.waiting ++ s.ctx.repeats.filter (fun q => q.head == h.val)
                             repeats := s.ctx.repeats.filter (fun q => !(q.head == h.val)) } ∧
        Frame [] [.ctx] s t) ∧
    (∀ (q : CtxReq) (o : CtxOut) (n : Nat), s.ctx.sending = some q → s.ctx.out = some o → s.ctx.waiting = [] →
      ∃ t, exec (.ctxFrameDone n) s = .next t ∧ t.ctx.sending = none ∧ t.rd Reg.CTX_STAT_SENDING = 0 ∧
        t.rd Reg.CTX_FRAMES = min (s.rd Reg.CTX_FRAMES + 1) 0x3FFFF ∧ t.therm.portBand[4] = s.rd Reg.THM_STAT_BAND ∧
        t.ctx.relink = false ∧
        t.ctx.deskews = (if s.ctx.relink = true ∧ 150 < s.rd Reg.CTX_LINK_RATE then s.ctx.deskews + 1 else s.ctx.deskews) ∧
        ∃ o', t.ctx.out = some o' ∧ o'.fs = o.fs ∧ o'.image = o.image ∧ (o.cut = true → o' = o)) ∧
    (s.ctx.sending = none → ∃ t, exec .ctxDeskew s = .next t ∧
      t.ctx.deskews = (if 150 < s.rd Reg.CTX_LINK_RATE then s.ctx.deskews + 1 else s.ctx.deskews) ∧ Frame [] [.ctx] s t))

/-- R84: a command of PWR_DCTL that its domain takes. ON starts the domain and the required domains that are not ON, and leaves
the others; RET and OFF, where no domain that is not OFF requires it, start the way down, and its engines in service enter
DRAIN. LAST and RESULT read OK.

R84, R86: what turns a domain command away changes nothing but LAST, BLOCKER and RESULT. A domain that commands do not
switch, a fused-off one, and RET where the domain has none are BAD_ARG; a domain in transition is BUSY; RET and OFF of a
domain that another one needs are REFUSED, and BLOCKER names it.

R48, R83 to R85: a transition to ON completes once the domains it requires are ON, one to RET once its engines have drained
and those domains are ON, and one to OFF once its engines have drained and every domain that requires it is OFF; a domain
that another one waits for is then switched ON again. An engine in DRAIN whose requests are complete goes DOWN, or to
LOADING where it drains for a reload. -/
def Obligations.PowerDomains : Prop :=
  (∀ (s : State) (d : Nat), d = s.rd Reg.PWR_DSEL → Accepts s .pwr → s.unlocked .pwr = true → 5 ≤ d → d < 30 → d ≠ 22 →
    s.domFused d = false → (s.dom d).pend = none → (∀ e ∈ domEngines d, s.reloading e = false) →
    (∃ t, exec .domainOn s = .next t ∧
      (∀ e, e < 30 → t.dom e = (if e ∈ s.domNeeds d then { s.dom e with pend := some .on } else s.dom e)) ∧
      t.rd ⟨domKey d, 8, 4⟩ = Status.OK ∧ t.rd Blk.pwr.statusFld = Status.OK ∧
      Frame [(domKey d, domKey d + 1), (0x7FE, 0x7FF)] [.power] s t) ∧
    (s.domBlocker d = none → (∀ e ∈ domEngines d, s.eng e ≠ stDrain ∧ s.eng e ≠ stLoading) → (s.dom d).st = .on →
      (domRets d = true → ∃ t, exec .domainRet s = .next t ∧ t.dom d = { s.dom d with pend := some .ret } ∧
        t.rd ⟨domKey d, 8, 4⟩ = Status.OK ∧ (∀ e ∈ domEngines d, s.works e = true → t.eng e = stDrain)) ∧
      (∃ t, exec .domainOff s = .next t ∧ t.dom d = { s.dom d with pend := some .off } ∧
        t.rd ⟨domKey d, 8, 4⟩ = Status.OK ∧ (∀ e ∈ domEngines d, s.works e = true → t.eng e = stDrain)))) ∧
  (∀ (s : State) (d : Nat) (c : Instr), d = s.rd Reg.PWR_DSEL → Accepts s .pwr → s.unlocked .pwr = true →
    c = .domainOn ∨ c = .domainRet ∨ c = .domainOff →
    (d < 5 ∨ d = 22 ∨ 30 ≤ d ∨ s.domFused d = true ∨ (c = .domainRet ∧ domRets d = false) →
      ∃ t, exec c s = .next t ∧ t.rd ⟨domKey d, 8, 4⟩ = Status.BAD_ARG ∧ t.rd Blk.pwr.statusFld = Status.BAD_ARG ∧
        Frame [(domKey d, domKey d + 1), (0x7FE, 0x7FF)] [] s t) ∧
    (5 ≤ d → d < 30 → d ≠ 22 → s.domFused d = false → (c = .domainRet → domRets d = true) → (s.dom d).pend ≠ none →
      ∃ t, exec c s = .next t ∧ t.rd ⟨domKey d, 8, 4⟩ = Status.BUSY ∧
        Frame [(domKey d, domKey d + 1), (0x7FE, 0x7FF)] [] s t) ∧
    (5 ≤ d → d < 30 → d ≠ 22 → s.domFused d = false → (c = .domainRet → domRets d = true) → (s.dom d).pend = none →
      (∀ e ∈ domEngines d, s.reloading e = false) → c ≠ .domainOn → ∀ b, s.domBlocker d = some b →
      ∃ t, exec c s = .next t ∧ t.rd ⟨domKey d, 8, 4⟩ = Status.REFUSED ∧ t.rd ⟨domKey d, 13, 9⟩ = b ∧
        Frame [(domKey d, domKey d + 1), (0x7FE, 0x7FF)] [] s t)) ∧
  ((∀ (s : State) (d : Fin 30), s.up = true → (s.dom d.val).pend = some .on → (∀ e ∈ domRequires d.val, s.domOn e = true) →
    ∃ t, exec (.domainTransitionDone d) s = .next t ∧ t.dom d.val = { st := .on, pend := none } ∧
      (∀ e, e ≠ d.val → t.dom e = s.dom e)) ∧
  (∀ (s : State) (d : Fin 30) (g : DomState), s.up = true → (s.dom d.val).pend = some g → g ≠ .on →
    (∀ e ∈ domEngines d.val, s.eng e ≠ stDrain) → (g = .ret → ∀ e ∈ domRequires d.val, s.domOn e = true) →
    (g = .off → ∀ e : Nat, e < 30 → d.val ∈ domRequires e → (s.dom e).st = .off) →
    ∃ t, exec (.domainTransitionDone d) s = .next t ∧
      t.dom d.val = { st := g, pend := if s.domWanted d.val then some .on else none } ∧
      (∀ e, e ≠ d.val → t.dom e = s.dom e)) ∧
  (∀ (s : State) (e : Engine), s.up = true → s.eng e = stDrain → s.drained e = true → s.reloading e = false →
    ∃ t, exec (.drainComplete e) s = .next t ∧ t.eng e = stDown) ∧
  (∀ (s : State) (e : Engine), s.up = true → s.eng e = stDrain → s.drained e = true → s.reloading e = true →
    (∀ d : Nat, d < 30 → e ∈ domEngines d → (s.dom d).pend = none) →
    ∃ t, exec (.drainComplete e) s = .next t ∧ t.eng e = stLoading))

/-- R61: while RESET_N is low every register outside the AON keep stands at its Reset value, every point and engine state is
lost, and the AON keep (RTC, rail flags, loss counters) and the fuses hold what they held. With VDD_AON below its threshold
the AON keep is lost too (R79). TALLY_STAT alone shows that batched counts went with it (R358). -/
def Obligations.ResetLosesState : Prop :=
  (∀ s : State, ∃ t, exec .resetAssert s = .next t ∧ t.balls.resetN = false ∧
    (∀ k, k < 0x60000 → k ≠ 0x800 → (s.batched = true → k ≠ 0x1400) → inAonKeep k = false →
      t.rdKey k = (resetVal k).toNat) ∧
    (s.batched = true → t.rd Reg.TALLY_STAT_BLOST = 1) ∧
    (∀ k, inAonKeep k = true → t.rdKey k = s.rdKey k) ∧
    t.rdB Reg.CLK_STAT_RTCOK = s.rdB Reg.CLK_STAT_RTCOK ∧ t.rdB Reg.CLK_STAT_RTCSUB = s.rdB Reg.CLK_STAT_RTCSUB ∧
    t.rtc.sec = s.rtc.sec ∧ t.rtc.tvalid = s.rtc.tvalid ∧ t.points = [] ∧ t.therm = Therm.init ∧
    t.tick.frame = 0 ∧ t.tick.running = false ∧ t.boot = BootState.init ∧ t.fuses = s.fuses ∧ t.pending = s.pending ∧
    (s.tally.running = none → t.tally.mem = s.tally.mem)) ∧
  (∀ s : State, ∃ t, exec .powerOnReset s = .next t ∧ t.power.aon = false ∧
    (∀ k, k < 0x60000 → (s.batched = true → k ≠ 0x1400) → t.rdKey k = (resetVal k).toNat) ∧ t.rtc = Rtc.init ∧ t.points = [] ∧ t.therm = Therm.init ∧
    t.tick.frame = 0 ∧ t.tick.running = false ∧ t.boot = BootState.init ∧ t.fuses = s.fuses ∧ t.pending = s.pending ∧
    (s.tally.running = none → t.tally.mem = s.tally.mem))

/-- R61, R80, R81: a fall of PGOOD, and a rail monitor's trip, hold every domain except D0 in reset: D0 keeps the tick generator
with the frame number and a change that waits, the schedules, the RTC and its registers; every other register but CLK_STAT,
the comparators' FAN_GSTAT (R306) and the flag of lost counts stands at its Reset value, and no trip runs. The rail's flag
is set, and it is set while RESET_N is low too.

R23, R61, R79, R80: the ways out of reset. A D0 that was in reset starts its tick generator at phase, sample and frame 0;
one that kept running keeps all three. The schedule engine is DOWN until its section is applied, with no override in force
(R270). -/
def Obligations.PowerFailures : Prop :=
  ((∀ s : State, s.balls.resetN = true → s.balls.pgood = true → ∃ t, exec .pgoodFall s = .next t ∧ t.balls.pgood = false ∧
    (∀ k, k < 0x60000 → k ≠ 0x800 → k ≠ 0x7F04 → (s.batched = true → k ≠ 0x1400) →
      t.rdKey k = if inD0 k then s.rdKey k else (resetVal k).toNat) ∧
    t.tick = s.tick ∧ t.scheds = s.scheds ∧ t.therm.tripped = false ∧
    t.balls.live = s.balls.live ∧ t.rtc.sec = s.rtc.sec ∧ t.therm.sensors = s.therm.sensors ∧ t.points = [] ∧
    t.boot = BootState.init ∧ t.fuses = s.fuses ∧ t.pending = s.pending) ∧
  (∀ (s : State) (r : Fin 6), s.balls.resetN = true → s.balls.pgood = true → s.power.aon = true → s.power.railTrip = false →
    ∃ t, exec (.railMonitorTrip r) s = .next t ∧ t.power.railTrip = true ∧ t.rd (railFlag r) = 1 ∧
    (∀ k, k < 0x60000 → k ≠ 0x800 → k ≠ 0x405 → k ≠ 0x2006 → k ≠ 0x7F04 → (s.batched = true → k ≠ 0x1400) →
      t.rdKey k = if inD0 k then s.rdKey k else (resetVal k).toNat) ∧
    t.tick = s.tick ∧ t.scheds = s.scheds ∧ t.rtc.sec = s.rtc.sec ∧ t.points = [] ∧ t.therm.tripped = false ∧
    t.boot = BootState.init ∧ t.fuses = s.fuses ∧ t.pending = s.pending) ∧
  (∀ (s : State) (r : Fin 6), s.balls.resetN = false → s.balls.pgood = true → s.power.aon = true →
    ∃ t, exec (.railMonitorTrip r) s = .next t ∧ t.power = { s.power with railTrip := true } ∧ t.rd (railFlag r) = 1 ∧
      Frame [(0x405, 0x406)] [.power, .therm] s t)) ∧
  ((∀ s : State, (s.balls.resetN && s.balls.pgood) = false → s.power.aon = true →
    ∃ t, exec .resetRelease s = .next t ∧ t.balls = { s.balls with resetN := true, pgood := true } ∧
      t.tick = (if s.tick.running then s.tick else Tick.init) ∧ t.scheds = [] ∧ t.eng .sched = stDown ∧
      Frame [(0x97FC, 0x97FD), (0x30000, 0x40000)] [.balls, .tick, .scheds] s t) ∧
  (∀ s : State, s.balls.resetN = false → s.balls.pgood = false → s.power.aon = true →
    ∃ t, exec .d0LeavesReset s = .next t ∧ t.balls = { s.balls with resetN := true } ∧
      t.tick = (if s.tick.running then s.tick else Tick.init) ∧ t.scheds = [] ∧ t.eng .sched = stDown ∧
      Frame [(0x97FC, 0x97FD), (0x30000, 0x40000)] [.balls, .tick, .scheds] s t) ∧
  (∀ s : State, s.power.aon = false →
    ∃ t, exec .powerOnResetRelease s = .next t ∧ t.power = { s.power with aon := true } ∧
      t.rd Reg.CLK_IOSC_TRIM = s.fuseField 352 8 ∧ Frame [(Reg.CLK_IOSC_TRIM.key, Reg.CLK_IOSC_TRIM.key + 1)] [.power] s t) ∧
  (∀ s : State, s.power.railTrip = true → s.balls.pgood = true →
    ∃ t, exec .railRecovery s = .next t ∧ t.power = { s.power with railTrip := false } ∧
      (s.balls.resetN = true → t.tick = (if s.tick.running then s.tick else Tick.init) ∧ t.scheds = [] ∧
        Frame [(0x97FC, 0x97FD), (0x30000, 0x40000)] [.power, .tick, .scheds] s t) ∧
      (s.balls.resetN = false → Frame [] [.power] s t)))

/-- R107, R108, Table 5-4: a waiting cause starts the trip sequence: the cause and the next one are recorded, NTRIP counts,
forced balls are released, waiting tally pages and events are abandoned, a reload is abandoned; what the shutdown record
will hold is kept as it is at the trip (R109). From then on commands are refused with DOWN (Registers). A cause that arises
during the sequence does not restart it.

R108 to R110: the shutdown record is programmed to page SEQ mod 32; step 7 takes every domain except D0 OFF and keeps D0; a
warm restart, once Tj has been below 95 °C for 10 s with restarts enabled and fewer than three made, or with XIN back after
XTAL_LOSS, starts the boot sequencer again; without one the device waits. NAUTO returns to 0 after an hour. -/
def Obligations.TripSequence : Prop :=
  ((∀ (s : State) (c : TripCause) (cs : List TripCause), s.up = true → s.therm.causes = c :: cs → s.therm.tripped = false →
    ∃ t, exec .trip s = .next t ∧ t.therm.tripped = true ∧ t.therm.causes = [] ∧ t.therm.recorded = false ∧
      t.therm.shutdown = false ∧ t.therm.tripInfo = some (s.tick.frame, s.topReading) ∧ t.rd Reg.THM_TRIP_CAUSE = c.code ∧
      t.rd Reg.THM_TRIP_CAUSE2 = (match cs with | d :: _ => d.code | [] => 0) ∧
      t.rd Reg.THM_TRIP_NTRIP = min (s.rd Reg.THM_TRIP_NTRIP + 1) 255 ∧ t.balls.forced = [] ∧ t.tally.waiting = [] ∧
      t.tally.events = [] ∧ t.boot.reload = none ∧ t.act.tripped = true ∧ t.tick = s.tick ∧ t.fuses = s.fuses) ∧
  (∀ s : State, s.therm.tripped = true → ∃ t, exec .trip s = .next t ∧ Frame [] [] s t)) ∧
  ((∀ s : State, s.up = true → s.therm.tripped = true → s.therm.recorded = false → s.tally.running = none → s.tally.waiting = [] →
    s.tally.events = [] → s.domOn 2 = true →
    ∃ t, exec .shutdownRecord s = .next t ∧ t.therm = { s.therm with recorded := true } ∧
      t.tally.running = some { kind := .shutdown, page := s.shutdownSeq % 32,
                               bytes := atOffset 0 (withCheck (s.shutdownBody s.shutdownSeq)) } ∧
      t.tally.mem = s.tally.mem) ∧
  (∀ s : State, s.therm.tripped = true → s.therm.shutdown = false → s.tally.running = none →
    (s.domOn 2 = true → s.therm.recorded = true) →
    ∃ t, exec .tripDomainsOff s = .next t ∧ t.therm.shutdown = true ∧ t.power.doms = Power.init.doms ∧
      (∀ k, k < 0x60000 → k ≠ 0x800 → k ≠ 0x2006 → k ≠ 0x7F04 → (s.batched = true → k ≠ 0x1400) →
        t.rdKey k = if inD0 k then s.rdKey k else (resetVal k).toNat) ∧
      t.tick = s.tick ∧ t.scheds = s.scheds ∧ t.rtc.sec = s.rtc.sec ∧ t.tally.mem = s.tally.mem ∧ t.fuses = s.fuses) ∧
  (∀ (s : State) (c : Nat), s.therm.shutdown = true → s.rd Reg.THM_TRIP_CAUSE ≠ 2 → s.therm.coolSince = some c →
    c + sec10 ≤ s.therm.time → s.therm.judged = false → s.rd Reg.THM_AUTORESTART_EN = 1 →
    s.rd Reg.THM_AUTORESTART_NAUTO < 3 →
    ∃ t, exec .warmRestart s = .next t ∧ t.therm.shutdown = false ∧ t.therm.tripped = false ∧ t.boot = BootState.init ∧
      t.rd Reg.THM_AUTORESTART_NAUTO = s.rd Reg.THM_AUTORESTART_NAUTO + 1 ∧ t.therm.sensors = s.therm.sensors ∧
      Frame [(0xC13, 0xC14), (0x1400, 0x1800), (0x2004, 0x2007), (0x97FC, 0x97FD), (0x30000, 0x40000)]
        [.therm, .act, .boot, .tally, .hsp, .scheds] s t) ∧
  (∀ s : State, s.therm.shutdown = true → s.rd Reg.THM_TRIP_CAUSE = 2 → s.clock.xin = true →
    ∃ t, exec .warmRestart s = .next t ∧ t.therm.shutdown = false ∧ t.therm.tripped = false ∧ t.boot = BootState.init ∧
      Frame [(0x1400, 0x1800), (0x2004, 0x2007), (0x97FC, 0x97FD), (0x30000, 0x40000)]
        [.therm, .act, .boot, .tally, .hsp, .scheds] s t) ∧
  (∀ (s : State) (c : Nat), s.therm.shutdown = true → s.rd Reg.THM_TRIP_CAUSE ≠ 2 → s.therm.coolSince = some c →
    c + sec10 ≤ s.therm.time → s.therm.judged = false →
    s.rd Reg.THM_AUTORESTART_EN = 0 ∨ s.rd Reg.THM_AUTORESTART_NAUTO = 3 →
    ∃ t, exec .warmRestart s = .next t ∧ t.therm = { s.therm with judged := true } ∧ Frame [] [.therm] s t) ∧
  (∀ s : State, s.up = true → s.therm.tripped = false →
    ∃ t, exec .nautoWindowEnd s = .next t ∧ t.rd Reg.THM_AUTORESTART_NAUTO = 0 ∧ Frame [(0xC13, 0xC14)] [] s t))

/-- R92 to R97: the checks and losses of the clocks, each with all it changes, while D0 is out of reset. XIN counts as present
within 3% of 25,000 cycles; its loss starts holdover and counts, and with HOLD 0 raises the trip cause at once, as the end
of the holdover does while XIN is away; its return after a trip for that cause ends the holdover at once; the cause of a
PLLM loss is raised while XIN is present; a loss of PLLB stops the running burst; a missing RTC crystal makes the RTC run on
XIN synthesis with no count lost.

R93: ERR is the deviation of IOSC in steps of 0.02%, at one of its two neighbours, and TRIM is corrected from it. How far a
correction goes is the model's open constant (notes/assumptions/1). -/
def Obligations.Clocks : Prop :=
  ((∀ (s : State) (n : Nat), s.d0Up = true → s.rd Reg.CLK_STAT_XTALOK = 0 → 24250 ≤ n → n ≤ 25750 →
    ∃ t, exec (.xtalCheck n) s = .next t ∧ t.rd Reg.CLK_STAT_XTALOK = 1 ∧ t.clock = { s.clock with xin := true } ∧
      Frame [(0x800, 0x801)] [.clock] s t) ∧
  (∀ (s : State) (n : Nat), n < 24250 ∨ 25750 < n → ∃ t, exec (.xtalCheck n) s = .next t ∧ Frame [] [.clock] s t) ∧
  (∀ s : State, s.d0Up = true → s.rd Reg.CLK_STAT_XTALOK = 1 → s.clock.xin = true →
    ∃ t, exec .xinLoss s = .next t ∧ t.rd Reg.CLK_STAT_XHOLD = 1 ∧ t.clock = { s.clock with xin := false } ∧
      t.rd Reg.CLK_LOSS_XLOSS = min (s.rd Reg.CLK_LOSS_XLOSS + 1) 511 ∧
      (s.rd Reg.CLK_HOLD = 0 → s.therm.tripped = false → t.therm.causes = causeInsert .xtalLoss s.therm.causes) ∧
      (s.rd Reg.CLK_HOLD ≠ 0 → t.therm = s.therm ∧ Frame [(0x800, 0x801), (0x804, 0x805)] [.clock] s t)) ∧
  (∀ s : State, s.d0Up = true → s.rd Reg.CLK_STAT_XHOLD = 1 → s.clock.xin = false → s.therm.tripped = false →
    (∃ t, exec .holdoverExpiry s = .next t ∧ t.therm.causes = causeInsert .xtalLoss s.therm.causes ∧ Frame [] [.therm] s t) ∧
    (∃ t, exec .xinReturn s = .next t ∧ t.clock = { s.clock with xin := true } ∧ Frame [] [.clock] s t)) ∧
  (∀ s : State, s.d0Up = true → s.clock.xin = false → s.therm.tripped = true → s.rd Reg.THM_TRIP_CAUSE = 2 →
    ∃ t, exec .xinReturn s = .next t ∧ t.rd Reg.CLK_STAT_XHOLD = 0 ∧ t.clock = { s.clock with xin := true } ∧
      Frame [(0x800, 0x801)] [.clock] s t) ∧
  (∀ s : State, s.up = true → s.rd Reg.CLK_STAT_PLLMLK = 1 → s.clock.xin = true → s.therm.tripped = false →
    ∃ t, exec .pllmUnlock s = .next t ∧ t.rd Reg.CLK_STAT_PLLMLK = 0 ∧
      t.therm.causes = causeInsert .pllUnlock s.therm.causes ∧ Frame [(0x800, 0x801)] [.therm] s t) ∧
  (∀ s : State, s.up = true → s.rd Reg.CLK_STAT_PLLBLK = 1 →
    ∃ t, exec .pllbUnlock s = .next t ∧ t.rd Reg.CLK_STAT_PLLBLK = 0 ∧
      t.rd Reg.CLK_LOSS_BLOSS = min (s.rd Reg.CLK_LOSS_BLOSS + 1) 511 ∧ t.bursts.running = none ∧
      (s.bursts.running = none → s.clock.pendFbk = none → Frame [(0x800, 0x801), (0x804, 0x805)] [] s t)) ∧
  (∀ s : State, s.up = true → s.domOn 4 = true →
    ∃ t, exec .pllbRelockDone s = .next t ∧ t.rd Reg.CLK_STAT_PLLBLK = 1 ∧ Frame [(0x800, 0x801)] [] s t) ∧
  (∀ (s : State) (ok : Bool), s.d0Up = true → s.clock.rtcJudged = false →
    ∃ t, exec (.rtcSourceSelect ok) s = .next t ∧ t.rdB Reg.CLK_STAT_RTCOK = ok ∧ t.rdB Reg.CLK_STAT_RTCSUB = !ok ∧
      t.rtc = s.rtc ∧ t.tick = s.tick ∧ t.clock = { s.clock with rtcJudged := true }) ∧
  (∀ s : State, s.power.aon = true → s.rd Reg.CLK_STAT_RTCOK = 1 →
    ∃ t, exec .rtcCrystalStop s = .next t ∧ t.rd Reg.CLK_STAT_RTCOK = 0 ∧ t.rd Reg.CLK_STAT_RTCSUB = 1 ∧
      t.rtc = s.rtc ∧ t.tick = s.tick)) ∧
  (∀ (s : State) (n : Nat), s.d0Up = true → s.rd Reg.CLK_STAT_XTALOK = 1 → s.rd Reg.CLK_STAT_XHOLD = 0 →
    ∃ t, exec (.ioscTrim n) s = .next t ∧
      (∃ u : Nat, u ≤ 1 ∧ (((n : Int) - 25000000) % 5000 = 0 → u = 0) ∧
        t.rdS Reg.CLK_IOSC_ERR = clampInt (-128) 127 (((n : Int) - 25000000) / 5000 + u)) ∧
      t.rd Reg.CLK_IOSC_TRIM = (Config.trimAfter (s.rd Reg.CLK_IOSC_TRIM) (t.rd Reg.CLK_IOSC_ERR)).toNat ∧
      Frame [(0x803, 0x804)] [.freeCtr] s t)

/-- R98 to R107: a sample of the sixteen sensors. A sensor whose code is out of range or has jumped fails and stays failed; the
others hold the new reading; Tj is at least every valid one; NORELAX and HOLDL3 count the failed ones; the level and the
band follow Tj with their hysteresis; 125 °C on a valid sensor and fewer than eight valid ones raise their trip causes.

R102: CLEAR of a failed sensor, 10 s after its last bad sample, makes it valid again; before that, and while THM is locked,
it is ILLEGAL_STATE and the sensor stays failed. -/
def Obligations.ThermalSensors : Prop :=
  (∀ (s : State) (r : Vector (BitVec 13) 16) (dt : Nat), s.d0Up = true →
    ∃ t, exec (.thermalSample r dt) s = .next t ∧ t.therm.time = s.therm.time + dt ∧
      (∀ i : Fin 16, s.tsFailed i.val = true ∨ badSample (s.sensor i.val) r[i] = true → t.tsFailed i.val = true) ∧
      (∀ i : Fin 16, t.tsFailed i.val = false → t.tsTemp i.val = r[i].toInt ∧ t.tsTemp i.val ≤ t.rdS Reg.THM_TJ_TJ) ∧
      (t.rdB Reg.THM_STAT_NORELAX = decide (t.validSensors.length < 16)) ∧
      (t.rdB Reg.THM_STAT_HOLDL3 = decide (t.validSensors.length < 15)) ∧
      t.rd Reg.THM_STAT_LEVEL = nextLevel (s.rd Reg.THM_STAT_LEVEL) (t.rdS Reg.THM_TJ_TJ) (t.rdB Reg.THM_STAT_NORELAX)
        (t.rdB Reg.THM_STAT_HOLDL3) ∧
      t.rd Reg.THM_STAT_BAND = nextBand (s.rd Reg.THM_STAT_BAND) (t.rdS Reg.THM_TJ_TJ) ∧
      (s.therm.tripped = false → (∃ i : Fin 16, t.tsFailed i.val = false ∧ 2000 ≤ t.tsTemp i.val) →
        .thermal ∈ t.therm.causes) ∧
      (s.therm.tripped = false → t.validSensors.length < 8 → .tsFail ∈ t.therm.causes) ∧
      t.therm.tripped = s.therm.tripped ∧ t.tick = s.tick ∧ t.balls = s.balls ∧ t.boot = s.boot ∧ t.fuses = s.fuses) ∧
  ((∀ (s : State) (i : Fin 16), Accepts s .thm → s.unlocked .thm = true → s.tsFailed i.val = true →
    (∀ u, (s.sensor i.val).lastBad = some u → u + sec10 ≤ s.therm.time) →
    ∃ t, exec (.sensorClear i) s = .next t ∧ t.tsFailed i.val = false ∧
      (∀ j : Fin 16, j ≠ i → t.tsFailed j.val = s.tsFailed j.val) ∧ t.rd Reg.THM_CTL_SENS = i.val ∧
      t.rd Blk.thm.statusFld = Status.OK ∧ t.rd Blk.thm.offsetFld = 0x012 ∧
      Frame [(0xC00 + i.val, 0xC01 + i.val), (0xC10, 0xC11), (0xC12, 0xC13), (0xFFE, 0xFFF), (0x1400, 0x1401),
        (0x1405, 0x1406), (0x1418, 0x141B), (0x2006, 0x2007)] [.therm, .tally] s t) ∧
  (∀ (s : State) (i : Fin 16), s.up = true → s.therm.tripped = false →
    s.unlocked .thm = false ∨
      (s.tsFailed i.val = true ∧ ∃ u, (s.sensor i.val).lastBad = some u ∧ s.therm.time < u + sec10) →
    ∃ t, exec (.sensorClear i) s = .next t ∧ t.rd Blk.thm.statusFld = Status.ILLEGAL_STATE ∧
      Frame [(0xFFE, 0xFFF)] [] s t))

/-- R274, R275, R277, R279, R282, R284: the end of a conversion. The result of a single-ended NORMAL or URGENT conversion goes
to the slot's point as its source's trigger, a fault of the excitation, which only a slot with a source can have, as a
failure; the first half of a pair waits for the second, in which the excitation's pins have swapped; a void conversion
counts and writes no point.

R285: a read of QHEAD removes the oldest entry of the converter's queue and captures its tag, status and value; of an empty
queue it captures zeros. -/
def Obligations.AdcResultsAndQueue : Prop :=
  ((∀ (s : State) (q : Fin 2) (code : Int) (clip fault : Bool) (c : Conv) (p : Point), s.up = true → (s.seq q.val).conv = some c →
    c.slot < 32 → c.void = false → s.rd (Reg.AFE_SLOTCFG0_ALT c.slot) = 0 → s.adcCalRuns q.val = false →
    (s.aslot c.slot).settling = false → s.rd (Reg.AFE_OUTPT_OUTEN c.slot) = 1 →
    s.point (s.rd (Reg.AFE_OUTPT_POINT c.slot)) = some p → p.source = .afe c.slot →
    ∃ t, exec (.adcConversionEnd q code clip fault) s = .next t ∧
      t.point (s.rd (Reg.AFE_OUTPT_POINT c.slot)) = some (p.trig (if fault && c.pins.ext != 0 then .fail none
        else s.afeValue c.slot (rawCode code clip) (s.rd (Reg.AFE_SLOTSTAT_CURGAIN c.slot)) clip)) ∧
      (∀ n, n ≠ s.rd (Reg.AFE_OUTPT_POINT c.slot) → t.point n = s.point n) ∧
      Frame [Blk.range .afe, Blk.range .adc] [.afe, .points, .freeCtr] s t) ∧
  (∀ (s : State) (q : Fin 2) (code : Int) (clip fault : Bool) (c : Conv), s.up = true → (s.seq q.val).conv = some c →
    c.void = false → s.rd (Reg.AFE_SLOTCFG0_ALT c.slot) = 1 → c.posHalf = none → s.adcCalRuns q.val = false →
    ∃ t, exec (.adcConversionEnd q code clip fault) s = .next t ∧
      (t.seq q.val).conv = some { c with
        posHalf := some (rawCode code clip, clip, fault && c.pins.ext != 0), pins := c.pins.swap } ∧ t.points = s.points) ∧
  (∀ (s : State) (q : Fin 2) (code : Int) (clip fault : Bool) (c : Conv), s.up = true → (s.seq q.val).conv = some c →
    c.void = true → s.adcCalRuns q.val = false →
    ∃ t, exec (.adcConversionEnd q code clip fault) s = .next t ∧ t.points = s.points ∧
      t.rd (Reg.ADC_VOIDA.plus q.val) = min (s.rd (Reg.ADC_VOIDA.plus q.val) + 1) 0x3FFFF)) ∧
  (∀ (s : State) (q : Fin 2), s.up = true →
    ((s.seq q.val).queue = [] → ∃ t, exec (.adcQheadRead q) s = .next t ∧ t.rdKey (0x7810 + 2 * q.val) = 0 ∧
      t.rdKey (0x7811 + 2 * q.val) = 0 ∧ Frame [(0x7810 + 2 * q.val, 0x7812 + 2 * q.val)] [] s t) ∧
    (∀ e es, (s.seq q.val).queue = e :: es → e.tag < 2 ^ 9 → e.st < 4 →
      ∃ t, exec (.adcQheadRead q) s = .next t ∧ (t.seq q.val).queue = es ∧
      t.rdKey (0x7810 + 2 * q.val) = 2 ^ 17 + e.tag * 2 ^ 8 + e.st * 2 ^ 5 ∧
      t.rdKey (0x7811 + 2 * q.val) = e.value.toNat ∧
      t.rd (Reg.ADC_QSTATA_LEVEL.plus q.val) = es.length % 256 ∧ t.seq (1 - q.val) = s.seq (1 - q.val) ∧
      Frame [(0x7810 + 2 * q.val, 0x7812 + 2 * q.val), (Reg.ADC_QSTATA_LEVEL.key + q.val, Reg.ADC_QSTATA_LEVEL.key + q.val + 1)]
        [.afe] s t))

/-- R280, R281: an urgent request, timed or commanded, of a slot whose sequencer runs a NORMAL conversion with no other request
before it takes the converter at once, the aborted slot is converted again after it; behind an urgent conversion it waits,
pending. A timed request is due at the latest sample tick edge, for this slot alone.

R280, R51: a REQUEST for a slot that is not enabled and urgent is BAD_ARG, one while the sequencer is under a test is
ILLEGAL_STATE; neither changes more than CSTAT and RESULT.

R287, R288, Table 13-5: the calibration commands. ZERO from IDLE starts stage ZERO on the slot, FS in ZWAIT on the same slot
starts FULL, ABORT of a running calibration ends it DOWN, 600 s in ZWAIT end it TIMEOUT. Coefficients do not change. -/
def Obligations.UrgentAndCalibration : Prop :=
  (∀ (s : State) (i : Fin 32) (c : Conv) (i' : Instr), s.works .conv = true → Accepts s .adc →
    (s.seq (s.seqOf i.val)).test = false → s.urgentSlot i.val = true → s.adcCalRuns (s.seqOf i.val) = false →
    i.val ∉ (s.seq (s.seqOf i.val)).urgent → (s.seq (s.seqOf i.val)).conv = some c →
    (i' = .urgentTimedRequest i ∧ s.timedDue = [i.val]) ∨ i' = .urgentRequest i →
    ∃ t, exec i' s = .next t ∧
      (i' = .urgentRequest i → t.rd Reg.ADC_URGCMD_CSTAT = Status.OK ∧ t.rd Reg.ADC_URGCMD_SLOT = i.val ∧
        t.rd Blk.adc.statusFld = Status.OK ∧ t.rd Blk.adc.offsetFld = 0x004) ∧
      (c.urgent = true → (t.seq (s.seqOf i.val)).urgent = (s.seq (s.seqOf i.val)).urgent ++ [i.val] ∧
        (t.seq (s.seqOf i.val)).conv = some c ∧ t.rd (Reg.AFE_SLOTSTAT_PEND i.val) = 1) ∧
      (c.urgent = false → (s.seq (s.seqOf i.val)).urgent = [] →
        (t.seq (s.seqOf i.val)).conv = some { slot := i.val, urgent := true, pins := s.slotPins i.val,
                                                 posHalf := none, void := false } ∧
        (t.seq (s.seqOf i.val)).redo = (if c.slot ∈ (s.seq (s.seqOf i.val)).redo then (s.seq (s.seqOf i.val)).redo
          else (s.seq (s.seqOf i.val)).redo ++ [c.slot]) ∧ t.rd (Reg.AFE_SLOTSTAT_PEND i.val) = 0) ∧
      Frame [Blk.range .afe, Blk.range .adc] [.afe] s t) ∧
  (∀ (s : State) (i : Fin 32), Accepts s .adc →
    (s.urgentSlot i.val = false → ∃ t, exec (.urgentRequest i) s = .next t ∧ t.rd Reg.ADC_URGCMD_CSTAT = Status.BAD_ARG ∧
      t.rd Reg.ADC_URGCMD_SLOT = s.rd Reg.ADC_URGCMD_SLOT ∧ t.rd Blk.adc.statusFld = Status.BAD_ARG ∧
      Frame [(Reg.ADC_URGCMD_SLOT.key, Reg.ADC_URGCMD_SLOT.key + 1), (Blk.adc.statusFld.key, Blk.adc.statusFld.key + 1)] [] s t) ∧
    (s.urgentSlot i.val = true → (s.seq (s.seqOf i.val)).test = true →
      ∃ t, exec (.urgentRequest i) s = .next t ∧ t.rd Reg.ADC_URGCMD_CSTAT = Status.ILLEGAL_STATE ∧
      t.rd Reg.ADC_URGCMD_SLOT = s.rd Reg.ADC_URGCMD_SLOT ∧ t.rd Blk.adc.statusFld = Status.ILLEGAL_STATE ∧
      Frame [(Reg.ADC_URGCMD_SLOT.key, Reg.ADC_URGCMD_SLOT.key + 1), (Blk.adc.statusFld.key, Blk.adc.statusFld.key + 1)] [] s t)) ∧
  ((∀ (s : State) (q : Fin 2) (i : Fin 32), Accepts s .adc → s.unlocked .adc = true → (s.seq q.val).test = false →
    s.rd (Reg.AFE_SLOTCFG0_EN i.val) = 1 → s.seqOf i.val = q.val →
    (s.calStage q.val = 0 → ∃ t, exec (.calZero q i) s = .next t ∧ t.calStage q.val = 1 ∧
      (t.seq q.val).cal = some { slot := i.val, sum := 0, done := 0, z := none } ∧
      t.rd (Reg.ADC_CALCTLA_CSTAT.plus q.val) = Status.OK ∧ t.rd (Reg.ADC_CALCTLA_SLOT.plus q.val) = i.val ∧
      t.rd (Reg.AFE_CGAIN i.val) = s.rd (Reg.AFE_CGAIN i.val) ∧ t.afeCofs i.val = s.afeCofs i.val) ∧
    (∀ c, s.calStage q.val = 2 → (s.seq q.val).cal = some c → c.slot = i.val →
      ∃ t, exec (.calFs q i) s = .next t ∧ t.calStage q.val = 3 ∧ (t.seq q.val).cal = some c ∧
      t.rd (Reg.ADC_CALCTLA_CSTAT.plus q.val) = Status.OK ∧
      t.rd (Reg.AFE_CGAIN i.val) = s.rd (Reg.AFE_CGAIN i.val) ∧ t.afeCofs i.val = s.afeCofs i.val) ∧
    (s.calStage q.val ≠ 0 → ∃ t, exec (.calAbort q i) s = .next t ∧ t.calStage q.val = 0 ∧ (t.seq q.val).cal = none ∧
      t.rd (Reg.ADC_CALRESA_RES.plus q.val) = Status.DOWN ∧ t.rd (Reg.ADC_CALCTLA_CSTAT.plus q.val) = Status.OK ∧
      t.rd (Reg.AFE_CGAIN i.val) = s.rd (Reg.AFE_CGAIN i.val) ∧ t.afeCofs i.val = s.afeCofs i.val)) ∧
  (∀ (s : State) (q : Fin 2), s.up = true → s.calStage q.val = 2 →
    ∃ t, exec (.calZwaitTimeout q) s = .next t ∧ t.calStage q.val = 0 ∧ (t.seq q.val).cal = none ∧
      t.rd (Reg.ADC_CALRESA_RES.plus q.val) = Status.TIMEOUT ∧ t.points = s.points ∧ Frame [Blk.range .adc] [.afe] s t) ∧
  (∀ (s : State) (q : Fin 2) (i : Fin 32) (c : Instr), s.up = true → s.therm.tripped = false → s.unlocked .adc = false →
    c = .calZero q i ∨ c = .calFs q i ∨ c = .calAbort q i →
    ∃ t, exec c s = .next t ∧ t.rd (Reg.ADC_CALCTLA_CSTAT.plus q.val) = Status.ILLEGAL_STATE ∧
      t.calStage q.val = s.calStage q.val ∧ t.rd (Reg.ADC_CALCTLA_SLOT.plus q.val) = s.rd (Reg.ADC_CALCTLA_SLOT.plus q.val) ∧
      Frame [(0x7805 + q.val, 0x7806 + q.val), (0x7BFE, 0x7BFF)] [] s t))

/-- R150, R153, R156, R158: the first waiting burst starts while none runs, a pixel engine is in service, PLLB is locked and no
pass of its head runs: it latches the registers and takes the frame's lines from the raw ring. A frame whose lines are no
longer all there is DROPPED with RING, and the run goes on.

R150 to R167: a burst that ends is no longer running, and BSTAT reports it with its frame's set and STATUS. In the normal
pipeline the head's pixels are those of the burst over the registers latched at its start, and the frame is the head's
latest corrected one; a late one reads DROPPED. -/
def Obligations.Bursts : Prop :=
  (∀ (s : State) (b : Burst) (bs : List Burst), s.up = true → s.bursts.running = none → s.bursts.waiting = b :: bs → b.head < 4 →
    s.anyPe = true → s.rd Reg.CLK_STAT_PLLBLK = 1 → (∀ p, s.stat.running = some p → p.head ≠ b.head) →
    (∀ raw, s.ringLines b.head b.res.frame b.slot0 = some raw →
      ∃ t, exec .burstStart s = .next t ∧
        t.bursts = { s.bursts with
          waiting := bs
          awake := true
          running := some { b with
            cal := s.burstMode b.head, ctx := some s.regs, raw := raw, first := !s.bursts.awake
            frst := s.burstMode b.head == 0 && (s.head b.head).filtReset } } ∧
        t.rd (Reg.PE_BSTAT_RUN b.head) = 1 ∧
        Frame [((Reg.PE_BSTAT_RUN b.head).key, (Reg.PE_BSTAT_RUN b.head).key + 1)] [.bursts, .heads] s t) ∧
    (s.ringLines b.head b.res.frame b.slot0 = none →
      ∃ t, exec .burstStart s = .next t ∧ t.bursts = { s.bursts with waiting := bs } ∧
        t.rd (Reg.PE_BSTAT_STATUS b.head) = Status.DROPPED ∧ t.rd (Reg.PE_BSTAT_RING b.head) = 1 ∧
        t.rd (Reg.PE_BSTAT_LATE b.head) = 0 ∧ t.px b.head = s.px b.head)) ∧
  (∀ (s : State) (b : Burst) (rg : Regs) (uecc : List Nat) (cecc : Nat), s.up = true → s.bursts.running = some b → b.head < 4 →
    b.ctx = some rg → b.res.set < 4 → b.res.status < 32 →
    ∃ t, exec (.burstEnd uecc cecc) s = .next t ∧ t.bursts.running = none ∧
      t.bursts.waiting = s.bursts.waiting ∧ t.bursts.awake = s.bursts.awake ∧ t.rd (Reg.PE_BSTAT_RUN b.head) = 0 ∧ t.rd (Reg.PE_BSTAT_SET b.head) = b.res.set ∧
      t.rdB (Reg.PE_BSTAT_CAL b.head) = (b.cal != 0) ∧ t.rdB (Reg.PE_BSTAT_FRST b.head) = b.frst ∧
      (b.cal = 0 → t.px b.head = (runBurst (({ s with regs := rg }).burstCtx b.head b.res b.frst) (s.px b.head) b.raw uecc).px ∧
        (t.head b.head).good = some b.res ∧
        t.rd (Reg.PE_BSTAT_STATUS b.head) = if b.late then Status.DROPPED else b.res.status))

/-- R87, R166: the pixel engines' domains step down to retention once no burst runs or waits; FILTER_RESET makes the next frame
of its head a filter-reset frame.

R195, R196, R200: a statistics pass starts after the last burst and latches the registers; at its end the head's pixels, its
tracks and its counts are those of the pass; at the frame's deadline what waits or runs for the head is abandoned. -/
def Obligations.PixelEngines : Prop :=
  ((∀ s : State, s.up = true → s.bursts.running = none → s.bursts.waiting = [] →
    ∃ t, exec .peRetentionEntry s = .next t ∧ t.bursts.awake = false ∧
      (∀ n : Fin 4, s.peWorks n.val = true → t.dom (10 + n.val) = { st := .ret, pend := none }) ∧
      (∀ d, d < 10 ∨ 14 ≤ d → t.dom d = s.dom d) ∧ Frame [] [.bursts, .power] s t) ∧
  (∀ (s : State) (h : Fin 4), Accepts s (.pe h) → s.unlocked (.pe h) = true →
    ∃ t, exec (.filterReset h) s = .next t ∧ (t.head h.val).filtReset = true ∧ t.px h.val = s.px h.val ∧
      (∀ g : Fin 4, g ≠ h → t.head g.val = s.head g.val) ∧ t.rd (Blk.pe h).statusFld = Status.OK ∧
      t.rd (Blk.pe h).offsetFld = 0x007 ∧
      Frame [((Blk.pe h).statusFld.key, (Blk.pe h).statusFld.key + 1)] [.heads] s t)) ∧
  ((∀ (s : State) (p : Pass) (ps : List Pass), s.up = true → s.stat.running = none → s.stat.waiting = p :: ps → p.lapsed = false →
    p.head < 4 → s.works .stat = true → s.bursts.running = none → s.bursts.waiting = [] →
    ∃ t, exec .statisticsPassStart s = .next t ∧
      t.stat.running = some { p with ctx := some s.regs, seed := (s.occHead p.head).seedNext
                                     clear := (s.occHead p.head).clearNext } ∧
      t.stat.waiting = ps ∧ t.stat.records = s.stat.records ∧ (t.occHead p.head).seedNext = false ∧
      (t.occHead p.head).clearNext = false ∧ Frame [] [.stat] s t) ∧
  (∀ (s : State) (p : Pass) (rg : Regs) (uecc : List Nat), s.up = true → s.stat.running = some p → p.head < 4 → p.ctx = some rg →
    ∃ t, exec (.statisticsPassEnd uecc) s = .next t ∧ t.stat.running = none ∧ t.stat.waiting = s.stat.waiting ∧
      t.px p.head = (runPass (({ s with regs := rg }).passCtx p.head p.res p.seed) (s.px p.head) uecc).px ∧
      (t.head p.head).lastPass = some p.res ∧ (t.occHead p.head).lastFrame = some p.res.frame ∧
      (t.occHead p.head).blobs.length ≤ 256 ∧ t.rdB (Reg.OCC_FSTAT_SEED p.head) = p.seed) ∧
  (∀ (s : State) (h : Fin 4), s.up = true →
    ∃ t, exec (.statisticsDeadline h) s = .next t ∧
      t.stat.waiting = s.stat.waiting.filter (fun p => p.head != h.val) ∧
      t.stat.running = (match s.stat.running with | some p => if p.head = h.val then none else some p | none => none) ∧
      (s.stat.running = none → t.heads = s.heads)))

/-- R202, R205, R211, Tables 10-21 and 10-26: RSEL copies the last record of an enabled stand; a stand that is not enabled is a
HOLE, one without a record NOT_YET, which leaves the copy as it was; BSEL captures a blob of the latest processed frame;
RESET and CLEAR mark the head's next pass. -/
def Obligations.StandCommands : Prop :=
  (∀ (s : State) (v : Word), Accepts s .stand →
    ∃ t, exec (.standRselWrite v) s = .next t ∧ t.rd Reg.STAND_RSEL_STAND = v.toNat % 1024 ∧
      t.rd Blk.stand.statusFld = Status.OK ∧
      ((v.toNat % 1024 = 0 ∨ s.rd (Reg.STAND_SCFG0_EN (v.toNat % 1024)) = 0) → t.rd Reg.STAND_RSEL_RSTAT = Status.HOLE ∧
        ∀ i, i < 28 → t.rd (Reg.STAND_REC i) = 0) ∧
      (v.toNat % 1024 ≠ 0 → s.rd (Reg.STAND_SCFG0_EN (v.toNat % 1024)) = 1 →
        (assocGet s.stat.records (v.toNat % 1024) = none → t.rd Reg.STAND_RSEL_RSTAT = Status.NOT_YET ∧
          ∀ i, i < 28 → t.rd (Reg.STAND_REC i) = s.rd (Reg.STAND_REC i)) ∧
        (∀ ws, assocGet s.stat.records (v.toNat % 1024) = some ws → t.rd Reg.STAND_RSEL_RSTAT = Status.OK ∧
          ∀ i, i < 28 → t.rd (Reg.STAND_REC i) = (ws.getD i 0).toNat)) ∧
      Frame [Blk.range .stand] [] s t) ∧
  (∀ (s : State) (v : Word) (h : Nat), h = v.toNat / 256 % 4 → Accepts s .occ → s.headPresent h = true →
    ∃ t, exec (.occBselWrite v) s = .next t ∧ t.rd Reg.OCC_BSEL_HEAD = h ∧ t.rd Reg.OCC_BSEL_BLOB = v.toNat % 256 ∧
      ((s.occHead h).lastFrame = none → t.rd Reg.OCC_BCAP_STATUS = Status.NOT_YET) ∧
      (∀ f b, (s.occHead h).lastFrame = some f → (s.occHead h).blobs[v.toNat % 256]? = some b →
        t.rd Reg.OCC_BCAP_STATUS = Status.OK ∧ t.rd Reg.OCC_BCAP_FRAME = frameTag f ∧
        ∀ i, i < 11 → t.rd (Reg.OCC_BREC i) = ((blobWords (v.toNat % 256) b).getD i 0).toNat) ∧
      (∀ f, (s.occHead h).lastFrame = some f → (s.occHead h).blobs[v.toNat % 256]? = none →
        t.rd Reg.OCC_BCAP_STATUS = Status.HOLE ∧ ∀ i, i < 11 → t.rd (Reg.OCC_BREC i) = 0) ∧
      Frame [Blk.range .occ] [] s t) ∧
  (∀ (s : State) (h : Fin 4), Accepts s .occ → s.unlocked .occ = true →
    (∃ t, exec (.bkgReset h) s = .next t ∧ (t.occHead h.val).seedNext = true ∧ t.rd Blk.occ.statusFld = Status.OK ∧
      (∀ g : Fin 4, g ≠ h → t.occHead g.val = s.occHead g.val) ∧
      Frame [(Blk.occ.statusFld.key, Blk.occ.statusFld.key + 1)] [.stat] s t) ∧
    (∃ t, exec (.trackClear h) s = .next t ∧ (t.occHead h.val).clearNext = true ∧ t.rd Blk.occ.statusFld = Status.OK ∧
      (∀ g : Fin 4, g ≠ h → t.occHead g.val = s.occHead g.val) ∧
      Frame [(Blk.occ.statusFld.key, Blk.occ.statusFld.key + 1)] [.stat] s t))

/-- R383: a measurement falls due in the weekday and the hour set or on command, starts where the chip is cool and not
throttled, is tried again, and is given up as DELAYED after a day; the command while one is due is BUSY.

R383 to R385: the end of a measurement records its sixteen counts and is OK; only a second proposal in a row below the
ceiling lowers it, to the higher of the two; a measurement whose conditions have gone stays due.

R375, R376, R381, R382, Table 18-3: the fabric counts a promoted request, but for waits on the slice ports during a burst,
and C3 requests within the share of their window; one beyond it waits. A request carries its requester and a tag: an answer
frees the tag, a request to a part that is draining, down or loading is answered DOWN and recorded, any other is outstanding
with its tag; and no requester comes to more than 32 outstanding tags at a target. -/
def Obligations.AgeingAndFabric : Prop :=
  ((∀ s : State, s.up = true → s.works .age = true → s.rd Reg.AGE_CFG_EN = 1 → s.ageSlot = true → s.rd Reg.AGE_STAT_DUE = 0 →
    ∃ t, exec .ageMeasureDue s = .next t ∧ t.rd Reg.AGE_STAT_DUE = 1 ∧ t.age.running = (s.age.running || s.ageCool) ∧
      Frame [(Reg.AGE_STAT_DUE.key, Reg.AGE_STAT_DUE.key + 1)] [.age] s t) ∧
  (∀ s : State, Accepts s .age → s.unlocked .age = true →
    (s.rd Reg.AGE_STAT_DUE = 0 → ∃ t, exec .ageMeasure s = .next t ∧ t.rd Reg.AGE_STAT_DUE = 1 ∧
      t.age.running = (s.age.running || s.ageCool) ∧ t.rd Reg.AGE_CMD_CSTAT = Status.OK ∧
      t.rd Blk.age.statusFld = Status.OK ∧ Frame [Blk.range .age] [.age] s t) ∧
    (s.rd Reg.AGE_STAT_DUE = 1 → ∃ t, exec .ageMeasure s = .next t ∧ t.rd Reg.AGE_CMD_CSTAT = Status.BUSY ∧
      t.rd Blk.age.statusFld = Status.BUSY ∧ t.age = s.age ∧
      Frame [(Reg.AGE_CMD_CSTAT.key, Reg.AGE_CMD_CSTAT.key + 1), (Blk.age.statusFld.key, Blk.age.statusFld.key + 1)] [] s t)) ∧
  (∀ s : State, s.up = true → s.age.running = false → s.rd Reg.AGE_STAT_DUE = 1 →
    (∃ t, exec .ageRetry s = .next t ∧ t.age.running = s.ageCool ∧ Frame [] [.age] s t) ∧
    (∃ t, exec .ageMeasureDelayed s = .next t ∧ t.rd Reg.AGE_STAT_DUE = 0 ∧ t.rd Reg.AGE_STAT_MSTAT = Status.DELAYED ∧
      Frame [(Reg.AGE_STAT_DUE.key, Reg.AGE_STAT_DUE.key + 1)] [] s t))) ∧
  ((∀ (s : State) (codes : Vector Word 16), s.up = true → s.age.running = true → s.ageCool = true → (∀ p, s.age.pend = some p → p < 32) →
    ∃ t, exec (.ageMeasureDone codes) s = .next t ∧ t.age.running = false ∧ t.rd Reg.AGE_STAT_DUE = 0 ∧
      t.rd Reg.AGE_STAT_MSTAT = Status.OK ∧ (∀ i : Fin 16, t.rd (Reg.AGE_CNT i.val) = codes[i].toNat) ∧
      t.rd Reg.CLK_FB_CEILK = (match s.age.pend with
        | some p => if t.rd Reg.AGE_STAT_PROPK < s.rd Reg.CLK_FB_CEILK then max p (t.rd Reg.AGE_STAT_PROPK)
          else s.rd Reg.CLK_FB_CEILK
        | none => s.rd Reg.CLK_FB_CEILK) ∧
      t.rdB Reg.AGE_STAT_PEND = decide (t.rd Reg.AGE_STAT_PROPK < t.rd Reg.CLK_FB_CEILK) ∧ t.tick = s.tick ∧
      t.fuses = s.fuses) ∧
  (∀ (s : State) (codes : Vector Word 16), s.up = true → s.age.running = true → s.ageCool = false →
    ∃ t, exec (.ageMeasureDone codes) s = .next t ∧ t.age = { s.age with running := false } ∧ Frame [] [.age] s t)) ∧
  (∀ s : State, s.up = true →
    (∀ (c3 slice : Bool) (n : Nat),
      (slice = true → s.bursts.running.isSome = true ∨ (c3 = true ∧ s.c3Room < s.fab.c3Taken + n) →
        ∃ t, exec (.fabricPromotion c3 slice n) s = .next t ∧ Frame [] [] s t) ∧
      (slice = false ∨ (s.bursts.running = none ∧ (c3 = false ∨ s.fab.c3Taken + n ≤ s.c3Room)) →
        ∃ t, exec (.fabricPromotion c3 slice n) s = .next t ∧
          t.rd (if c3 then Reg.FAB_PROMO3 else Reg.FAB_PROMO2) =
            min (s.rd (if c3 then Reg.FAB_PROMO3 else Reg.FAB_PROMO2) + 1) 0x3FFFF ∧
          t.rd (Reg.FAB_MAXWC (if c3 then 3 else 2)) = max 4096 (s.rd (Reg.FAB_MAXWC (if c3 then 3 else 2))) ∧
          t.fab = { s.fab with c3Taken := if slice && c3 then s.fab.c3Taken + n else s.fab.c3Taken } ∧
          Frame [(0x9C07, 0x9C0B), (0x9C10, 0x9C12)] [.fab] s t)) ∧
    (∃ t, exec .c3ShareWindow s = .next t ∧ t.fab = { s.fab with c3Taken := 0 } ∧ Frame [] [.fab] s t) ∧
    (∀ (r b : Blk) (tag : Fin 64) (ans : List (Fin 64)) (left : List FabReq),
      left = s.fab.out.filter (fun q => !(q.requester == r && q.part == b && memNat q.tag (ans.map Fin.val))) →
      s.blk r ≠ stDown → s.blk r ≠ stLoading → (∀ q ∈ left, q.requester = r → q.part = b → q.tag ≠ tag.val) →
      (left.filter (fun q => q.requester == r && q.part == b)).length < 32 →
      (s.blk b = stDrain ∨ s.blk b = stDown ∨ s.blk b = stLoading → ∃ t, exec (.fabricRequestToDrained r b tag ans) s = .next t ∧
        t.rd Reg.FAB_DOWNREP = min (s.rd Reg.FAB_DOWNREP + 1) 0x3FFFF ∧ t.rd Reg.FAB_PART_DNPART = b.domain ∧
        t.fab = { s.fab with out := left } ∧ Frame [(0x9C0B, 0x9C0C), (0x9C14, 0x9C15)] [.fab] s t) ∧
      (s.blk b = stInService ∨ s.blk b = stService → ∃ t, exec (.fabricRequestToDrained r b tag ans) s = .next t ∧
        t.fab = { s.fab with out := left ++ [{ requester := r, part := b, tag := tag.val }] } ∧ Frame [] [.fab] s t)) ∧
    (∀ (r b r' b' : Blk) (tag : Fin 64) (ans : List (Fin 64)),
      (s.fab.out.filter (fun q => q.requester == r' && q.part == b')).length ≤ 32 →
      ∃ t, exec (.fabricRequestToDrained r b tag ans) s = .next t ∧
        (t.fab.out.filter (fun q => q.requester == r' && q.part == b')).length ≤ 32))

/-- R318, R320, R321: what an MS/TP port does with frames and silence, each with what it sends. A token for its MAC lets it send
a due I-Am; a poll for its MAC is answered; an answer to its own poll makes the new station its successor and passes it the
token; a bad header counts; a frame over 501 octets is discarded, though its header counts towards the lock of the rate; a
lost token is generated anew by a poll; a token that is not used is sent once more, then a new successor is sought; a silent
poll passes the token on. The node's states are PRESUMED from ANSI/ASHRAE 135 (notes/assumptions/70). -/
def Obligations.MstpNode : Prop :=
  (∀ (s : State) (p : Fin 2) (f : MstpFrame), s.up = true → s.mstpRun p = true → f.hdrOk = true → f.dataOk = true → f.len ≤ 501 →
    ∃ t, exec (.mstpFrameReceived p f) s = .next t ∧
      t.rd (Reg.BUS_COUNTERS p.val 0) = min (s.rd (Reg.BUS_COUNTERS p.val 0) + 1) 0x3FFFF ∧
      (f.ftype = .token → f.dst = s.rd (Reg.BUS_MSTP_MAC p.val) → (s.port p).iAmDue = true →
        (t.port p).iAmDue = false ∧ (t.port p).sent.head? = some (.msg .all (.iAm (s.devInst p)))) ∧
      (f.ftype = .pollForMaster → f.dst = s.rd (Reg.BUS_MSTP_MAC p.val) →
        (t.port p).sent = [.replyToPoll f.src] ∧ (t.port p).node = .idle) ∧
      (f.ftype = .replyToPfm → f.dst = s.rd (Reg.BUS_MSTP_MAC p.val) → (s.port p).node = .pollForMaster →
        (t.port p).sent = [.token f.src] ∧ (t.port p).next = f.src ∧ (t.port p).node = .passToken ∧
        t.rd (Reg.BUS_LSTAT_TOKEN p.val) = 0) ∧
      Frame [Blk.range (.bus p)] [.bus] s t) ∧
  (∀ (s : State) (p : Fin 2) (f : MstpFrame), s.up = true → s.busProto p 1 = true →
    (f.hdrOk = false → ∃ t, exec (.mstpFrameReceived p f) s = .next t ∧
      t.rd (Reg.BUS_COUNTERS p.val 1) = min (s.rd (Reg.BUS_COUNTERS p.val 1) + 1) 0x3FFFF ∧ (t.port p).sent = (s.port p).sent ∧
      Frame [Blk.range (.bus p)] [.bus] s t) ∧
    (f.hdrOk = true → 501 < f.len → ∃ t, exec (.mstpFrameReceived p f) s = .next t ∧ (t.port p).sent = (s.port p).sent ∧
      (s.rd (Reg.BUS_LSTAT_LSTATE p.val) ≠ lsDetect → Frame [] [] s t) ∧
      (s.rd (Reg.BUS_LSTAT_LSTATE p.val) = lsDetect →
        t.rd (Reg.BUS_LSTAT_LSTATE p.val) = (if (s.port p).goodRun = 1 then lsRun else lsDetect) ∧
        ((s.port p).goodRun ≠ 1 → (t.port p).goodRun = (s.port p).goodRun + 1) ∧
        Frame [(0x8C08 + 0x400 * p.val, 0x8C09 + 0x400 * p.val)] [.bus] s t)) ∧
    (∃ t, exec (.mstpFrameAbort p) s = .next t ∧
      t.rd (Reg.BUS_COUNTERS p.val 1) = min (s.rd (Reg.BUS_COUNTERS p.val 1) + 1) 0x3FFFF ∧ (t.port p).sent = (s.port p).sent ∧
      Frame [Blk.range (.bus p)] [.bus] s t)) ∧
  (∀ (s : State) (p : Fin 2), s.up = true → s.mstpRun p = true →
    (s.rd (Reg.BUS_LSTAT_TOKEN p.val) = 0 → ∃ t, exec (.mstpNoToken p) s = .next t ∧
      t.rd (Reg.BUS_LSTAT_TOKEN p.val) = 1 ∧ (t.port p).node = .pollForMaster ∧
      (t.port p).sent = [.poll (nextStation (s.rd (Reg.BUS_MSTP_MAXMASTER p.val)) (s.rd (Reg.BUS_MSTP_MAC p.val)))] ∧
      t.rd (Reg.BUS_COUNTERS p.val 3) = min (s.rd (Reg.BUS_COUNTERS p.val 3) + 1) 0x3FFFF ∧
      Frame [Blk.range (.bus p)] [.bus] s t) ∧
    ((s.port p).node = .passToken → ∃ t, exec (.mstpUsageTimeout p) s = .next t ∧
      ((s.port p).retries = 0 → (t.port p).sent = [.token (s.port p).next] ∧ (t.port p).retries = 1 ∧
        (t.port p).node = .passToken) ∧
      ((s.port p).retries ≠ 0 → (t.port p).node = .pollForMaster ∧
        (t.port p).sent = [.poll (nextStation (s.rd (Reg.BUS_MSTP_MAXMASTER p.val)) (s.port p).next)]) ∧
      Frame [Blk.range (.bus p)] [.bus] s t) ∧
    ((s.port p).node = .pollForMaster → (s.port p).sole = false → ∃ t, exec (.mstpSlotTimeout p) s = .next t ∧
      ((s.port p).next ≠ s.rd (Reg.BUS_MSTP_MAC p.val) → (t.port p).sent = [.token (s.port p).next] ∧
        (t.port p).node = .passToken ∧ t.rd (Reg.BUS_LSTAT_TOKEN p.val) = 0) ∧
      ((s.port p).next = s.rd (Reg.BUS_MSTP_MAC p.val) →
        nextStation (s.rd (Reg.BUS_MSTP_MAXMASTER p.val)) (s.port p).poll = s.rd (Reg.BUS_MSTP_MAC p.val) →
        (t.port p).sole = true ∧ (t.port p).node = .idle) ∧
      Frame [Blk.range (.bus p)] [.bus] s t))

/-- R321, R335, Table 15-14: rate detection. In DETECT the port moves to the next rate each second and, after LISTENMAX, takes
BAUD, is SOLE and runs; REDETECT of a running port with AUTOBAUD returns it to DETECT, RENEGOTIATE to NEGOTIATE; otherwise
the command is ILLEGAL_STATE.

R335, R338: the negotiation ends in RUN, at the first rate if every device was asked and answered there; a selector write
captures the entry of its table, one beyond the table reads VALID 0 and every other field 0.

R327, R328: subscriptions. A new one within 32 is acknowledged and due; the 33rd is refused and counted; cancelling removes
it; every 100 ms the ones whose object has moved fall due; at the end of its lifetime one is removed. -/
def Obligations.BusRatesAndTables : Prop :=
  ((∀ (s : State) (p : Fin 2), s.up = true → s.busProto p 1 = true → s.rd (Reg.BUS_LSTAT_LSTATE p.val) = lsDetect →
    (∃ t, exec (.autobaudDwell p) s = .next t ∧
      t.rd (Reg.BUS_LSTAT_BAUDIN p.val) = nextRate (s.rd (Reg.BUS_LSTAT_BAUDIN p.val)) ∧
      t.rd (Reg.BUS_LSTAT_LSTATE p.val) = lsDetect ∧ Frame [(0x8C08 + 0x400 * p.val, 0x8C09 + 0x400 * p.val)] [.bus] s t) ∧
    (∃ t, exec (.autobaudTimeout p) s = .next t ∧ t.rd (Reg.BUS_LSTAT_LSTATE p.val) = lsRun ∧
      t.rd (Reg.BUS_LSTAT_BAUDIN p.val) = s.rd (Reg.BUS_CFG_BAUD p.val) ∧ t.rd (Reg.BUS_LSTAT_SOLE p.val) = 1 ∧
      (t.port p).iAmDue = true ∧ Frame [(0x8C08 + 0x400 * p.val, 0x8C09 + 0x400 * p.val)] [.bus] s t)) ∧
  (∀ (s : State) (p : Fin 2), Accepts s (.bus p) → s.unlocked (.bus p) = true →
    (s.rd (Reg.BUS_LSTAT_LSTATE p.val) = lsRun → s.rd (Reg.BUS_CFG_AUTOBAUD p.val) = 1 →
      ∃ t, exec (.busRedetect p) s = .next t ∧ t.rd (Reg.BUS_CMD_CSTAT p.val) = Status.OK ∧
        t.rd (Reg.BUS_LSTAT_LSTATE p.val) = (if s.rd (Reg.BUS_CFG_PROTO p.val) = 1 then lsDetect else lsNegotiate) ∧
        t.rd (Blk.bus p).statusFld = Status.OK ∧ Frame [Blk.range (.bus p)] [.bus] s t) ∧
    (s.rd (Reg.BUS_LSTAT_LSTATE p.val) ≠ lsRun ∨ s.rd (Reg.BUS_CFG_AUTOBAUD p.val) = 0 →
      ∃ t, exec (.busRedetect p) s = .next t ∧ t.rd (Reg.BUS_CMD_CSTAT p.val) = Status.ILLEGAL_STATE ∧
        t.rd (Blk.bus p).statusFld = Status.ILLEGAL_STATE ∧
        Frame [((Reg.BUS_CMD_CSTAT p.val).key, (Reg.BUS_CMD_CSTAT p.val).key + 1),
          ((Blk.bus p).statusFld.key, (Blk.bus p).statusFld.key + 1)] [] s t))) ∧
  ((∀ (s : State) (p : Fin 2) (replies : List (List Nat)), s.up = true → s.busProto p 2 = true →
    s.rd (Reg.BUS_LSTAT_LSTATE p.val) = lsNegotiate →
    ∃ t, exec (.modbusNegotiation p replies) s = .next t ∧ t.rd (Reg.BUS_LSTAT_LSTATE p.val) = lsRun ∧
      (∀ r rs u us, (s.port p).bauds = r :: rs → replies = u :: us → r < 8 →
        (∀ d ∈ (s.port p).devs, d.unit ∈ u ∧ (s.negRequest p d.unit).isSome = true) →
        t.rd (Reg.BUS_LSTAT_BAUDIN p.val) = r ∧ t.rd (Reg.BUS_LSTAT_NEGFAIL p.val) = 0 ∧
        t.rd (Reg.BUS_LSTAT_NOFF p.val) = 0 ∧ ∀ d ∈ (t.port p).devs, d.online = true) ∧
      Frame [Blk.range (.bus p)] [.bus] s t) ∧
  (∀ (s : State) (p : Fin 2) (v : Word), Accepts s (.bus p) →
    (v.toNat % 512 ≠ 511 → ∃ t, exec (.busSelWrite p 0 v) s = .next t ∧ t.rd (Reg.BUS_OSEL p.val) = v.toNat % 512 ∧
      t.rd (Blk.bus p).statusFld = Status.OK ∧
      ((s.port p).objs[v.toNat % 512]? = none → t.rdKey (0x8C21 + 0x400 * p.val) = 0 ∧ t.rd (Reg.BUS_OBJ1 p.val) = 0 ∧
        t.rd (Reg.BUS_OBJ2 p.val) = 0) ∧
      (∀ o, (s.port p).objs[v.toNat % 512]? = some o → o.point < 4096 → t.rd (Reg.BUS_OBJ0_VALID p.val) = 1 ∧
        t.rd (Reg.BUS_OBJ0_POINT p.val) = o.point ∧ t.rd (Reg.BUS_OBJ0_OTYPE p.val) = o.otype.code ∧
        t.rd (Reg.BUS_OBJ1 p.val) = o.inst % 2 ^ 18) ∧ Frame [Blk.range (.bus p)] [] s t) ∧
    (v.toNat % 512 = 511 → ∃ t, exec (.busSelWrite p 0 v) s = .next t ∧ t.rd (Blk.bus p).statusFld = Status.BAD_ARG ∧
      Frame [((Blk.bus p).statusFld.key, (Blk.bus p).statusFld.key + 1)] [] s t) ∧
    (∃ t, exec (.busSelWrite p 1 v) s = .next t ∧ t.rd (Reg.BUS_TSEL p.val) = v.toNat % 256 ∧
      ((s.port p).trans[v.toNat % 256]? = none → t.rd (Reg.BUS_TENT2_VALID p.val) = 0) ∧
      (∀ u, (s.port p).trans[v.toNat % 256]? = some u → u.point < 4096 → t.rd (Reg.BUS_TENT2_VALID p.val) = 1 ∧
        t.rd (Reg.BUS_TENT2_POINT p.val) = u.point) ∧ Frame [Blk.range (.bus p)] [] s t) ∧
    (∃ t, exec (.busSelWrite p 2 v) s = .next t ∧ t.rd (Reg.BUS_DSEL p.val) = v.toNat % 64 ∧
      ((s.port p).devs[v.toNat % 64]? = none → t.rdKey (0x8C41 + 0x400 * p.val) = 0) ∧
      (∀ d, (s.port p).devs[v.toNat % 64]? = some d → d.unit < 256 → d.fails < 256 →
        t.rd (Reg.BUS_DSTAT_VALID p.val) = 1 ∧ t.rdB (Reg.BUS_DSTAT_ONLINE p.val) = d.online ∧
        t.rd (Reg.BUS_DSTAT_UNIT p.val) = d.unit ∧ t.rd (Reg.BUS_DSTAT_FAILS p.val) = d.fails) ∧
      Frame [Blk.range (.bus p)] [] s t))) ∧
  (∀ (s : State) (p : Fin 2), s.up = true → s.mstpRun p = true →
    (∀ (src : BAddr) (proc n i life : Nat) (ty : OType) (o : BObj), s.service = false →
      findObj ty n 0 (s.port p).objs = some (i, o) →
      (life ≤ 28800 → ((s.port p).subs.any fun c => c.same src proc i) = false → (s.port p).subs.length < 32 →
        ∃ t, exec (.subscribeCov p src proc (.obj ty n) false false life) s = .next t ∧
          (t.port p).subs = (s.port p).subs ++ [{ addr := src, proc := proc, obj := i, life := life, last := none, due := true }] ∧
          (t.port p).sent = [.msg src .simpleAck] ∧ t.points = s.points) ∧
      (life ≤ 28800 → ((s.port p).subs.any fun c => c.same src proc i) = false → 32 ≤ (s.port p).subs.length →
        ∃ t, exec (.subscribeCov p src proc (.obj ty n) false false life) s = .next t ∧ (t.port p).subs = (s.port p).subs ∧
          (t.port p).sent = [.msg src (.error .noSpaceToAddListElement)] ∧
          t.rd (Reg.BUS_COUNTERS p.val 7) = min (s.rd (Reg.BUS_COUNTERS p.val 7) + 1) 0x3FFFF) ∧
      (∃ t, exec (.subscribeCov p src proc (.obj ty n) true false life) s = .next t ∧
        (t.port p).subs = (s.port p).subs.filter (fun c => !c.same src proc i) ∧ (t.port p).sent = [.msg src .simpleAck])) ∧
    (s.rd (Reg.BUS_LSTAT_TOKEN p.val) = 0 → ∃ t, exec (.covScan p) s = .next t ∧
      (t.port p).subs = (s.port p).subs.map (fun c => match c.last, (s.port p).objs[c.obj]? with
        | some l, some o => if covDue o l (s.objNow o) then { c with due := true } else c
        | _, _ => c) ∧ Frame [] [.bus] s t) ∧
    (∀ (k : Nat) (c : CovSub), (s.port p).subs[k]? = some c →
      (c.life ≠ 0 → ∃ t, exec (.covExpiry p k) s = .next t ∧ (t.port p).subs = (s.port p).subs.eraseIdx k ∧
        Frame [] [.bus] s t) ∧
      (c.life = 0 → ∃ t, exec (.covExpiry p k) s = .next t ∧ Frame [] [] s t)))

/-- R322 to R325, Table 15-3: what a BACnet port answers to reads, with no point changed.

R326, R327: a write of Present_Value of a writable object enters its priority array and is acknowledged; where no entry of a
higher priority holds a value and the value differs from the one last written, it goes to the point, FRESH. In SERVICE
writes are refused and no point changes. -/
def Obligations.BacnetServices : Prop :=
  (∀ (s : State) (p : Fin 2), s.up = true → s.mstpRun p = true →
    (∀ (src : BAddr) (o : BObjId) (q : BProp) (i : Option Nat), ∃ t, exec (.readProperty p src o q i) s = .next t ∧
      (t.port p).sent = [.msg src (match (s.readProp p o q i).err with
        | some e => .error e | none => .readAck (s.readProp p o q i))] ∧
      t.rd (Reg.BUS_COUNTERS p.val 4) = min (s.rd (Reg.BUS_COUNTERS p.val 4) + 1) 0x3FFFF ∧
      Frame [Blk.range (.bus p)] [.bus] s t) ∧
    (∀ (src : BAddr) (l : List (BObjId × List PropRef)), ∃ t, exec (.readPropertyMultiple p src l) s = .next t ∧
      (t.port p).sent = [.msg src (if 480 < multiOctets (s.readMultiple p l) then .abort
        else .multiAck ((s.readMultiple p l).foldr (· ++ ·) []))] ∧ Frame [Blk.range (.bus p)] [.bus] s t) ∧
    (∀ r : Option (Nat × Nat), (∀ lo hi, r = some (lo, hi) → lo ≤ s.devInst p ∧ s.devInst p ≤ hi) →
      s.rd (Reg.BUS_LSTAT_TOKEN p.val) = 0 → ∃ t, exec (.whoIs p r) s = .next t ∧ (t.port p).iAmDue = true ∧
      Frame [Blk.range (.bus p)] [.bus] s t) ∧
    (∀ lo hi : Nat, s.devInst p < lo ∨ hi < s.devInst p → ∃ t, exec (.whoIs p (some (lo, hi))) s = .next t ∧
      Frame [] [] s t) ∧
    (∀ src : BAddr, ∃ t, exec (.unrecognizedService p src true) s = .next t ∧ (t.port p).sent = [.msg src .reject] ∧
      Frame [Blk.range (.bus p)] [.bus] s t) ∧
    (∀ src : BAddr, ∃ t, exec (.unrecognizedService p src false) s = .next t ∧ Frame [] [] s t)) ∧
  ((∀ (s : State) (p : Fin 2) (src : BAddr) (n i x : Nat) (ty : OType) (o : BObj) (v : BVal) (k : Fin 16) (z : Int) (q : Point),
    s.up = true → s.mstpRun p = true → s.service = false → findObj ty n 0 (s.port p).objs = some (i, o) → s.objWritable p i o = true →
    i < (s.port p).objs.length → v ≠ .null → writeValue o v = some (some z) → formatLo (s.objPoint o).1 ≤ z →
    z ≤ formatHi (s.objPoint o).1 → s.point o.point = some q → o.prio.length = 16 → x = k.val →
    ∃ t, exec (.writeProperty p src (.obj ty n) .presentValue v (some k)) s = .next t ∧
      (t.port p).sent = [.msg src .simpleAck] ∧
      (∃ o', (t.port p).objs[i]? = some o' ∧ o'.prio = o.prio.set x v) ∧
      ((∀ j, j < x → o.prio[j]? = some .null) → o.lastWritten ≠ some (BitVec.ofNat 18 (ofSigned 18 z)) →
        t.point o.point = some (q.trig (.write (BitVec.ofNat 18 (ofSigned 18 z))))) ∧
      Frame [Blk.range (.bus p)] [.bus, .points] s t) ∧
  (∀ (s : State) (p : Fin 2) (src : BAddr) (o : BObjId) (q : BProp) (v : BVal) (k : Option (Fin 16)), s.up = true →
    s.mstpRun p = true →
    s.service = true → ∃ t, exec (.writeProperty p src o q v k) s = .next t ∧
      (t.port p).sent = [.msg src (.error .operationalProblem)] ∧ (t.port p).objs = (s.port p).objs ∧ t.points = s.points))

/-- R329, R330, R332, R333: a Modbus cycle. It starts, or is overrun and counted; the next transaction's request goes on the
line, a failed attempt's again; a silent device is asked again up to RETRY times, then the transaction reads TIMEOUT; a
device with DOWNCNT failures in a row goes OFFLINE, and its transactions but the first then read DOWN.

R331 to R333: a valid response to a read goes to the transaction's points in their formats, an exception response makes them
FAULT; either way the transaction is over and its status tells. A response that fails its checks is a failed attempt. -/
def Obligations.ModbusTransactions : Prop :=
  (∀ (s : State) (p : Fin 2), s.up = true → s.modbusRun p = true →
    ((s.port p).cycling = false → ∃ t, exec (.modbusCycleStart p) s = .next t ∧
      t.port p = { s.port p with cycling := true, overrun := false, nextTrans := 0, revived := [] } ∧ Frame [] [.bus] s t) ∧
    ((s.port p).cycling = true → ∃ t, exec (.modbusCycleStart p) s = .next t ∧
      t.port p = { s.port p with overrun := true } ∧
      t.rd (Reg.BUS_COUNTERS p.val 7) = min (s.rd (Reg.BUS_COUNTERS p.val 7) + 1) 0x3FFFF ∧
      Frame [(0x8C17 + 0x400 * p.val, 0x8C18 + 0x400 * p.val)] [.bus] s t) ∧
    (∀ (u : MbTrans) (d : MbDev), (s.port p).cycling = true → (s.port p).attempt = none →
      (s.port p).trans[(s.port p).nextTrans]? = some u → u.reads = true → u.unit ∉ (s.port p).revived →
      (s.port p).devOf u.unit = some d → d.online = true →
      ∃ t, exec (.modbusRequest p) s = .next t ∧ (t.port p).sent = [.modbus (mbRequest u [])] ∧
        (t.port p).attempt = some { trans := (s.port p).nextTrans, attempt := 1, wait := true, probe := false, vals := []
                                    clipw := false } ∧
        t.rd (Reg.BUS_COUNTERS p.val 4) = min (s.rd (Reg.BUS_COUNTERS p.val 4) + 1) 0x3FFFF ∧
        Frame [Blk.range (.bus p)] [.bus] s t) ∧
    (∀ (a : MbAttempt) (u : MbTrans), (s.port p).attempt = some a → (s.port p).trans[a.trans]? = some u →
      (a.wait = false → (s.port p).cycling = true → ∃ t, exec (.modbusRequest p) s = .next t ∧
        (t.port p).sent = [.modbus (mbRequest u ((s.mbRawsOut u a.vals).map (·.1)))] ∧
        (∃ a', (t.port p).attempt = some a' ∧ a'.trans = a.trans ∧ a'.attempt = a.attempt ∧ a'.wait = true) ∧
        Frame [Blk.range (.bus p)] [.bus] s t) ∧
      (a.wait = true → a.probe = false → a.attempt ≤ s.rd (Reg.BUS_MBTIME_RETRY p.val) →
        ∃ t, exec (.modbusResponseTimeout p) s = .next t ∧
          (t.port p).attempt = some { a with attempt := a.attempt + 1, wait := false } ∧ t.points = s.points) ∧
      (∀ (d : MbDev) (n : Nat), a.wait = true → s.rd (Reg.BUS_MBTIME_RETRY p.val) < a.attempt → (s.port p).devOf u.unit = some d →
        n = (if d.fails < 255 then d.fails + 1 else 255) →
        ∃ t, exec (.modbusResponseTimeout p) s = .next t ∧ (t.port p).attempt = none ∧
          (∃ d', (t.port p).devOf u.unit = some d' ∧ d'.fails = n ∧
            d'.online = (d.online && decide (n < s.rd (Reg.BUS_MBTIME_DOWNCNT p.val)))) ∧
          (∃ u', (t.port p).trans[a.trans]? = some u' ∧
            u'.status = (if d.online = true ∧ s.rd (Reg.BUS_MBTIME_DOWNCNT p.val) ≤ n ∧
              firstOf u.unit 0 (s.port p).trans ≠ some a.trans then Status.DOWN else Status.TIMEOUT))))) ∧
  (∀ (s : State) (p : Fin 2) (a : MbAttempt) (u : MbTrans) (bytes : List Byte) (ck : Bool), s.up = true → s.modbusRun p = true →
    (s.port p).attempt = some a → a.wait = true → (s.port p).trans[a.trans]? = some u → u.reads = true →
    (∀ data, mbJudge u bytes ck = .valid data → ∃ t, exec (.modbusResponse p bytes ck) s = .next t ∧
      (t.port p).attempt = none ∧ (∃ u', (t.port p).trans[a.trans]? = some u' ∧ u'.status = Status.OK ∧ u'.exc = 0) ∧
      (∀ k q, k < u.values → s.point (u.point + k) = some q → q.source = .modbus p.val a.trans k →
        t.point (u.point + k) = some (q.trig (mbReadTrig u q.format ((mbRaws u data).getD k 0))))) ∧
    (∀ c, mbJudge u bytes ck = .exception c → ∃ t, exec (.modbusResponse p bytes ck) s = .next t ∧
      (t.port p).attempt = none ∧ (∃ u', (t.port p).trans[a.trans]? = some u' ∧ u'.status = Status.FAULT ∧ u'.exc = c) ∧
      (∀ k q, k < u.values → s.point (u.point + k) = some q → q.source = .modbus p.val a.trans k →
        t.point (u.point + k) = some (q.trig (.fail none)))) ∧
    (mbJudge u bytes ck = .bad → a.probe = false → a.attempt ≤ s.rd (Reg.BUS_MBTIME_RETRY p.val) →
      ∃ t, exec (.modbusResponse p bytes ck) s = .next t ∧ t.points = s.points ∧
        (t.port p).attempt = some { a with attempt := a.attempt + 1, wait := false }))

/-- R359, R361, R372, Table 17-1: the outcomes of a submission. A job that fits and finds room joins the queue with the next ID;
one that fits no combination or memory is BAD_ARG, one that the privacy lock stops is LOCKED and counted with path 3, one
that finds sixteen jobs is REFUSED and counted.

R367, R368, Table 17-11: FLUSH of the running encode job is taken and marks it; for any other job it is ILLEGAL_STATE.

R360, R364, R366, R371, Table 17-2: the head of the queue runs when nothing does, the loader decodes no plane and the level
is none; a resident run opens at the start of a gap of its head; a DEFLATE decode into landing stores its output where it
fits and ends OK, a stream that is not DEFLATE ends CHECK_FAIL; every job that has had its run ends.

R360, R363: RSEL copies the result of a job whose entry is kept, and reads HOLE for another; an output pointer is written
unless a job that appends to its memory is queued or runs. -/
def Obligations.CompressionJobs : Prop :=
  (∀ (s : State) (j : Job), Accepts s .cmp → s.unlocked .cmp = true → j = s.residentFormat s.stagedJob →
    s.cmp.nextId < 256 →
    (s.jobFits j = true → s.jobLocked j = false → s.cmpDepth < 16 →
      ∃ t, exec .cmpSubmit s = .next t ∧ t.cmp.queue = s.cmp.queue ++ [{ j with id := s.cmp.nextId }] ∧
        t.cmp.running = s.cmp.running ∧ t.cmp.nextId = (s.cmp.nextId + 1) % 256 ∧
        t.rd Reg.CMP_JRES_CSTAT = Status.OK ∧ t.rd Reg.CMP_JRES_LASTID = s.cmp.nextId ∧
        t.rd Blk.cmp.statusFld = Status.OK ∧ t.rd Reg.CMP_QSTAT_QLEN = s.cmpDepth + 1 ∧
        Frame [Blk.range .cmp] [.cmp] s t) ∧
    (s.jobFits j = false → ∃ t, exec .cmpSubmit s = .next t ∧ t.cmp = s.cmp ∧ t.rd Reg.CMP_JRES_CSTAT = Status.BAD_ARG ∧
        t.rd Blk.cmp.statusFld = Status.BAD_ARG ∧ Frame [Blk.range .cmp] [] s t) ∧
    (s.jobFits j = true → s.jobLocked j = true → ∃ t, exec .cmpSubmit s = .next t ∧ t.cmp.queue = s.cmp.queue ∧
        t.rd Reg.CMP_JRES_CSTAT = Status.LOCKED ∧ t.rd Reg.CTX_PRIV_LASTPATH = 3 ∧
        t.rd Reg.CTX_LOCKCNT = min (s.rd Reg.CTX_LOCKCNT + 1) 0x3FFFF) ∧
    (s.jobFits j = true → s.jobLocked j = false → 16 ≤ s.cmpDepth → ∃ t, exec .cmpSubmit s = .next t ∧
        t.cmp.queue = s.cmp.queue ∧ t.rd Reg.CMP_JRES_CSTAT = Status.REFUSED ∧
        t.rd Reg.CMP_REFCNT = min (s.rd Reg.CMP_REFCNT + 1) 0x3FFFF)) ∧
  (∀ (s : State) (v : Word) (pos : Nat), Accepts s .cmp → s.unlocked .cmp = true →
    (∀ j, s.cmp.running = some j → j.id = v.toNat % 256 → j.op % 2 = 0 →
      ∃ t, exec (.cmpFlush v pos) s = .next t ∧
        t.cmp = { s.cmp with running := some { j with bucked := true, flushes := j.flushes ++ [pos] } } ∧
        t.rd Reg.CMP_JRES_CSTAT = Status.OK ∧ t.rd Reg.CMP_JCMD_TID = v.toNat % 256 ∧ Frame [Blk.range .cmp] [.cmp] s t) ∧
    ((∀ j, s.cmp.running = some j → j.id ≠ v.toNat % 256 ∨ j.op % 2 = 1) →
      ∃ t, exec (.cmpFlush v pos) s = .next t ∧ t.cmp = s.cmp ∧ t.rd Reg.CMP_JRES_CSTAT = Status.ILLEGAL_STATE ∧
        t.rd Reg.CMP_JCMD_TID = s.rd Reg.CMP_JCMD_TID ∧ t.rd Blk.cmp.statusFld = Status.ILLEGAL_STATE ∧
        Frame [(0x600D, 0x600E), (0x63FE, 0x63FF)] [] s t)) ∧
  ((∀ (s : State) (j : Job) (js : List Job), s.cmp.queue = j :: js → s.cmp.running = none → s.works .cmp = true →
    s.up = true → s.rd Reg.THM_STAT_LEVEL = 0 → s.loaderDecodes = false →
    ∃ t, exec .cmpJobStart s = .next t ∧ t.cmp.queue = js ∧
      (∃ g, t.cmp.running = some { j with lgen := g } ∧
        (j.dst = 1 ∨ j.archive.isSome → g = (s.rd Reg.CMP_LGEN + 1) % 2 ^ 18 ∧ t.rd Reg.CMP_LGEN = g) ∧
        (j.dst ≠ 1 → j.archive = none → g = j.lgen ∧ t.rd Reg.CMP_LGEN = s.rd Reg.CMP_LGEN)) ∧
      t.rd Reg.CMP_QSTAT_RUN = 1 ∧ t.rd Reg.CMP_PROG0 = 0 ∧ Frame [Blk.range .cmp] [.cmp] s t) ∧
  (∀ (s : State) (j : Job) (h : Fin 4) (f : FrameRes), s.cmp.running = some j → s.runsResident h.val = true →
    s.up = true → j.run = none → j.gap = true → s.gapOpen h.val = true → j.kind ≠ 6 → (s.head h.val).lastPass = some f →
    ∃ t, exec (.residentRunStart h) s = .next t ∧
      t.cmp = { s.cmp with running := some { j with
        gap := false
        run := some { frame := f.frame, set := f.set, samples := s.residentSamples h.val j.kind } } } ∧
      Frame [] [.cmp] s t) ∧
  (∀ (s : State) (j : Job) (k : Fin 3), s.up = true → s.cmp.running = some j → j.archive = none → (j.op = 2 → j.src = 3 → j.run ≠ none) →
    ∃ t, exec (.cmpJobDone k) s = .next t ∧ t.cmp.running = none ∧ t.cmp.queue = s.cmp.queue ∧
      t.rd Reg.CMP_QSTAT_RUN = 0 ∧
      (j.op = 1 → j.dst = 1 → j.append = false →
        (∀ out used st, inflate (s.jobBytes j) j.jdcap = .ok out used st → out.length ≤ j.jdcap →
          j.jdst + memUnits 1 true out.length ≤ landingWords →
          t.landing = s.landing.putAll j.jdst (wordsOfBytes out) ∧
          (∀ r ∈ t.cmp.results, r.id = j.id → r.status = Status.OK ∧ r.rout = out.length ∧ r.rin = used)) ∧
        (∀ off, inflate (s.jobBytes j) j.jdcap = .bad off →
          ∀ r ∈ t.cmp.results, r.id = j.id → r.status = Status.CHECK_FAIL ∧ r.rin = off)))) ∧
  ((∀ (s : State) (v : Word), Accepts s .cmp → ∃ t, exec (.cmpRselWrite v) s = .next t ∧ t.rd Reg.CMP_RSEL = v.toNat % 256 ∧
      (∀ r, s.cmp.results.find? (fun r => r.id == v.toNat % 256) = some r → r.status < 32 → r.rout < 2 ^ 28 → r.rin < 2 ^ 28 →
        t.rd Reg.CMP_RSTAT_STATUS = r.status ∧ t.rdB Reg.CMP_RSTAT_STORED = r.stored ∧
        t.rdPair Reg.CMP_ROUT0 Reg.CMP_ROUT1 = r.rout ∧ t.rdPair Reg.CMP_RIN0 Reg.CMP_RIN1 = r.rin) ∧
      (s.cmp.results.find? (fun r => r.id == v.toNat % 256) = none → t.rd Reg.CMP_RSTAT_STATUS = Status.HOLE) ∧
      t.cmp = s.cmp ∧ Frame [Blk.range .cmp] [.freeCtr] s t) ∧
  (∀ (s : State) (o : Fin 6) (v : Word), Accepts s .cmp →
    ((∀ j, j ∈ s.cmp.queue ∨ s.cmp.running = some j → j.append = false ∨ j.dst ≠ o.val / 2) →
      ∃ t, exec (.cmpOptrWrite o v) s = .next t ∧ t.rdKey (0x6018 + o.val) = (if o.val % 2 = 1 then v.toNat % 1024 else v.toNat) ∧ t.rd Blk.cmp.statusFld = Status.OK ∧
        Frame [(0x6018 + o.val, 0x6019 + o.val), (0x63FE, 0x63FF)] [] s t) ∧
    ((∃ j, (j ∈ s.cmp.queue ∨ s.cmp.running = some j) ∧ j.append = true ∧ j.dst = o.val / 2) →
      ∃ t, exec (.cmpOptrWrite o v) s = .next t ∧ t.rd Blk.cmp.statusFld = Status.ILLEGAL_STATE ∧
        Frame [(0x63FE, 0x63FF)] [] s t)))

/-- R387: a line is echoed with its CR and counts, and is the command it spells; a line that is not recognised is BAD_ARG; one
too long counts in LONG and does nothing else, a blank one does nothing else.

R387, R388, Table 18-6: the console's inquiries, each with the lines it answers and its final status in LAST. -/
def Obligations.ConsoleLinesAndInquiries : Prop :=
  (∀ (s : State) (chars : List Byte) (cs : List Nat), s.conAlive = true →
    (lineChars chars [] false = (cs, true) → ∃ t, exec (.consoleLine chars) s = .next t ∧
      t.rd Reg.SVC_LINES = min (s.rd Reg.SVC_LINES + 1) 0x3FFFF ∧ t.rd Reg.SVC_LONG = min (s.rd Reg.SVC_LONG + 1) 0x3FFFF ∧
      t.svc = { s.svc with echo := chars ++ [0x0D#8] } ∧ Frame [Blk.range .svc] [.svc] s t) ∧
    (lineChars chars [] false = (cs, false) → tokens cs [] = [] → ∃ t, exec (.consoleLine chars) s = .next t ∧
      t.rd Reg.SVC_LINES = min (s.rd Reg.SVC_LINES + 1) 0x3FFFF ∧ t.svc = { s.svc with echo := chars ++ [0x0D#8] } ∧
      Frame [(Reg.SVC_LINES.key, Reg.SVC_LINES.key + 1)] [.svc] s t) ∧
    (lineChars chars [] false = (cs, false) → tokens cs [] ≠ [] →
      (parseLine (tokens cs []) = none → ∃ t, exec (.consoleLine chars) s = .next t ∧
        t.rd Reg.SVC_LINES = min (s.rd Reg.SVC_LINES + 1) 0x3FFFF ∧ t.svc = { s.svc with echo := chars ++ [0x0D#8], lines := [] } ∧
        t.rd Reg.SVC_STAT_LAST = Status.BAD_ARG ∧ Frame [Blk.range .svc] [.svc] s t) ∧
      (∀ c, parseLine (tokens cs []) = some (.cmd c) → ∃ t, exec (.consoleLine chars) s = .next t ∧
        t.svc.lines = ((s.lineCounted chars false).conRun c).svc.lines ∧
        t.rd Reg.SVC_STAT_LAST = ((s.lineCounted chars false).conRun c).rd Reg.SVC_STAT_LAST ∧
        (c = .stat → t.svc.lines = [.stat s.service (s.rd Reg.BOOT_STAT_STAGE) s.alertCauses] ∧
          t.rd Reg.SVC_STAT_LAST = Status.OK ∧ t.rd Reg.SVC_LINES = min (s.rd Reg.SVC_LINES + 1) 0x3FFFF ∧
          Frame [Blk.range .svc] [.svc] s t)))) ∧
  (∀ s : State, s.conAlive = true →
    (∃ t, exec .consoleId s = .next t ∧ t.svc.lines = [.ident s.variant.part Config.dieId.toNat (s.fuseField 288 64) s.dbgLock
        (s.fuseField 12 4 != 0) (s.fuseBit 16)] ∧ t.rd Reg.SVC_STAT_LAST = Status.OK ∧ Frame [(0x2401, 0x2402)] [.svc] s t) ∧
    (∃ t, exec .consoleStat s = .next t ∧ t.svc.lines = [.stat s.service (s.rd Reg.BOOT_STAT_STAGE) s.alertCauses] ∧
      t.rd Reg.SVC_STAT_LAST = Status.OK ∧ Frame [(0x2401, 0x2402)] [.svc] s t) ∧
    (∀ n : Nat, (0 < n → n ≤ 64 → ∃ t, exec (.consoleLog n) s = .next t ∧ t.svc.lines = s.newestEvents n ∧
        t.rd Reg.SVC_STAT_LAST = Status.OK ∧ Frame [(0x2401, 0x2402)] [.svc] s t) ∧
      (n = 0 ∨ 64 < n → ∃ t, exec (.consoleLog n) s = .next t ∧ t.svc.lines = [] ∧
        t.rd Reg.SVC_STAT_LAST = Status.BAD_ARG ∧ Frame [(0x2401, 0x2402)] [.svc] s t)) ∧
    (∀ c : Fin 64, ∃ t, exec (.consoleCnt c.val) s = .next t ∧
      (s.tally.scanned = true → t.svc.lines = [.count s.tally.counters[c]] ∧ t.rd Reg.SVC_STAT_LAST = Status.OK) ∧
      (s.tally.scanned = false → t.svc.lines = [] ∧ t.rd Reg.SVC_STAT_LAST = Status.NOT_YET) ∧
      Frame [(0x2401, 0x2402)] [.svc] s t) ∧
    (∀ (a : BitVec 16) (n : Nat), (0 < n → n ≤ 64 → ∃ t, exec (.consoleRd a n) s = .next t ∧
        t.svc.lines = (s.conReads false a.toNat n).1 ∧ t.rd Reg.SVC_STAT_LAST = Status.OK) ∧
      (n = 0 ∨ 64 < n → ∃ t, exec (.consoleRd a n) s = .next t ∧ t.svc.lines = [] ∧
        t.rd Reg.SVC_STAT_LAST = Status.BAD_ARG ∧ Frame [(0x2401, 0x2402)] [.svc] s t)) ∧
    (∀ h line first n : Nat, s.headPresent h = true → line < s.rd (Reg.HEAD_HEIGHT h) → 0 < n → n ≤ 64 →
      first + n ≤ s.rd (Reg.HEAD_WIDTH h) →
      (s.privLock = false → line * s.rd (Reg.HEAD_WIDTH h) + first + n ≤ (s.head h).px.length →
        ∃ t, exec (.consoleDump h line first n) s = .next t ∧
        t.svc.lines = (((s.head h).px.drop (line * s.rd (Reg.HEAD_WIDTH h) + first)).take n).map (fun p => .pixel p.tmp.toNat) ∧
        t.rd Reg.SVC_STAT_LAST = Status.OK ∧ Frame [(0x2401, 0x2402)] [.svc] s t) ∧
      (s.privLock = true → ∃ t, exec (.consoleDump h line first n) s = .next t ∧ t.svc.lines = [] ∧
        t.rd Reg.SVC_STAT_LAST = Status.LOCKED ∧ t.rd Reg.CTX_PRIV_LASTPATH = 4 ∧
        t.rd Reg.CTX_LOCKCNT = min (s.rd Reg.CTX_LOCKCNT + 1) 0x3FFFF)))

/-- R49, R54, R388: the console's writes. WR does what a write at that address does and answers with its status; UL and LK open
and close a present block, and find a HOLE where the variant has none; SVC ENTER and LEAVE take the device into SERVICE and
out of it.

R64, R65, R76, R389: in SERVICE a forceable ball takes a forced level until it is released, alone or with all others; the
monitor takes a source; outside SERVICE each is ILLEGAL_STATE and nothing changes. -/
def Obligations.ConsoleWritesAndBalls : Prop :=
  (∀ s : State, s.conAlive = true → s.therm.tripped = false →
    (∀ (a : BitVec 16) (v : Nat), v < 2 ^ 18 → ∃ t, exec (.consoleWr a v) s = .next t ∧ t.svc.lines = [] ∧
      t.rd Reg.SVC_STAT_LAST = (s.hostWrite a.toNat (BitVec.ofNat 18 v)).writeStatus a.toNat ∧
      (∀ f : Fld, f.key < 0x60000 → f.key ≠ 0x2401 → f.key ≠ 0x2006 →
        t.rd f = (s.hostWrite a.toNat (BitVec.ofNat 18 v)).rd f)) ∧
    (∀ b : Blk, s.blkPresent b = true → s.blk b ≠ stDrain → s.blk b ≠ stLoading →
      (∃ t, exec (.consoleUl b) s = .next t ∧ t.unlocked b = true ∧ t.rd Reg.SVC_STAT_LAST = Status.OK) ∧
      (∃ t, exec (.consoleLk b) s = .next t ∧ t.unlocked b = false ∧ t.rd Reg.SVC_STAT_LAST = Status.OK)) ∧
    (∀ (b : Blk) (c : Instr), s.blkPresent b = false → c = .consoleUl b ∨ c = .consoleLk b →
      ∃ t, exec c s = .next t ∧ t.rd Reg.SVC_STAT_LAST = Status.HOLE ∧ Frame [(0x2401, 0x2402)] [.svc] s t) ∧
    (s.enterJudge = Status.OK → ∃ t, exec .consoleSvcEnter s = .next t ∧ t.service = true ∧
      t.rd Reg.SVC_STAT_LAST = Status.OK ∧ (∀ e, s.eng e = stInService → t.eng e = stService)) ∧
    (s.leaveJudge = Status.OK → ∃ t, exec .consoleSvcLeave s = .next t ∧ t.service = false ∧ t.balls.forced = [] ∧ t.balls.resets = [] ∧
      t.rd Reg.SVC_STAT_LAST = Status.OK)) ∧
  (∀ s : State, s.conAlive = true → s.therm.tripped = false →
    (∀ (b : Nat) (l : BallForce), b < 256 → s.ballFused b = false → ballForceable b = true →
      (s.service = true →
        (∃ t, exec (.consoleBallForce b l) s = .next t ∧ t.balls = { s.balls with
            forced := insertForce (b, l) s.balls.forced
            resets := s.balls.resets.filter (· != b) } ∧
          (b, l) ∈ t.balls.forced ∧ t.rd Reg.SVC_STAT_LAST = Status.OK ∧ Frame [(0x2401, 0x2402)] [.balls, .svc] s t) ∧
        (∃ t, exec (.consoleBallRelease b) s = .next t ∧ (∀ x ∈ t.balls.forced, x.1 ≠ b ∧ x ∈ s.balls.forced) ∧
          b ∉ t.balls.resets ∧
          t.rd Reg.SVC_STAT_LAST = Status.OK ∧ Frame [(0x2401, 0x2402)] [.balls, .svc] s t)) ∧
      (s.service = false → ∃ t, exec (.consoleBallForce b l) s = .next t ∧
        t.rd Reg.SVC_STAT_LAST = Status.ILLEGAL_STATE ∧ Frame [(0x2401, 0x2402)] [.svc] s t)) ∧
    (s.service = true → ∃ t, exec .consoleBallReleaseAll s = .next t ∧ t.balls = { s.balls with forced := [], resets := [] } ∧
      t.rd Reg.SVC_STAT_LAST = Status.OK ∧ Frame [(0x2401, 0x2402)] [.balls, .svc] s t) ∧
    (∀ k : Nat,
      (k < 10 → s.service = true → ∃ t, exec (.consoleMon k) s = .next t ∧ t.rd Reg.SVC_MON = k ∧
        t.rd Reg.SVC_STAT_LAST = Status.OK ∧ Frame [(0x2401, 0x2403)] [.svc] s t) ∧
      (k < 10 → s.service = false → ∃ t, exec (.consoleMon k) s = .next t ∧
        t.rd Reg.SVC_STAT_LAST = Status.ILLEGAL_STATE ∧ Frame [(0x2401, 0x2402)] [.svc] s t) ∧
      (10 ≤ k → ∃ t, exec (.consoleMon k) s = .next t ∧ t.rd Reg.SVC_STAT_LAST = Status.BAD_ARG ∧
        Frame [(0x2401, 0x2402)] [.svc] s t)))

/-- R64, R290, R388: the tests of channels. In SERVICE, on a configured channel of a working engine, each test holds until it is
ended; a DAC shows its code at once, but for its safe value while the actuators are held safe or D27 is not ON, a valve's
request has its own outcome, one sequencer at a time is under test.

R64, R388: outside SERVICE every test command is ILLEGAL_STATE, and nothing but the console's answer changes. -/
def Obligations.ConsoleTestCommands : Prop :=
  (∀ s : State, s.conAlive = true → s.therm.tripped = false → s.service = true →
    (∀ (c : Fin 6) (v : Nat), v < 16384 → s.works .act = true → s.rd (Reg.DAC_CFG_EN c.val) = 1 →
      (∃ t, exec (.consoleDacHold c.val v) s = .next t ∧ (t.dac c.val).test = some v ∧
        t.rd Reg.SVC_STAT_LAST = Status.OK ∧
        t.rd (Reg.DAC_VAL c.val) = (if s.actSafe = false ∧ s.domOn 27 = true then v else s.rd (Reg.DAC_SAFE c.val))) ∧
      (∃ t, exec (.consoleDacRelease c.val) s = .next t ∧ (t.dac c.val).test = none ∧ t.rd Reg.SVC_STAT_LAST = Status.OK)) ∧
    (∀ (c : Fin 8) (v : Nat), v < 1024 → s.works .act = true → s.rd (Reg.VLV_CFG_EN c.val) = 1 →
      (∃ t, exec (.consoleVlvHold c.val v) s = .next t ∧ (t.valve c.val).test = some (some v) ∧ (t.valve c.val).on = true ∧
        t.rd Reg.SVC_STAT_LAST = t.rd (Reg.VLV_STAT_RSTAT c.val)) ∧
      (∃ t, exec (.consoleVlvOff c.val) s = .next t ∧ (t.valve c.val).test = some none ∧ (t.valve c.val).on = false ∧
        t.rd Reg.SVC_STAT_LAST = Status.OK) ∧
      (∃ t, exec (.consoleVlvRelease c.val) s = .next t ∧ (t.valve c.val).test = none ∧ t.rd Reg.SVC_STAT_LAST = Status.OK)) ∧
    (∀ (c : Fin 3) (v : Nat), v < 65536 → s.works .act = true → s.rd (Reg.FAN_CFG_EN c.val) = 1 →
      (∃ t, exec (.consoleFanRpm c.val v) s = .next t ∧ (t.fan c.val).test = some v ∧ t.rd (Reg.FAN_STAT_TEST c.val) = 1 ∧
        t.rd Reg.SVC_STAT_LAST = Status.OK) ∧
      (∃ t, exec (.consoleFanOff c.val) s = .next t ∧ (t.fan c.val).test = some 0 ∧ t.rd (Reg.FAN_STAT_TEST c.val) = 1 ∧
        t.rd Reg.SVC_STAT_LAST = Status.OK) ∧
      (∃ t, exec (.consoleFanRelease c.val) s = .next t ∧ (t.fan c.val).test = none ∧ t.rd (Reg.FAN_STAT_TEST c.val) = 0 ∧
        t.rd Reg.SVC_STAT_LAST = Status.OK)) ∧
    (∀ (q : Fin 2) (pin mag : Nat), pin < 14 → s.works .conv = true → (s.seq (1 - q.val)).test = false →
      (mag < 8 → ∃ t, exec (.consoleAfeExcCurrent q pin mag) s = .next t ∧ (t.seq q.val).test = true ∧
        t.afe.testExc = some (q.val, pin, mag, false) ∧ t.rd Reg.SVC_STAT_LAST = Status.OK) ∧
      (mag < 2 → ∃ t, exec (.consoleAfeExcVoltage q pin mag) s = .next t ∧ (t.seq q.val).test = true ∧
        t.afe.testExc = some (q.val, pin, mag, true) ∧ t.rd Reg.SVC_STAT_LAST = Status.OK)) ∧
    (∀ q : Fin 2, s.works .conv = true → ∃ t, exec (.consoleAfeOff q) s = .next t ∧ (t.seq q.val).test = false ∧
      t.rd Reg.SVC_STAT_LAST = Status.OK)) ∧
  (∀ (s : State) (c : Instr), s.conAlive = true → s.therm.tripped = false → s.service = false →
    (∃ (k : Fin 6) (v : Nat), v < 16384 ∧ (c = .consoleDacHold k.val v ∨ c = .consoleDacRelease k.val)) ∨
    (∃ (k : Fin 8) (v : Nat), v < 1024 ∧ (c = .consoleVlvHold k.val v ∨ c = .consoleVlvOff k.val ∨ c = .consoleVlvRelease k.val)) ∨
    (∃ (k : Fin 3) (v : Nat), v < 65536 ∧ (c = .consoleFanRpm k.val v ∨ c = .consoleFanOff k.val ∨ c = .consoleFanRelease k.val)) ∨
    (∃ (q : Fin 2) (pin mag : Nat), pin < 14 ∧ mag < 2 ∧ (c = .consoleAfeExcCurrent q pin mag ∨
      c = .consoleAfeExcVoltage q pin mag ∨ c = .consoleAfeOff q)) ∨ c = .consoleBallReleaseAll →
    ∃ t, exec c s = .next t ∧ t.rd Reg.SVC_STAT_LAST = Status.ILLEGAL_STATE ∧ t.svc.lines = [] ∧
      Frame [(0x2401, 0x2402)] [.svc] s t)

/-- R388, R391, R393: the factory set. Under DBGLOCK a command of it is LOCKED, outside SERVICE ILLEGAL_STATE; where it is
allowed, the spec does not say what it does, and the model stops with a fault of its own (notes/assumptions/4). The JTAG
port's factory instructions are taken in SERVICE without DBGLOCK only, and are BYPASS elsewhere.

R391, R393: the JTAG port. Under DBGLOCK the TAP stays in reset; IDCODE loads its 32 bits, SAMPLE the captured balls, EXTEST
and HIGHZ take effect in SERVICE and are BYPASS elsewhere.

R390, R392: LOCK in SERVICE at 0 to 85 °C programs its bits and reads them back; KEY also needs that no programmed bit of
the digest would have to be 0, and seals itself with its own lock bit. Outside those conditions no fuse changes. -/
def Obligations.FactoryJtagFuses : Prop :=
  (∀ s : State, s.up = true →
    (∀ c : Instr, s.conAlive = true → c = .consoleMem ∨ c = .consoleTrim ∨ c = .consoleScan ∨ c = .consoleFuse →
      (s.dbgLock = true → ∃ t, exec c s = .next t ∧ t.rd Reg.SVC_STAT_LAST = Status.LOCKED ∧ t.svc.lines = [] ∧
        Frame [(0x2401, 0x2402)] [.svc] s t) ∧
      (s.dbgLock = false → s.service = false → ∃ t, exec c s = .next t ∧ t.rd Reg.SVC_STAT_LAST = Status.ILLEGAL_STATE ∧
        t.svc.lines = [] ∧ Frame [(0x2401, 0x2402)] [.svc] s t) ∧
      (s.dbgLock = false → s.service = true → exec c s = .fault .factoryEffectUnstated)) ∧
    (∀ k : BitVec 8, (0x80 ≤ k.toNat → k.toNat ≤ 0xFE → s.service = true → s.dbgLock = false →
        exec (.jtagFactory k) s = .fault .factoryEffectUnstated) ∧
      (s.dbgLock = false → s.service = false ∨ k.toNat < 0x80 ∨ k.toNat = 0xFF →
        ∃ t, exec (.jtagFactory k) s = .next t ∧ t.jtag = { s.jtag with reg := .bypass, dr := [false] } ∧ Frame [] [.jtag] s t))) ∧
  (∀ s : State, s.up = true →
    (s.dbgLock = false →
      (∃ t, exec .jtagIdcode s = .next t ∧ t.jtag = { s.jtag with reg := .idcode, dr := natBits 32 s.idcode } ∧
        Frame [] [.jtag] s t) ∧
      (∀ x y : List Bool, ∃ t, exec (.jtagSamplePreload x y) s = .next t ∧
        t.jtag = { reg := .sample, dr := x, preload := y } ∧ Frame [] [.jtag] s t) ∧
      (∃ t, exec .jtagBypass s = .next t ∧ t.jtag = { s.jtag with reg := .bypass, dr := [false] } ∧ Frame [] [.jtag] s t) ∧
      (∃ t, exec .jtagExtest s = .next t ∧ Frame [] [.jtag] s t ∧
        t.jtag = if s.service then { s.jtag with reg := .extest, dr := s.jtag.preload }
          else { s.jtag with reg := .bypass, dr := [false] }) ∧
      (∃ t, exec .jtagHighz s = .next t ∧ Frame [] [.jtag] s t ∧
        t.jtag = if s.service then { s.jtag with reg := .highz, dr := [false] }
          else { s.jtag with reg := .bypass, dr := [false] })) ∧
    (s.dbgLock = true → ∀ (c : Instr) (x y : List Bool),
      c = .jtagIdcode ∨ c = .jtagSamplePreload x y ∨ c = .jtagBypass ∨ c = .jtagExtest ∨ c = .jtagHighz →
      ∃ t, exec c s = .next t ∧ t.jtag = { reg := .idcode, dr := [], preload := [] } ∧ Frame [] [.jtag] s t)) ∧
  ((∀ s : State, s.up = true → s.lockGate = Status.OK →
    (∃ t, exec (.lockDbg true) s = .next t ∧ (∀ b, b ∈ t.fuses ↔ b ∈ s.fuses ∨ (8 ≤ b ∧ b < 12)) ∧
      t.rd Reg.FUSE_STAT_PSTAT = Status.OK ∧ t.rd Reg.SVC_STAT_LAST = Status.OK ∧ t.dbgLock = true) ∧
    (∃ t, exec (.lockPriv true) s = .next t ∧ (∀ b, b ∈ t.fuses ↔ b ∈ s.fuses ∨ (12 ≤ b ∧ b < 16)) ∧
      t.rd Reg.FUSE_STAT_PSTAT = Status.OK ∧ t.rd Reg.SVC_STAT_LAST = Status.OK ∧ t.privLock = true) ∧
    (∀ k : BitVec 256, s.fuseBit 16 = false → (∀ i, i < 256 → s.fuseBit (32 + i) = true → 32 + i ∈ hashBits k) →
      ∃ t, exec (.lockKey k true) s = .next t ∧ (∀ b, b ∈ t.fuses ↔ b ∈ s.fuses ∨ b = 16 ∨ b ∈ hashBits k) ∧
        t.rd Reg.FUSE_STAT_PSTAT = Status.OK) ∧
    (∀ (c : Instr), c = .lockDbg false ∨ c = .lockPriv false → ∃ t, exec c s = .next t ∧ (∀ b ∈ s.fuses, b ∈ t.fuses) ∧
      t.rd Reg.FUSE_STAT_PSTAT = Status.CHECK_FAIL ∧ t.rd Reg.SVC_STAT_LAST = Status.CHECK_FAIL) ∧
    (∀ (k : BitVec 256) (r : Bool), s.fuseBit 16 = true → ∃ t, exec (.lockKey k r) s = .next t ∧ t.fuses = s.fuses ∧
      t.rd Reg.FUSE_STAT_PSTAT = Status.LOCKED)) ∧
  (∀ (s : State) (c : Instr) (k : BitVec 256) (r : Bool), s.up = true → s.lockGate ≠ Status.OK →
    c = .lockDbg r ∨ c = .lockPriv r ∨ c = .lockKey k r → ∃ t, exec c s = .next t ∧ t.fuses = s.fuses ∧
      t.rd Reg.FUSE_STAT_PSTAT = (if s.lockGate = Status.DOWN then s.rd Reg.FUSE_STAT_PSTAT else s.lockGate) ∧ t.rd Reg.SVC_STAT_LAST = s.lockGate))

/-- R292, R293, R299, Table 14-2: what a PWM period makes of a fan's command. In the safe state it stops; a test in SERVICE, or
a usable command point outside it, gives the speed, and a stopped fan that is told to run starts with CATCH; a faulted one
stays off.

R297, R298, R300, R301, Table 14-3: the events of a fan. Each leaves the state that Table 14-3 gives; a fault keeps its
cause; CLEAR of a faulted channel stops it. In RUN a six-step channel commutates half an interval after a crossing, at the
start of a PWM period (the model's choice, notes/assumptions/105), and a sinusoidal one turns its angle by the measured
speed. What D does meanwhile is Obligations.FanCommands' matter.

R65, R298, R300: the current limit cuts the period, counts once in it and releases the channel's forced balls to their Reset
state, with FAULT in LAST; every 10 ms the mean current goes to IMA and to its point, the speed to the speed point. -/
def Obligations.Fans : Prop :=
  (∀ (s : State) (c : Fin 3) (k : BitVec 12), s.up = true → s.rd (Reg.FAN_CFG_EN c.val) = 1 →
    (s.fstate c.val = FState.FAULT → ∃ t, exec (.fanPwmPeriod c k) s = .next t ∧ t.fstate c.val = FState.FAULT ∧
      t.rd (Reg.FAN_CMDRPM c.val) = 0) ∧
    (s.fstate c.val ≠ FState.FAULT → s.actSafe = true → ∃ t, exec (.fanPwmPeriod c k) s = .next t ∧
      t.fstate c.val = FState.STOPPED ∧ t.rd (Reg.FAN_CMDRPM c.val) = 0 ∧ t.rd (Reg.FAN_DUTY c.val) = 0 ∧
      (t.fan c.val).cmd = .safe) ∧
    (∀ n : Nat, s.fstate c.val = FState.STOPPED → s.actSafe = false → s.service = true → (s.fan c.val).test = some n →
      0 < n → n < 65536 → ∃ t, exec (.fanPwmPeriod c k) s = .next t ∧ t.fstate c.val = FState.CATCH ∧
      t.rd (Reg.FAN_CMDRPM c.val) = n) ∧
    (∀ (w : Word) (q : Quality), s.fstate c.val = FState.STOPPED → s.actSafe = false → s.service = false →
      s.rd (Reg.FAN_CFG_GROUP c.val) = 0 → s.fanHeld c.val = false → s.readPoint (s.rd (Reg.FAN_TGTPT c.val)) = (w, q) →
      q.usable = true → ∃ t, exec (.fanPwmPeriod c k) s = .next t ∧
      t.rd (Reg.FAN_CMDRPM c.val) = s.fanRpm c.val (toSigned 18 w.toNat) ∧
      t.fstate c.val = (if s.fanRpm c.val (toSigned 18 w.toNat) = 0 then FState.STOPPED else FState.CATCH))) ∧
  (∀ (s : State) (c : Fin 3), s.up = true →
    (s.fstate c.val = FState.CATCH → (s.fan c.val).braking = false →
      (∃ t, exec (.fanCatchEnd c 2) s = .next t ∧ t.fstate c.val = FState.STARTING ∧ t.rd (Reg.FAN_STAT_ATTEMPT c.val) = 0) ∧
      (∃ t, exec (.fanCatchEnd c 1) s = .next t ∧ t.fstate c.val = FState.CATCH ∧ (t.fan c.val).braking = true) ∧
      (s.rd (Reg.FAN_CFG_FGSRC c.val) ≠ 2 → ∃ t, exec (.fanCatchEnd c 0) s = .next t ∧ t.fstate c.val = FState.RUN)) ∧
    (s.fstate c.val = FState.CATCH → (s.fan c.val).braking = true →
      ∃ t, exec (.fanBrakeEnd c) s = .next t ∧ t.fstate c.val = FState.STARTING ∧ (t.fan c.val).braking = false) ∧
    (s.fstate c.val = FState.STARTING →
      (∃ t, exec (.fanStartTimeout c) s = .next t ∧
        t.rd (Reg.FAN_RETRY c.val) = min (s.rd (Reg.FAN_RETRY c.val) + 1) 0x3FFFF ∧
        (s.rd (Reg.FAN_STAT_ATTEMPT c.val) = 3 → t.fstate c.val = FState.FAULT ∧ t.rd (Reg.FAN_STAT_FCAUSE c.val) = 1) ∧
        (s.rd (Reg.FAN_STAT_ATTEMPT c.val) ≠ 3 → t.fstate c.val = FState.WAIT ∧ t.rd (Reg.FAN_DUTY c.val) = 0)) ∧
      (∀ dt : Nat, s.rd (Reg.FAN_CFG_EN c.val) = 1 → s.rd (Reg.FAN_CFG_FGSRC c.val) ≠ 2 → 5 ≤ (s.fan c.val).good →
        crossingFits (s.fanHand c.val) (s.fanAlign c.val) (s.fanRamp c.val) (s.fan c.val).startT dt = true →
        ∃ t, exec (.fanZeroCrossing c dt) s = .next t ∧ t.fstate c.val = FState.RUN) ∧
      (∀ dt : Nat, s.rd (Reg.FAN_CFG_EN c.val) = 1 → s.rd (Reg.FAN_CFG_FGSRC c.val) ≠ 2 →
        crossingFits (s.fanHand c.val) (s.fanAlign c.val) (s.fanRamp c.val) (s.fan c.val).startT dt = false →
        ∃ t, exec (.fanZeroCrossing c dt) s = .next t ∧ t.fstate c.val = FState.STARTING ∧ (t.fan c.val).good = 0) ∧
      (∀ dt : Nat, s.rd (Reg.FAN_CFG_EN c.val) = 1 → s.rd (Reg.FAN_CFG_FGSRC c.val) = 2 → (s.fan c.val).good ≠ 0 →
        s.rd (Reg.FAN_RPMHAND c.val) * dt * s.rd (Reg.FAN_CFG_FGPPR c.val) ≤ 4 * 60000000000 →
        ∃ t, exec (.fanFgEdge c dt) s = .next t ∧ t.fstate c.val = FState.RUN)) ∧
    (s.fstate c.val = FState.WAIT → ∃ t, exec (.fanWaitEnd c) s = .next t ∧ t.fstate c.val = FState.STARTING ∧
      t.rd (Reg.FAN_STAT_ATTEMPT c.val) =
        if (s.fan c.val).lostRot then 0 else min 3 (s.rd (Reg.FAN_STAT_ATTEMPT c.val) + 1)) ∧
    (s.fstate c.val = FState.RUN →
      (∀ dt : Nat, s.rd (Reg.FAN_CFG_EN c.val) = 1 → s.rd (Reg.FAN_CFG_FGSRC c.val) ≠ 2 → s.rd (Reg.FAN_CFG_COMM c.val) = 0 →
        ∃ t, exec (.fanZeroCrossing c dt) s = .next t ∧ t.fstate c.val = FState.RUN ∧ (t.fan c.val).commIn = some (3 * dt / 2) ∧
          (t.fan c.val).step = (s.fan c.val).step) ∧
      (∀ (k : BitVec 12) (n : Nat), s.rd (Reg.FAN_CFG_EN c.val) = 1 → s.rd (Reg.FAN_CFG_COMM c.val) = 0 →
        (s.fan c.val).commIn = some n → ∃ t, exec (.fanPwmPeriod c k) s = .next t ∧
          (t.fan c.val).step = (if n ≤ s.fanPeriod c.val then ((s.fan c.val).step + 1) % 6 else (s.fan c.val).step)) ∧
      (∀ k : BitVec 12, s.rd (Reg.FAN_CFG_EN c.val) = 1 → s.rd (Reg.FAN_CFG_COMM c.val) = 1 →
        ∃ t, exec (.fanPwmPeriod c k) s = .next t ∧ (t.fan c.val).ang = ((s.fan c.val).ang +
          s.rd (Reg.FAN_RPM c.val) * s.rd (Reg.FAN_CFG_POLES c.val) * s.rd (Reg.FAN_PWM c.val)) % fanTurn) ∧
      (∃ t, exec (.fanRotationLost c) s = .next t ∧ t.fstate c.val = FState.WAIT ∧ t.rd (Reg.FAN_DUTY c.val) = 0 ∧
        (t.fan c.val).lostRot = true) ∧
      (s.rd (Reg.FAN_CFG_FGSRC c.val) = 1 → ∃ t, exec (.fanFgLost c) s = .next t ∧ t.rd (Reg.FAN_STAT_FGLOST c.val) = 1 ∧
        t.fstate c.val = FState.RUN) ∧
      (s.rd (Reg.FAN_CFG_FGSRC c.val) = 2 → ∃ t, exec (.fanFgLost c) s = .next t ∧ t.fstate c.val = FState.FAULT ∧
        t.rd (Reg.FAN_STAT_FCAUSE c.val) = 2) ∧
      (∃ t, exec (.fanOvercurrent c) s = .next t ∧ t.fstate c.val = FState.FAULT ∧ t.rd (Reg.FAN_STAT_FCAUSE c.val) = 3)) ∧
    (Accepts s .fan → s.unlocked .fan = true → s.fstate c.val = FState.FAULT →
      ∃ t, exec (.fanClear c) s = .next t ∧ t.fstate c.val = FState.STOPPED ∧ t.rd (Reg.FAN_STAT_FCAUSE c.val) = 0 ∧
        t.rd Reg.FAN_CMD_CSTAT = Status.OK ∧ t.rd Blk.fan.statusFld = Status.OK)) ∧
  (∀ (s : State) (c : Fin 3), s.up = true →
    (∃ t, exec (.fanCurrentLimit c) s = .next t ∧ (t.fan c.val).cut = true ∧ t.rd (Reg.FAN_STAT_LIMIT c.val) = 1 ∧
      t.rd (Reg.FAN_LIMCNT c.val) = (if (s.fan c.val).cut then s.rd (Reg.FAN_LIMCNT c.val)
        else min (s.rd (Reg.FAN_LIMCNT c.val) + 1) 0x3FFFF) ∧
      (∀ x ∈ t.balls.forced, x ∈ s.balls.forced ∧ x.1 ∉ fanBalls c.val) ∧
      (∀ b ∈ fanBalls c.val, s.ballForced b = true → b ∈ t.balls.resets) ∧
      ((fanBalls c.val).any s.ballForced = true → t.rd Reg.SVC_STAT_LAST = Status.FAULT) ∧
      ((fanBalls c.val).any s.ballForced = false → t.rd Reg.SVC_STAT_LAST = s.rd Reg.SVC_STAT_LAST)) ∧
    (∀ p : Point, s.rd (Reg.FAN_CFG_EN c.val) = 1 → s.actSafe = false → s.rd (Reg.FAN_SPDPT_SPEN c.val) = 1 →
      s.rd (Reg.FAN_SPDPT_CUREN c.val) = 0 → s.fstate c.val ≠ FState.FAULT →
      s.point (s.rd (Reg.FAN_SPDPT_POINT c.val)) = some p → p.source = .fan c.val 0 →
      ∃ t, exec (.fanMeasureWrite c) s = .next t ∧
        t.rd (Reg.FAN_IMA c.val) = s.fanAmps c.val (s.fan c.val).curSum (s.fan c.val).curN ∧
        (t.fan c.val).curSum = 0 ∧ (t.fan c.val).curN = 0 ∧
        t.point (s.rd (Reg.FAN_SPDPT_POINT c.val)) =
          some (p.trig (.write (BitVec.ofNat 18 (s.rd (Reg.FAN_RPM c.val)))))))

/-- R304 to R306: a group whose sensor point has had no value for 10 s is late, and its sensor has failed where SOVREN is set;
in a small configuration the comparator of an armed group latches SYSOFF_N and keeps the first cause, for a pin that stands
low as a short, below the threshold that TRIPSEL selects, or high as an open one; between them it does nothing.

R315, R316: an input pin writes its point once its level has been stable for the debounce time; a level that has only begun
waits. The daily trends go as one page to their ring. -/
def Obligations.GroupsPinsTrends : Prop :=
  ((∀ (s : State) (g : Fin 3), s.up = true → ∃ t, exec (.groupSensorTimeout g) s = .next t ∧ t.act.groups[g].late = true ∧
    (s.rd (Reg.FAN_GRP_SOVREN g.val) = 1 → (s.readPoint (s.rd (Reg.FAN_GRP_SENSPT g.val))).2 = .notYet →
      t.rd Reg.FAN_GSTAT_SFAIL / 2 ^ g.val % 2 = 1 ∧ t.rd (Reg.FAN_GTEMP g.val) = 0x3FFFF) ∧
    Frame [Blk.range .fan] [.act] s t) ∧
  (∀ (s : State) (g : Fin 3) (r : Fin 10001) (k : Nat), s.act.groups[g].armed.isSome = true → s.variant ≠ .slz4860 →
    s.d0Up = true → s.balls.pgood = true →
    (k = 3 ∧ r.val + 30 < 200 ∨ k = 1 ∧ 230 < r.val ∧ r.val + 30 < tripThreshold (s.rd Reg.SYS_STRAP_TRIPSEL) ∨
      k = 2 ∧ 9730 < r.val →
      ∃ t, exec (.windowComparatorTrip g r) s = .next t ∧ t.balls = { s.balls with sysoff := true } ∧
        (s.rd Reg.FAN_GSTAT_CMPCAUSE = 0 → t.rd Reg.FAN_GSTAT_CMPCAUSE = k ∧ t.rd Reg.FAN_GSTAT_CMPGRP = g.val + 1) ∧
        (s.rd Reg.FAN_GSTAT_CMPCAUSE ≠ 0 → t.rd Reg.FAN_GSTAT_CMPCAUSE = s.rd Reg.FAN_GSTAT_CMPCAUSE)) ∧
    (tripThreshold (s.rd Reg.SYS_STRAP_TRIPSEL) + 30 < r.val → r.val + 30 < 9700 →
      ∃ t, exec (.windowComparatorTrip g r) s = .next t ∧ Frame [] [] s t))) ∧
  ((∀ (s : State) (g : Fin 4) (b : Bool), s.up = true → s.ballForced (gpioBall g.val) = false → s.rd (Reg.GPIO_CFG_EN g.val) = 1 → s.rd (Reg.GPIO_CFG_DIR g.val) = 0 →
    s.works .gpio = true →
    (∀ p, (s.gpin g.val).cand = b → debSamples (s.rd (Reg.GPIO_CFG_DEB g.val)) ≤ (s.gpin g.val).stable + 1 →
      (s.gpin g.val).value ≠ some b → s.point (s.rd (Reg.GPIO_CFG_POINT g.val)) = some p → p.source = .gpio g.val →
      ∃ t, exec (.gpioInputSample g b) s = .next t ∧ (t.gpin g.val).value = some b ∧
        t.rdB (Reg.GPIO_STAT_LEVEL g.val) = b ∧
        t.point (s.rd (Reg.GPIO_CFG_POINT g.val)) = some (p.trig (.write (if b then 1 else 0)))) ∧
    ((s.gpin g.val).cand ≠ b → 0 < debSamples (s.rd (Reg.GPIO_CFG_DEB g.val)) →
      ∃ t, exec (.gpioInputSample g b) s = .next t ∧ (t.gpin g.val).cand = b ∧ (t.gpin g.val).stable = 0 ∧
        t.points = s.points)) ∧
  (∀ s : State, s.up = true → s.therm.tripped = false → s.tally.running = none → s.tally.waiting = [] → s.tally.events = [] →
    ∃ t, exec .actuatorTrendRecord s = .next t ∧
      ∃ p, t.tally.running = some p ∧ p.kind = .aux ∧ 336 ≤ p.page ∧ p.page < 384 ∧ t.tally.mem = s.tally.mem))

/-- R307 to R309: the peak of a valve. VG turns on LEAD after its switch; VS at IPK ends the first part of the peak, within 2 µs
it is a SHORT; at its end the channel holds, or, when VS never passed half of IPK, it is OPEN; PKTO says that IPK was not
reached.

R307, R308, R312: chopping, cycles and CLEAR. At a chopping period VG turns on where it has been off for TOFFMIN; the first
500 ns after its turn-on are ignored, then the threshold turns it off. A cycle that is over takes the duty of its command.
CLEAR of a faulted channel makes it OFF, of another one it is ILLEGAL_STATE. -/
def Obligations.Valves : Prop :=
  (∀ (s : State) (v : Fin 8) (u : Nat), s.up = true → s.vstate v.val = VState.PEAK → v.val ∉ (s.hsw (v.val / 4)).waiting →
    ((s.valve v.val).leadUntil = some u → (s.valve v.val).vgAt = none →
      ∃ t, exec (.valveLeadExpiry v) s = .next t ∧ (t.valve v.val).vgAt = some u ∧ (t.valve v.val).vg = true ∧
        t.rd (Reg.VLV_DLY v.val) = min (2 ^ 18 - 1) ((u - (s.valve v.val).reqAt) / 1000) ∧
        Frame [((Reg.VLV_DLY v.val).key, (Reg.VLV_DLY v.val).key + 1)] [.act] s t) ∧
    (∀ n : Nat, (s.valve v.val).vgAt = some u → (s.valve v.val).ipkAt = none → n < u + s.tpkMaxNs v.val →
      (u + 2000 < n → ∃ t, exec (.valveIpkReached v n) s = .next t ∧ (t.valve v.val).ipkAt = some n ∧
        (t.valve v.val).vg = false ∧ t.vstate v.val = VState.PEAK) ∧
      (n ≤ u + 2000 → ∃ t, exec (.valveIpkReached v n) s = .next t ∧ t.vstate v.val = VState.FAULT ∧
        t.rd (Reg.VLV_STAT_FCAUSE v.val) = 2 ∧ (t.valve v.val).vg = false)) ∧
    (∀ (n : Nat) (half : Bool), (s.valve v.val).vgAt = some u →
      ((s.valve v.val).ipkAt.isSome = true ∨ half = true → ∃ t, exec (.valvePeakEnd v n half) s = .next t ∧
        t.vstate v.val = VState.HOLD ∧ t.rdB (Reg.VLV_STAT_PKTO v.val) = (s.valve v.val).ipkAt.isNone) ∧
      ((s.valve v.val).ipkAt = none → half = false → ∃ t, exec (.valvePeakEnd v n half) s = .next t ∧
        t.vstate v.val = VState.FAULT ∧ t.rd (Reg.VLV_STAT_FCAUSE v.val) = 1))) ∧
  (∀ (s : State) (v : Fin 8), s.up = true →
    (∀ o : Nat, s.chops v.val = true → (s.valve v.val).offNs = some o → (s.valve v.val).vg = false →
      ∃ t, exec (.valveChopPeriod v) s = .next t ∧
        (t.valve v.val).vg = decide (1000 * s.rd (Reg.VLV_CHOP_TOFFMIN v.val) ≤ o) ∧
        (s.vstate v.val = VState.HOLD → (t.valve v.val).periods = (s.valve v.val).periods + 1) ∧ Frame [] [.act] s t) ∧
    (∀ n : Nat, s.chops v.val = true → (s.valve v.val).vg = true →
      (500 ≤ n → ∃ t, exec (.valveChopOff v n) s = .next t ∧ (t.valve v.val).vg = false ∧
        (t.valve v.val).offNs = some (s.chopNs v.val - n) ∧ Frame [] [.act] s t) ∧
      (n < 500 → ∃ t, exec (.valveChopOff v n) s = .next t ∧ Frame [] [] s t)) ∧
    (∀ (w : Word) (q : Quality), s.rd (Reg.VLV_CFG_MODE v.val) = 1 → s.rd (Reg.VLV_CFG_EN v.val) = 1 →
      s.rd (Reg.VLV_CFG_SHUT v.val) = 0 → (s.valve v.val).cycLen ≤ (s.valve v.val).cyc + 1 → s.actSafe = false →
      s.service = false → s.pointHeld (s.rd (Reg.VLV_CFG_CMDPT v.val)) = false → s.readPoint (s.rd (Reg.VLV_CFG_CMDPT v.val)) = (w, q) →
      q.usable = true → ∃ t, exec (.valveCycleStart v) s = .next t ∧ (t.valve v.val).cyc = 0 ∧
        ((t.valve v.val).cycLen, (t.valve v.val).onLen) = cycleOf s.stinc (s.rd (Reg.VLV_TCYC v.val))
          (s.rd (Reg.VLV_TMIN v.val)) (toSigned 18 w.toNat)) ∧
    (Accepts s .vlv → s.unlocked .vlv = true →
      (s.vstate v.val = VState.FAULT → ∃ t, exec (.valveClear v) s = .next t ∧ t.vstate v.val = VState.OFF ∧
        t.rd (Reg.VLV_STAT_FCAUSE v.val) = 0 ∧ t.rd Reg.VLV_CMD_CSTAT = Status.OK) ∧
      (s.vstate v.val ≠ VState.FAULT → ∃ t, exec (.valveClear v) s = .next t ∧ t.rd Reg.VLV_CMD_CSTAT = Status.ILLEGAL_STATE ∧
        t.rd Blk.vlv.statusFld = Status.ILLEGAL_STATE ∧
        Frame [(Reg.VLV_CMD_CSTAT.key, Reg.VLV_CMD_CSTAT.key + 1), (Blk.vlv.statusFld.key, Blk.vlv.statusFld.key + 1)] [] s t)))

/-- R354, R357: the end of a pulse. What the pulse changed stands, every other byte is as before; LAST reads OK; the next pulse
is the one first in R354's order, and a host page that NVWP_N closes as it is reached is not programmed, and a COMMIT under
way then ends LOCKED.

R357, Table 5-4: the tally window. A write in the trip sequence is answered DOWN; one outside the host area is REFUSED, one
to the protected range with NVWP_N low LOCKED; a write that continues the open buffer joins it; any other one opens a
buffer; with none free the write is discarded. -/
def Obligations.TallyPages : Prop :=
  (∀ (s : State) (p : Pulse), s.up = true → s.tally.running = some p → s.tally.events = [] → p.kind ≠ .record →
    (s.tally.waiting = [] → ∃ t, exec .tallyPulseDone s = .next t ∧
      (∀ a, (∀ b ∈ p.bytes, 256 * p.page + b.1 ≠ a) → t.tallyByte a = s.tallyByte a) ∧
      (∀ o v, p.bytes = [(o, v)] → t.tallyByte (256 * p.page + o) = v) ∧
      t.tally.running = none ∧ t.rd Reg.TALLY_STAT_LAST = Status.OK ∧ t.rd Reg.TALLY_STAT_BUSY = 0) ∧
    (∀ q r : Pulse, s.tally.waiting = [q, r] → s.pulseLocked q = false → s.pulseLocked r = false →
      ∃ t, exec .tallyPulseDone s = .next t ∧ t.rd Reg.TALLY_STAT_BUSY = 1 ∧
        (r.kind.rank < q.kind.rank → t.tally.running = some r ∧ t.tally.waiting = [q]) ∧
        (¬ r.kind.rank < q.kind.rank → t.tally.running = some q ∧ t.tally.waiting = [r])) ∧
    (∀ q : Pulse, s.tally.waiting = [q] → q.kind = .host → s.pageLocked q.page = true →
      ∃ t, exec .tallyPulseDone s = .next t ∧ t.tally.running = none ∧ t.tally.waiting = [] ∧
        t.rd Reg.TALLY_STAT_LAST = Status.LOCKED ∧
        t.rd Reg.TALLY_LOCKCNT = min (s.rd Reg.TALLY_LOCKCNT + 1) 0x3FFFF ∧
        (∀ c, s.tally.rcmd = some c → c.commit = true → t.tally.rcmd = none ∧ t.rd Reg.TALLY_RCMD_RSTAT = Status.LOCKED) ∧
        ((∀ c, s.tally.rcmd = some c → c.commit = false) → t.tally.rcmd = s.tally.rcmd))) ∧
  (∀ (s : State) (a : Nat) (v : Word), s.up = true →
    (s.therm.tripped = true → ∃ t, exec (.tallyWindowWrite a v) s = .next t ∧ t.rd Reg.HSP_WSTAT_WRES = Status.DOWN ∧
      Frame [(0x2004, 0x2005)] [] s t) ∧
    (s.therm.tripped = false →
    (a / 256 < 1024 ∨ 2047 < a / 256 → ∃ t, exec (.tallyWindowWrite a v) s = .next t ∧
      t.rd Reg.TALLY_STAT_LAST = Status.REFUSED ∧ t.rd Reg.HSP_WSTAT_WRES = Status.REFUSED ∧
      Frame [(0x1400, 0x1401), (0x2004, 0x2005)] [] s t) ∧
    (1024 ≤ a / 256 → a / 256 ≤ 2047 → s.pageLocked (a / 256) = true → ∃ t, exec (.tallyWindowWrite a v) s = .next t ∧
      t.rd Reg.TALLY_STAT_LAST = Status.LOCKED ∧ t.rd Reg.HSP_WSTAT_WRES = Status.LOCKED ∧
      t.rd Reg.TALLY_LOCKCNT = min (s.rd Reg.TALLY_LOCKCNT + 1) 0x3FFFF ∧
      Frame [(0x1400, 0x1401), (0x141A, 0x141B), (0x2004, 0x2005)] [] s t) ∧
    (1024 ≤ a / 256 → a / 256 ≤ 2047 → s.pageLocked (a / 256) = false → (a + 2) % 256 ≠ 0 →
      (∀ bytes, s.tally.openBuf = some (a / 256, a % 256 - bytes.length, bytes) → bytes.length ≤ a % 256 →
        ∃ t, exec (.tallyWindowWrite a v) s = .next t ∧ t.rd Reg.HSP_WSTAT_WRES = Status.OK ∧
          t.tally = { s.tally with openBuf := some (a / 256, a % 256 - bytes.length,
            bytes ++ [BitVec.ofNat 8 v.toNat, BitVec.ofNat 8 (v.toNat / 256)]) } ∧
          Frame [(0x2004, 0x2005)] [.tally, .hsp] s t) ∧
      (s.tally.openBuf = none → s.tally.used < 2 → ∃ t, exec (.tallyWindowWrite a v) s = .next t ∧
        t.rd Reg.HSP_WSTAT_WRES = Status.OK ∧
        t.tally = { s.tally with openBuf := some (a / 256, a % 256,
          [BitVec.ofNat 8 v.toNat, BitVec.ofNat 8 (v.toNat / 256)]) } ∧
        Frame [(0x2004, 0x2005)] [.tally, .hsp] s t) ∧
      (s.tally.openBuf = none → 2 ≤ s.tally.used → ∃ t, exec (.tallyWindowWrite a v) s = .next t ∧
        t.rd Reg.TALLY_STAT_LAST = Status.OVERRUN ∧ Frame [(0x1400, 0x1401), (0x2004, 0x2005)] [] s t))) ∧
    (∀ page o bytes, s.tally.openBuf = some (page, o, bytes) → s.tally.running = none → s.tally.waiting = [] →
      s.tally.events = [] → s.pageLocked page = false → ∃ t, exec (.flashBufferTimeout true) s = .next t ∧
        t.tally.openBuf = none ∧ t.tally.running = some { kind := .host, page := page, bytes := atOffset o bytes } ∧
        t.tally.mem = s.tally.mem))

/-- R119, R356: the record commands on an unlocked TALLY with no command running. SELECT chooses a copy as R119 does and sets
what describes it; BEGIN names the older copy and makes its header invalid; COMMIT programs the header with SEQ one above
the newer one and the CRC of the payload; a COMMIT without its BEGIN is ILLEGAL_STATE, a command while another runs BUSY. -/
def Obligations.TallyRecords : Prop :=
  ∀ (s : State), Accepts s .tally → s.unlocked .tally = true → s.rd (Reg.TALLY_RDEF0_NPG (s.rd Reg.TALLY_RSEL)) ≠ 0 →
    let id := s.rd Reg.TALLY_RSEL
    let a := s.rd (Reg.TALLY_RDEF0_BASE id)
    let b := s.rd (Reg.TALLY_RDEF1 id)
    let npg := s.rd (Reg.TALLY_RDEF0_NPG id)
    let r := recPick s.tally.mem id a b npg
    (s.tally.rcmd = none →
      (∃ t, exec .tallySelect s = .next t ∧ t.rd Reg.TALLY_RCMD_RSTAT = r.status ∧
        t.rdB Reg.TALLY_RCMD_RCOPY = r.copyB ∧ t.rd Reg.TALLY_RSEQ = r.seq ∧ t.rd Reg.TALLY_RLEN = r.len ∧
        t.rd Reg.TALLY_RBASE = ((if r.copyB then b else a) + 1) % 2048 ∧ t.rd Blk.tally.statusFld = Status.OK ∧
        t.tally.mem = s.tally.mem ∧ (r.status ≠ Status.EQUAL_SEQ → t.tally = s.tally)) ∧
      (s.balls.nvwp = true → s.tally.running = none → s.tally.waiting = [] → s.tally.events = [] →
        (∃ t, exec .tallyBegin s = .next t ∧ t.rd Reg.TALLY_RCMD_RSTAT = Status.BUSY ∧
          ∃ toB : Bool, (r.status = Status.OK → toB = !r.copyB) ∧ (r.status = Status.EQUAL_SEQ → toB = true) ∧
            (r.status = Status.NOT_YET → toB = false) ∧
            t.rd Reg.TALLY_RBASE = ((if toB then b else a) + 1) % 2048 ∧ t.tally.begun = some (id, toB) ∧
            t.tally.running = some ⟨.record, if toB then b else a, [(0, 0x00#8)]⟩ ∧
            t.tally.mem = s.tally.mem) ∧
        (∀ toB : Bool, s.tally.begun = some (id, toB) → s.tally.openBuf = none → s.rd Reg.TALLY_RLEN ≤ 256 * npg →
          ∃ t, exec .tallyCommit s = .next t ∧ t.rd Reg.TALLY_RCMD_RSTAT = Status.BUSY ∧
            t.tally.running = some ⟨.record, if toB then b else a,
              atOffset 0 (withCheck ([0xC2#8, BitVec.ofNat 8 id] ++ leBytes 3 ((r.seq + 1) % 2 ^ 18) ++
                leBytes 2 (s.rd Reg.TALLY_RLEN) ++ [0xFF#8] ++
                leBytes 4 (crc32 (viewBytes s.tally.mem (256 * ((if toB then b else a) + 1)) (s.rd Reg.TALLY_RLEN))).toNat))⟩ ∧
            t.tally.mem = s.tally.mem)) ∧
      (s.tally.begun = none → ∃ t, exec .tallyCommit s = .next t ∧ t.rd Reg.TALLY_RCMD_RSTAT = Status.ILLEGAL_STATE ∧
        t.rd Blk.tally.statusFld = Status.ILLEGAL_STATE ∧ Frame [(0x1405, 0x1406), (0x17FE, 0x17FF)] [] s t)) ∧
    (∀ c : Instr, c = .tallySelect ∨ c = .tallyBegin ∨ c = .tallyCommit → s.tally.rcmd.isSome = true →
      ∃ t, exec c s = .next t ∧ t.rd Reg.TALLY_RCMD_RSTAT = Status.BUSY ∧ t.rd Blk.tally.statusFld = Status.BUSY ∧
        Frame [(0x1405, 0x1406), (0x17FE, 0x17FF)] [] s t)

/-- R358, Table 16-11: the counters. An increment is one write of the value + n, at most 2^36 − 1, into the cell after the one
that holds the value; before the scan it is held; the scan takes the highest valid cell of each counter; every hour counter
0 counts while PGOOD is high, and batched counts are committed; INC takes the host's counters only. -/
def Obligations.TallyCounters : Prop :=
  (∀ s : State, Accepts s .tally → s.unlocked .tally = true →
    (s.rd Reg.TALLY_CSEL < 24 → ∃ t, exec .tallyInc s = .next t ∧ t.rd Reg.TALLY_CCMD_CSTAT = Status.BAD_ARG ∧
      t.rd Blk.tally.statusFld = Status.BAD_ARG ∧ Frame [(0x1413, 0x1414), (0x17FE, 0x17FF)] [] s t) ∧
    (24 ≤ s.rd Reg.TALLY_CSEL → s.tally.scanned = false → ∃ t, exec .tallyInc s = .next t ∧
      t.tally = { s.tally with held := s.tally.held ++ [(s.rd Reg.TALLY_CSEL, 1)] } ∧
      t.rd Reg.TALLY_CCMD_CSTAT = Status.OK) ∧
    (24 ≤ s.rd Reg.TALLY_CSEL → s.tally.scanned = true → s.tally.running = none → s.tally.waiting = [] →
      s.tally.events = [] → ∃ t, exec .tallyInc s = .next t ∧ t.rd Reg.TALLY_CCMD_CSTAT = Status.OK ∧
        t.tally.counters[s.rd Reg.TALLY_CSEL]? = some (min (counterValue s.tally.mem (s.rd Reg.TALLY_CSEL) + 1) (2 ^ 36 - 1)) ∧
        (cellNewest s.tally.mem (s.rd Reg.TALLY_CSEL) (List.range 16) none = none → t.tally.running =
          some { kind := .counter, page := cellAddr (s.rd Reg.TALLY_CSEL) 0 / 256,
                 bytes := atOffset (cellAddr (s.rd Reg.TALLY_CSEL) 0 % 256) (cellBytes 1) }) ∧
        (∀ j v, cellNewest s.tally.mem (s.rd Reg.TALLY_CSEL) (List.range 16) none = some (j, v) → t.tally.running =
          some { kind := .counter, page := cellAddr (s.rd Reg.TALLY_CSEL) ((j + 1) % 16) / 256,
                 bytes := atOffset (cellAddr (s.rd Reg.TALLY_CSEL) ((j + 1) % 16) % 256)
                   (cellBytes (min (v + 1) (2 ^ 36 - 1))) }))) ∧
  (∀ s : State, s.up = true → s.therm.tripped = false → ∃ t, exec .tallyHourly s = .next t ∧ t.tally.batch = Vector.replicate 64 0 ∧ t.tally.mem = s.tally.mem ∧
    (s.tally.scanned = false → (0, 1) ∈ t.tally.held ∧ ∀ x ∈ s.tally.held, x ∈ t.tally.held) ∧
    (s.tally.scanned = false → ∀ (c : Fin 64) (n : Nat), s.tally.batch[c] = n + 1 → (c.val, n + 1) ∈ t.tally.held)) ∧
  (∀ s : State, s.up = true → s.tally.scanned = false → s.tally.held = [] → ∃ t, exec .counterScanDone s = .next t ∧
    t.tally.scanned = true ∧ (∀ c : Fin 64, t.tally.counters[c] = counterValue s.tally.mem c.val) ∧
    t.rd Reg.TALLY_TORN = min (s.rd Reg.TALLY_TORN + tornCells s.tally.mem) 0x3FFFF ∧
    Frame [(Reg.TALLY_TORN.key, Reg.TALLY_TORN.key + 1)] [.tally] s t)

/-- R341, R343, Table 5-4: the flash window's program buffers. A write in the trip sequence is answered DOWN; without WEN a
write is turned away; one past the chip is REFUSED; one that continues the open buffer joins it; any other one opens a
buffer; with none free it is discarded and counted. A buffer closes on FLUSH and after 50 µs and is programmed in its turn,
once no fetch of the window waits for the bus.

R341, R343: the running operation of the flash port is polled; a program that has ended leaves each byte with the bits it
cleared (programming ANDs: PRESUMED, notes/assumptions/74) and its outcome in WRES: OK, CHECK_FAIL where VERIFY finds a
mismatch, TIMEOUT where WIP did not clear.

R344: an ERASE on an unlocked FLW is BAD_ARG where it is not aligned to a size of the chip, REFUSED where it would touch the
image in force, else BUSY until it ends: OK with every byte of the block erased, or TIMEOUT. -/
def Obligations.FlashPort : Prop :=
  (∀ (s : State) (a : Nat) (v : Word), s.up = true →
    let chip := s.rd Reg.FLW_WIN_CS
    let addr := s.rd Reg.FLW_WIN_BASE * 16777216 + a
    (s.therm.tripped = true → ∃ t, exec (.flashWindowWrite a v) s = .next t ∧ t.rd Reg.HSP_WSTAT_WRES = Status.DOWN ∧
      Frame [(0x2004, 0x2005)] [] s t) ∧
    (s.therm.tripped = false →
    (s.rdB Reg.FLW_WIN_WEN = false → ∃ t, exec (.flashWindowWrite a v) s = .next t ∧
      t.rd Reg.HSP_WSTAT_WRES = Status.ILLEGAL_STATE ∧ Frame [(0x2004, 0x2005)] [] s t) ∧
    (s.rdB Reg.FLW_WIN_WEN = true → s.flashSize chip ≤ addr + 1 → ∃ t, exec (.flashWindowWrite a v) s = .next t ∧
      t.rd Reg.HSP_WSTAT_WRES = Status.REFUSED ∧ Frame [(0x2004, 0x2005)] [] s t) ∧
    (∀ c : Chip, s.flash.chips[chip]? = some c → s.rdB Reg.FLW_WIN_WEN = true → addr + 1 < s.flashSize chip →
      (∀ (b : Nat) (bytes : List Byte), s.flash.openBuf = some (chip, b, bytes) → b + bytes.length = addr →
        b / c.page = addr / c.page → bytes.length < 254 → (addr + 2) % c.page ≠ 0 →
        ∃ t, exec (.flashWindowWrite a v) s = .next t ∧ t.flash =
          { s.flash with openBuf := some (chip, b, bytes ++ [BitVec.ofNat 8 v.toNat, BitVec.ofNat 8 (v.toNat / 256)]) } ∧
          t.rd Reg.HSP_WSTAT_WRES = Status.OK) ∧
      (s.flash.openBuf = none → s.flash.used < 2 → (addr + 2) % c.page ≠ 0 →
        ∃ t, exec (.flashWindowWrite a v) s = .next t ∧ t.flash =
          { s.flash with openBuf := some (chip, addr, [BitVec.ofNat 8 v.toNat, BitVec.ofNat 8 (v.toNat / 256)]) } ∧
          t.rd Reg.HSP_WSTAT_WRES = Status.OK ∧ t.rd Reg.FLW_WSTAT_WFREE = 1 - s.flash.used) ∧
      (s.flash.openBuf = none → 2 ≤ s.flash.used → ∃ t, exec (.flashWindowWrite a v) s = .next t ∧
        t.flash = s.flash ∧ t.rd Reg.FLW_WDISC = min (s.rd Reg.FLW_WDISC + 1) 0x3FFFF ∧
        t.rd Reg.FLW_WSTAT_WRES = Status.OVERRUN))) ∧
    (∀ (n b : Nat) (bytes : List Byte), s.flash.openBuf = some (n, b, bytes) → s.flash.running = none →
      s.flash.waiting = [] → s.hsp.wins[2].fetch.isEmpty = true → s.touchesImage n b bytes.length = false →
      (∃ t, exec (.flashBufferTimeout false) s = .next t ∧ t.flash.openBuf = none ∧
        t.flash.running = some (.program n b bytes) ∧ t.flash.sent = s.flashSends (.program n b bytes) ∧
        t.rd Reg.FLW_WSTAT_PROG = 1 ∧ t.flash.chips = s.flash.chips) ∧
      (Accepts s .flw → ∃ t, exec .flashFlush s = .next t ∧ t.flash.openBuf = none ∧
        t.flash.running = some (.program n b bytes) ∧ t.rd Blk.flw.statusFld = Status.OK ∧
        t.flash.chips = s.flash.chips))) ∧
  (∀ (s : State) (chip : Fin 2) (a : Nat) (bytes : List Byte), s.up = true → s.flash.running = some (.program chip.val a bytes) →
    (∀ w : Bool, ∃ t, exec (.flashStatusPoll w) s = .next t ∧ t.flash = { s.flash with wip := w } ∧ Frame [] [.flash] s t) ∧
    (s.flash.waiting = [] →
      (∀ m : Bool, s.flash.wip = false → ∃ t, exec (.flashProgramDone false m) s = .next t ∧ t.flash.running = none ∧
        (∀ x, t.flashByte chip.val x =
          if a ≤ x ∧ x < a + bytes.length then s.flashByte chip.val x &&& bytes.getD (x - a) 0 else s.flashByte chip.val x) ∧
        (s.rdB Reg.FLW_WIN_VERIFY = false → t.rd Reg.FLW_WSTAT_WRES = Status.OK) ∧
        (s.rdB Reg.FLW_WIN_VERIFY = true → m = true → t.rd Reg.FLW_WSTAT_WRES = Status.CHECK_FAIL ∧
          t.rd Reg.FLW_VFAIL = min (s.rd Reg.FLW_VFAIL + 1) 0x3FFFF) ∧
        t.rd Reg.FLW_WSTAT_PROG = 0 ∧ t.rd ⟨0x2006, 4, 4⟩ = 1) ∧
      (∀ m : Bool, ∃ t, exec (.flashProgramDone true m) s = .next t ∧ t.rd Reg.FLW_WSTAT_WRES = Status.TIMEOUT ∧
        t.flash.running = none ∧ (∀ x, x < a ∨ a + bytes.length ≤ x → t.flashByte chip.val x = s.flashByte chip.val x)))) ∧
  ((∀ s : State, Accepts s .flw → s.unlocked .flw = true → s.rd Reg.FLW_ESTAT ≠ Status.BUSY →
    let chip := s.rd Reg.FLW_ECMD_CS
    let code := s.rd Reg.FLW_ECMD_SIZE
    let addr := s.rdPair Reg.FLW_EADDR0 Reg.FLW_EADDR1
    (code = 3 ∨ s.flashSize chip ≤ addr ∨ addr % eraseSize code ≠ 0 ∨
        bitsOf (s.rd (Reg.FLW_CHIP_ERMASK chip)) code code = 0 → ∃ t, exec .flashErase s = .next t ∧
      t.rd Reg.FLW_ESTAT = Status.BAD_ARG ∧ t.rd Blk.flw.statusFld = Status.BAD_ARG ∧
      Frame [(0x1808, 0x1809), (0x1BFE, 0x1BFF)] [] s t) ∧
    (code < 3 → addr < s.flashSize chip → addr % eraseSize code = 0 →
      bitsOf (s.rd (Reg.FLW_CHIP_ERMASK chip)) code code = 1 →
      (s.touchesImage chip addr (eraseSize code) = true → ∃ t, exec .flashErase s = .next t ∧
        t.rd Reg.FLW_ESTAT = Status.REFUSED ∧ t.rd Blk.flw.statusFld = Status.REFUSED ∧
        Frame [(0x1808, 0x1809), (0x1BFE, 0x1BFF)] [] s t) ∧
      (s.touchesImage chip addr (eraseSize code) = false → s.flash.running = none → s.flash.waiting = [] →
        s.hsp.wins[2].fetch.isEmpty = true → ∃ t, exec .flashErase s = .next t ∧ t.rd Reg.FLW_ESTAT = Status.BUSY ∧
          t.flash.running = some (.erase chip addr (eraseSize code)) ∧
          t.flash.sent = s.flashSends (.erase chip addr (eraseSize code)) ∧ t.flash.chips = s.flash.chips))) ∧
  (∀ (s : State) (chip : Fin 2) (a n : Nat), s.up = true → s.flash.running = some (.erase chip.val a n) → s.flash.waiting = [] →
    (s.flash.wip = false → ∃ t, exec .flashEraseDone s = .next t ∧ t.rd Reg.FLW_ESTAT = Status.OK ∧
      t.flash.running = none ∧
      (∀ x, t.flashByte chip.val x = if a ≤ x ∧ x < a + n then 0xFF#8 else s.flashByte chip.val x)) ∧
    (∃ t, exec .flashEraseTimeout s = .next t ∧ t.rd Reg.FLW_ESTAT = Status.TIMEOUT ∧ t.flash.running = none ∧
      (∀ x, x < a ∨ a + n ≤ x → t.flashByte chip.val x = s.flashByte chip.val x))))

/-- R345: START sends LEN bytes of PSP_TXD to a select, BUSY until they are answered; while one is queued a second is BUSY, and
a head's own select is REFUSED. At the end of a transaction its bytes stand in PSP_RXD and the first waiting one of the
lowest class follows. -/
def Obligations.PspTransfers : Prop :=
  (∀ s : State, Accepts s .psp → s.unlocked .psp = true →
    (s.rd Reg.PSP_HCMD_CSTAT = Status.BUSY → ∃ t, exec .pspStart s = .next t ∧ t.rd Blk.psp.statusFld = Status.BUSY ∧
      t.rd Reg.PSP_HCMD_CSTAT = Status.BUSY ∧ Frame [(0x1C11, 0x1C12), (0x1FFE, 0x1FFF)] [] s t) ∧
    (s.rd Reg.PSP_HCMD_CSTAT ≠ Status.BUSY → 1 ≤ s.rd Reg.PSP_HSEL_LEN → s.rd Reg.PSP_HSEL_LEN ≤ 64 →
      s.rd Reg.PSP_HSEL_SEL ≤ 5 →
      (s.headOwns (s.rd Reg.PSP_HSEL_SEL) = true → ∃ t, exec .pspStart s = .next t ∧
        t.rd Reg.PSP_HCMD_CSTAT = Status.REFUSED ∧ t.rd Blk.psp.statusFld = Status.REFUSED ∧
        Frame [(0x1C11, 0x1C12), (0x1FFE, 0x1FFF)] [] s t) ∧
      (s.headOwns (s.rd Reg.PSP_HSEL_SEL) = false → s.psp.running = none → s.psp.waiting = [] →
        ∃ t, exec .pspStart s = .next t ∧ t.rd Reg.PSP_HCMD_CSTAT = Status.BUSY ∧ t.psp.waiting = [] ∧
          t.psp.running = some (.host (s.rd Reg.PSP_HSEL_SEL) (s.pspTx (s.rd Reg.PSP_HSEL_LEN))) ∧
          t.psp.out = s.pspTx (s.rd Reg.PSP_HSEL_LEN)))) ∧
  (∀ (s : State) (rx : List Byte), s.up = true →
    (∀ (sel : Nat) (bytes : List Byte), s.psp.running = some (.host sel bytes) → bytes.length ≤ 64 →
      s.psp.waiting = [] → ∃ t, exec (.pspTransactionDone rx) s = .next t ∧ t.psp.running = none ∧
        t.rd Reg.PSP_HCMD_CSTAT = Status.OK ∧ (∀ i, i < bytes.length →
          t.rd (if i % 2 = 0 then Reg.PSP_RXD_BYTE0 (i / 2) else Reg.PSP_RXD_BYTE1 (i / 2)) = (rx.getD i 0).toNat)) ∧
    (∀ (r q : PspReq) (h : Nat), s.psp.running = some (.head h) → s.psp.waiting = [r, q] → q.cls < r.cls →
      ∃ t, exec (.pspTransactionDone rx) s = .next t ∧ t.psp.running = some q ∧ t.psp.waiting = [r] ∧
        Frame [] [.psp] s t))

/-- R132, R133, R142, R143: packets of the frame being received, on the port's virtual channel. An image line of the negotiated
type is held, RAW14 with 14 bits, for the next slot of the raw ring; a line past HEIGHT is discarded and makes the frame
long; a frame takes the first packet of each telemetry source; what fails its check is counted in CRC, what is on another
channel or of another type in DISC, and the frame is as before.

R136, R140, R141, R148: an FS opens the frame of the latest FT edge; a second one in the same frame number is EXTRA; the
first one after SYNC has started ends the negotiation with OK and puts the head in service. An FS or FE of another channel
is discarded. That GEN counts every negotiation but the first is the model's choice (notes/assumptions/110). -/
def Obligations.FramesReceived : Prop :=
  (∀ (s : State) (h vc : Fin 4) (rx : FrameRx), s.up = true → s.headListens h.val = true → (s.head h.val).rx = some rx →
    (s.head h.val).extra = false →
    let crcKey := ((Reg.HEAD_CRC h.val).key, (Reg.HEAD_CRC h.val).key + 1)
    let discKey := ((Reg.HEAD_DISC h.val).key, (Reg.HEAD_DISC h.val).key + 1)
    let ecc1Key := ((Reg.HEAD_ECC1 h.val).key, (Reg.HEAD_ECC1 h.val).key + 1)
    let crcOf (c : Bool) := if c then s.rd (Reg.HEAD_CRC h.val) else min (s.rd (Reg.HEAD_CRC h.val) + 1) 0x3FFFF
    (∀ (raw16 : Bool) (px : List (BitVec 16)) (e c : Bool), s.takes h.val vc = true →
      s.rd (Reg.HEAD_LINK_DT h.val) = (if raw16 then 2 else 1) →
      (rx.lines < s.rd (Reg.HEAD_HEIGHT h.val) → rx.l3 = false → rx.notsvc = false → rx.ovr = false →
        s.cmp.running = none → (s.head h.val).ring[(rx.slot0 + rx.lines) % (s.head h.val).ring.length]? = some none →
        ∃ t, exec (.imageLine h vc raw16 px e c) s = .next t ∧
          (t.head h.val).rx = some { rx with
            held := rx.held ++
              [(px.take (s.rd (Reg.HEAD_WIDTH h.val))).map (fun w => w &&& (if raw16 then 0xFFFF#16 else 0x3FFF#16))]
            lines := rx.lines + 1, shortline := rx.shortline || decide (px.length < s.rd (Reg.HEAD_WIDTH h.val))
            long := rx.long || decide (s.rd (Reg.HEAD_WIDTH h.val) < px.length), crc := rx.crc || !c } ∧
          (t.head h.val).ring = (s.head h.val).ring ∧ t.rd (Reg.HEAD_CRC h.val) = crcOf c) ∧
      (s.rd (Reg.HEAD_HEIGHT h.val) ≤ rx.lines → ∃ t, exec (.imageLine h vc raw16 px e c) s = .next t ∧
        (t.head h.val).rx = some { rx with
          shortline := rx.shortline || decide (px.length < s.rd (Reg.HEAD_WIDTH h.val)), long := true, crc := rx.crc || !c } ∧
        (t.head h.val).ring = (s.head h.val).ring ∧ t.rd (Reg.HEAD_CRC h.val) = crcOf c)) ∧
    (∀ (raw16 : Bool) (px : List (BitVec 16)) (e c : Bool),
      (s.takes h.val vc = false ∨ s.rd (Reg.HEAD_LINK_DT h.val) ≠ (if raw16 then 2 else 1)) →
      ∃ t, exec (.imageLine h vc raw16 px e c) s = .next t ∧
        t.rd (Reg.HEAD_DISC h.val) = min (s.rd (Reg.HEAD_DISC h.val) + 1) 0x3FFFF ∧ t.rd (Reg.HEAD_CRC h.val) = crcOf c ∧
        Frame [crcKey, discKey, ecc1Key] [] s t) ∧
    (∀ bs : List Byte, s.takes h.val vc = true →
      (∃ t, exec (.telemetryPacket h vc 0x12 bs true) s = .next t ∧
        (t.head h.val).rx = some { rx with embedded := some (rx.embedded.getD bs) } ∧ Frame [] [.heads] s t) ∧
      (∀ k : Fin 8, assocGet rx.user k.val = none → ∃ t, exec (.telemetryPacket h vc (0x30 + k.val) bs true) s = .next t ∧
        (t.head h.val).rx = some { rx with user := assocPut rx.user k.val bs } ∧ Frame [] [.heads] s t)) ∧
    (∀ (dt : Nat) (bs : List Byte), s.takes h.val vc = true → (dt = 0x12 ∨ (0x30 ≤ dt ∧ dt ≤ 0x37)) →
      ∃ t, exec (.telemetryPacket h vc dt bs false) s = .next t ∧ t.rd (Reg.HEAD_CRC h.val) = crcOf false ∧
        Frame [crcKey] [] s t) ∧
    (∀ (dt : Nat) (bs : List Byte) (c : Bool),
      (s.takes h.val vc = false ∨ (dt ≠ 0x12 ∧ (dt < 0x30 ∨ 0x37 < dt))) →
      ∃ t, exec (.telemetryPacket h vc dt bs c) s = .next t ∧
        t.rd (Reg.HEAD_DISC h.val) = min (s.rd (Reg.HEAD_DISC h.val) + 1) 0x3FFFF ∧ t.rd (Reg.HEAD_CRC h.val) = crcOf c ∧
        Frame [crcKey, discKey] [] s t) ∧
    (∀ c : Bool, ∃ t, exec (.packetDiscard h c) s = .next t ∧
      t.rd (Reg.HEAD_DISC h.val) = min (s.rd (Reg.HEAD_DISC h.val) + 1) 0x3FFFF ∧ t.rd (Reg.HEAD_CRC h.val) = crcOf c ∧
      Frame [crcKey, discKey] [] s t) ∧
    (∀ i : Bool, (∃ t, exec (.headerEccError h true i) s = .next t ∧
        t.rd (Reg.HEAD_ECC1 h.val) = min (s.rd (Reg.HEAD_ECC1 h.val) + 1) 0x3FFFF ∧ Frame [ecc1Key] [] s t) ∧
      (∃ t, exec (.headerEccError h false i) s = .next t ∧ (t.head h.val).rx = some { rx with hdr := rx.hdr || i } ∧
        t.rd (Reg.HEAD_ECC2 h.val) = min (s.rd (Reg.HEAD_ECC2 h.val) + 1) 0x3FFFF ∧
        Frame [((Reg.HEAD_ECC2 h.val).key, (Reg.HEAD_ECC2 h.val).key + 1)] [.heads] s t))) ∧
  (∀ (s : State) (h vc : Fin 4) (n : Nat), s.up = true → s.headListens h.val = true → (s.head h.val).rx = none →
    (s.takes h.val vc = true →
      ((s.head h.val).fsSeen = true → ∃ t, exec (.frameStart h vc n) s = .next t ∧ (t.head h.val).rx = none ∧
        (t.head h.val).extra = true ∧ t.rd (Reg.HEAD_EXTRA h.val) = min (s.rd (Reg.HEAD_EXTRA h.val) + 1) 0x3FFFF) ∧
      ((s.head h.val).fsSeen = false → (s.head h.val).neg = none → (s.head h.val).ring.length = s.ringLen h.val →
        ∃ t, exec (.frameStart h vc n) s = .next t ∧ (t.head h.val).fsSeen = true ∧ (t.head h.val).winOpen = false ∧
          (t.head h.val).rx = some
            { frame := s.tick.frame, set := s.rd (Reg.HEAD_CUR_SET h.val)
              gen := BitVec.ofNat 18 (s.rd (Reg.HEAD_GEN h.val)), lines := 0, slot0 := (s.head h.val).ringNext, held := []
              l3 := (s.head h.val).curL3, notsvc := s.headNotSvc h.val, ovr := false, shortline := false, hdr := false
              crc := false, nofe := false, long := false, embedded := none, user := [] } ∧
          Frame [] [.heads] s t) ∧
      ((s.head h.val).neg = some .waitFs → 1 ≤ (s.head h.val).negFt →
        ∃ t, exec (.frameStart h vc n) s = .next t ∧ (t.head h.val).svc = true ∧
          (t.head h.val).neg = none ∧ t.rd (Reg.HEAD_NEG_NSTAT h.val) = Status.OK ∧ t.rd (Reg.HEAD_NEG_NREASON h.val) = 0 ∧
          t.rd (Reg.HEAD_GEN h.val) =
            if (s.head h.val).everNeg then (s.rd (Reg.HEAD_GEN h.val) + 1) % 2 ^ 18 else 0)) ∧
    (s.takes h.val vc = false → ∀ c ∈ [Instr.frameStart h vc n, Instr.frameEnd h vc n],
      ∃ t, exec c s = .next t ∧ t.rd (Reg.HEAD_DISC h.val) = min (s.rd (Reg.HEAD_DISC h.val) + 1) 0x3FFFF ∧
        Frame [((Reg.HEAD_DISC h.val).key, (Reg.HEAD_DISC h.val).key + 1)] [] s t))

/-- R141, R142, R144, Table 7-4: the result of a frame that ends, here of a head without telemetry: DROPPED, SHORT_FRAME,
LONG_FRAME or OK, by the first row that holds; OK and LONG_FRAME put the lines into the raw ring with their tags and request
the burst of the frame, the others have none and change no pixel; the lines of a DROPPED frame are never written. -/
def Obligations.FrameResults : Prop :=
  ∀ (s : State) (h vc : Fin 4) (rx : FrameRx) (n : Nat) (c : Instr), s.up = true → (s.head h.val).rx = some rx →
    s.rd (Reg.HEAD_TLMFPA_EN h.val) = 0 → s.rd (Reg.HEAD_TLMSHT_EN h.val) = 0 → s.rd (Reg.HEAD_TLMSET_EN h.val) = 0 →
    (c = .frameEndTimeout h ∨ (c = .frameEnd h vc n ∧ s.headListens h.val = true ∧ s.takes h.val vc = true ∧
      (s.head h.val).extra = false)) →
    let st := if rx.l3 || rx.notsvc || s.headNotSvc h.val || rx.ovr then Status.DROPPED
      else if decide (rx.lines < s.rd (Reg.HEAD_HEIGHT h.val)) || rx.shortline || rx.hdr || rx.crc || rx.nofe ||
        decide (c = .frameEndTimeout h) then Status.SHORT_FRAME
      else if rx.long then Status.LONG_FRAME else Status.OK
    (∃ t, exec c s = .next t ∧ t.rd (Reg.HEAD_FSTAT_STATUS h.val) = st ∧ (t.head h.val).rx = none ∧
      (t.head h.val).px = (s.head h.val).px ∧ t.rdB (Reg.HEAD_FSTAT_L3 h.val) = rx.l3 ∧
      t.rdB (Reg.HEAD_FSTAT_OVR h.val) = rx.ovr ∧ t.rdB (Reg.HEAD_FSTAT_LONG h.val) = rx.long ∧
      t.rd (Reg.HEAD_FPA h.val) = 0 ∧
      (st = Status.DROPPED → t.rd (Reg.HEAD_DROP h.val) = min (s.rd (Reg.HEAD_DROP h.val) + 1) 0x3FFFF ∧
        (t.head h.val).ring = releaseSlots (s.head h.val).ring (frameTag rx.frame)) ∧
      (st = Status.SHORT_FRAME → t.rd (Reg.HEAD_SHORT h.val) = min (s.rd (Reg.HEAD_SHORT h.val) + 1) 0x3FFFF) ∧
      (st = Status.DROPPED ∨ st = Status.SHORT_FRAME → t.bursts = s.bursts) ∧
      (st = Status.OK ∨ st = Status.LONG_FRAME → rx.frame = (s.head h.val).curFrame → (s.shutHead h.val).startup = false →
        s.cmp.running = none →
        (∃ b, t.bursts.waiting = s.bursts.waiting ++ [b] ∧ b.head = h.val ∧ b.res.frame = rx.frame ∧
          b.res.status = st ∧ b.slot0 = rx.slot0) ∧
        (rx.held.length ≤ (s.head h.val).ring.length → ∀ y px, rx.held[y]? = some px →
          (t.head h.val).ring[(rx.slot0 + y) % (s.head h.val).ring.length]? =
            some (some { tagFrame := frameTag rx.frame, tagLine := y, pixels := px, unread := true }))))

/-- R135, R137 to R140: the steps of a negotiation. An attempt starts with HRST_N low; it is released and the descriptor read; a
refusal takes the port DOWN at once; a link is programmed with the set in force, each register written and read back; a
failure is tried again until the third attempt has failed. -/
def Obligations.Negotiations : Prop :=
  ∀ (s : State) (h : Fin 4), s.up = true →
    ((s.head h.val).neg = some .pending → (s.head h.val).reneg = false →
      ∃ t, exec (.negotiationStart h) s = .next t ∧ (t.head h.val).neg = some .reset ∧ (t.head h.val).hrst = some false ∧
        t.rd (Reg.HEAD_NEG_ATTEMPTS h.val) = min 3 ((s.head h.val).attempt + 1) ∧
        (t.head h.val).attempt = (s.head h.val).attempt + 1) ∧
    ((s.head h.val).neg = some .reset → ∃ t, exec (.hrstRelease h) s = .next t ∧ (t.head h.val).neg = some .wait ∧
      (t.head h.val).hrst = some true ∧ Frame [] [.heads] s t) ∧
    ((s.head h.val).neg = some .wait → s.psp.running = none → s.psp.waiting = [] →
      ∃ t, exec (.hrstwaitExpiry h) s = .next t ∧ (t.head h.val).neg = some .descriptor ∧
        t.psp.running = some (.head h.val)) ∧
    ((s.head h.val).neg = some .waitFs → 2 ≤ (s.head h.val).negFt → ∃ t, exec (.negotiationFsTimeout h) s = .next t ∧
      t.rd (Reg.HEAD_NEG_NSTAT h.val) = Status.TIMEOUT ∧ t.rd (Reg.HEAD_NEG_NREASON h.val) = 4 ∧
      ((s.head h.val).attempt < 3 → (t.head h.val).neg = some .pending) ∧
      (3 ≤ (s.head h.val).attempt → t.blk (.head h) = stDown ∧ t.rd Reg.BOOT_ALERT_SECDOWN = 1 ∧
        (t.head h.val).neg = none)) ∧
    (∀ (bytes : List Byte) (reads : List (BitVec 16)), (s.head h.val).neg = some .descriptor →
      (∀ r, negotiate (s.linkProfile h.val) (parseDesc bytes) = .refuse r →
        ∃ t, exec (.descriptorReadDone h bytes reads) s = .next t ∧
          t.rd (Reg.HEAD_NEG_NSTAT h.val) = Status.REFUSED ∧ t.rd (Reg.HEAD_NEG_NREASON h.val) = r ∧
          t.blk (.head h) = stDown ∧ t.rd Reg.BOOT_ALERT_SECDOWN = 1 ∧ (t.head h.val).svc = false) ∧
      (∀ lanes rate dt, negotiate (s.linkProfile h.val) (parseDesc bytes) = .link lanes rate dt →
        ∃ t, exec (.descriptorReadDone h bytes reads) s = .next t ∧
          t.rd (Reg.HEAD_LINK_LANES h.val) = lanes ∧ t.rd (Reg.HEAD_LINK_RATE h.val) = rate ∧
          t.rd (Reg.HEAD_LINK_DT h.val) = dt ∧
          t.rd (Reg.HEAD_LINK_NEGSRC h.val) = (if (parseDesc bytes).isSome then 1 else 2) ∧
          t.rd (Reg.HEAD_CUR_SET h.val) = (if (s.head h.val).everNeg then s.rd (Reg.HEAD_CUR_SET h.val)
            else s.rd (Reg.HEAD_SETCFG_STARTSET h.val)) ∧
          (∀ d, parseDesc bytes = some d → t.rd (Reg.HEAD_AINT h.val) = d.aint ∧ t.rd (Reg.HEAD_ABIAS h.val) = d.abias ∧
            t.rd (Reg.HEAD_AGAIN h.val) = d.again ∧ t.rd (Reg.HEAD_ALINK h.val) = d.alink) ∧
          (t.head h.val).sent = headRead 0xFF00 :: (progRegs (t.linkWrites h.val lanes rate dt) reads).1 ∧
          ((progRegs (t.linkWrites h.val lanes rate dt) reads).2.1 = true →
            (t.head h.val).neg = some .waitFs ∧ (t.head h.val).negFt = 0) ∧
          ((progRegs (t.linkWrites h.val lanes rate dt) reads).2.1 = false → t.rd (Reg.HEAD_NEG_NSTAT h.val) = Status.FAULT ∧
            t.rd (Reg.HEAD_NEG_NREASON h.val) = 5 ∧ ((s.head h.val).attempt < 3 → (t.head h.val).neg = some .pending) ∧
            (3 ≤ (s.head h.val).attempt → t.blk (.head h) = stDown ∧ (t.head h.val).neg = none))))

/-- R145 to R147: setting changes. COMMIT stages the change for its target, DELAYED where the target's window can no longer be
used; CANCEL takes a pending one back; a change is programmed in its window, each register written and read back, and holds,
or is abandoned with FAULT and the set in force written back; what that leaves unverified is written back again in a later
window; a set register is written directly only for a set that is not in force, and loses its calibration. CSTAGE IDLE after
FAULT is the model's choice (notes/assumptions/111). -/
def Obligations.SettingChanges : Prop :=
  ∀ (s : State) (h : Fin 4), s.up = true → s.headPresent h.val = true →
    (Accepts s (.head h) → s.cstage h.val ≠ Stage.PROGRAMMING → s.rd (Reg.HEAD_NEXTSET_MODIFY h.val) = 0 →
      (s.head h.val).winOpen = false → ∀ n : Nat, ∃ t, exec (.headCommit h n) s = .next t ∧
        (t.head h.val).change = some { target := s.commitTarget h.val, set := s.rd (Reg.HEAD_NEXTSET_SET h.val)
                                       modify := none, ready := false, programmedFor := none, done := false } ∧
        t.cstage h.val = Stage.PENDING ∧
        (s.rd (Reg.HEAD_NEXTSET_TGTAUTO h.val) = 1 → s.commitTarget h.val = s.tick.frame + 2) ∧
        t.rd (Reg.HEAD_NEXTCTL_CSTAT h.val) =
          (if s.commitTarget h.val ≠ s.nextWindow h.val ∧ frameLe (s.commitTarget h.val) (s.nextWindow h.val) = true
            then Status.DELAYED else Status.OK) ∧
        Frame [((Reg.HEAD_NEXTCTL_CSTAT h.val).key, (Reg.HEAD_NEXTCTL_CSTAT h.val).key + 1),
          ((Blk.head h).statusFld.key, (Blk.head h).statusFld.key + 1), (0x2006, 0x2007)] [.heads] s t) ∧
    (Accepts s (.head h) → s.cstage h.val = Stage.PROGRAMMING → ∀ n : Nat, ∃ t, exec (.headCommit h n) s = .next t ∧
      t.rd (Reg.HEAD_NEXTCTL_CSTAT h.val) = Status.BUSY ∧ (t.head h.val).change = (s.head h.val).change) ∧
    (Accepts s (.head h) → ∃ t, exec (.headCancel h) s = .next t ∧
      (s.cstage h.val = Stage.PENDING → t.cstage h.val = Stage.IDLE ∧ (t.head h.val).change = none ∧
        t.rd (Reg.HEAD_NEXTCTL_CSTAT h.val) = Status.OK) ∧
      (s.cstage h.val = Stage.PROGRAMMING → t.rd (Reg.HEAD_NEXTCTL_CSTAT h.val) = Status.BUSY) ∧
      (s.cstage h.val ≠ Stage.PENDING → s.cstage h.val ≠ Stage.PROGRAMMING →
        t.rd (Reg.HEAD_NEXTCTL_CSTAT h.val) = Status.ILLEGAL_STATE) ∧
      Frame [((Reg.HEAD_NEXTCTL_CSTAT h.val).key, (Reg.HEAD_NEXTCTL_CSTAT h.val).key + 1),
        ((Blk.head h).statusFld.key, (Blk.head h).statusFld.key + 1)] [.heads] s t) ∧
    ((s.head h.val).restoring = false →
      (∀ c : SetChange, (s.head h.val).change = some c → s.cstage h.val = Stage.PENDING → c.ready = true →
        (s.head h.val).winOpen = true → (s.head h.val).restore = false → s.psp.running = none → s.psp.waiting = [] →
        ∃ t, exec (.settingProgramStart h) s = .next t ∧ t.cstage h.val = Stage.PROGRAMMING ∧
          t.psp.running = some (.setting h.val) ∧
          (t.head h.val).change = some { c with programmedFor := some (s.nextWindow h.val) }) ∧
      ((s.head h.val).winOpen = true → (s.head h.val).restore = true → (s.head h.val).restoreTried = false →
        (∀ c, (s.head h.val).change = some c → c.programmedFor = none) → s.psp.running = none → s.psp.waiting = [] →
        ∃ t, exec (.settingProgramStart h) s = .next t ∧ (t.head h.val).restoring = true ∧
          (t.head h.val).restoreTried = true ∧ t.psp.running = some (.setting h.val) ∧
          (t.head h.val).change = (s.head h.val).change ∧ Frame [] [.heads, .psp] s t)) ∧
    (∀ reads : List (BitVec 16), s.psp.running = some (.setting h.val) → s.psp.waiting = [] →
      let cur := s.setVals h.val (s.rd (Reg.HEAD_CUR_SET h.val))
      let back := progRegs (s.setWrites h.val cur.1 cur.2.1 cur.2.2)
      ((s.head h.val).restoring = true → ∃ t, exec (.settingProgramDone h reads) s = .next t ∧
        (t.head h.val).restoring = false ∧ (t.head h.val).restore = !(back reads).2.1 ∧
        (t.head h.val).sent = (back reads).1 ∧ t.psp.running = none ∧ Frame [] [.heads, .psp] s t) ∧
      (∀ c : SetChange, (s.head h.val).restoring = false → (s.head h.val).change = some c → c.done = false →
        s.cstage h.val = Stage.PROGRAMMING →
        let v := c.modify.getD (s.setVals h.val c.set)
        let p := progRegs (s.setWrites h.val v.1 v.2.1 v.2.2) reads
        ∃ t, exec (.settingProgramDone h reads) s = .next t ∧ t.psp.running = none ∧
          (p.2.1 = true → (t.head h.val).change = some { c with done := true } ∧ (t.head h.val).sent = p.1 ∧
            t.cstage h.val = Stage.PROGRAMMING ∧ Frame [] [.heads, .psp] s t) ∧
          (p.2.1 = false → (t.head h.val).change = none ∧ (t.head h.val).restore = !(back p.2.2).2.1 ∧
            (t.head h.val).sent = p.1 ++ (back p.2.2).1 ∧ t.cstage h.val = Stage.IDLE ∧
            t.rd (Reg.HEAD_NEXTCTL_CSTAT h.val) = Status.FAULT))) ∧
    (∀ (i : Fin 4) (v : Word), Accepts s (.head h) → v.toNat < 65536 → v.toNat ≠ s.rd (Reg.HEAD_SETINT h.val i.val) →
      (s.unlocked (.head h) = true → i.val ≠ s.rd (Reg.HEAD_CUR_SET h.val) →
        ∃ t, exec (.headSetWrite h (0x020 + 4 * i.val) v) s = .next t ∧ t.rd (Reg.HEAD_SETINT h.val i.val) = v.toNat ∧
          t.rd (Reg.HEAD_SETGAIN_CAL h.val i.val) = 0 ∧ t.rd (Blk.head h).statusFld = Status.OK) ∧
      (i.val = s.rd (Reg.HEAD_CUR_SET h.val) → ∃ t, exec (.headSetWrite h (0x020 + 4 * i.val) v) s = .next t ∧
        t.rd (Blk.head h).statusFld = Status.ILLEGAL_STATE ∧
        Frame [((Blk.head h).statusFld.key, (Blk.head h).statusFld.key + 1)] [] s t))

/-- R72, R73, R85, R111, R114, R123, R340: the first steps of start-up. The sequencer switches its domains ON, locks the PLLs,
shows the variant, reads the fuses and clears the boot alerts; eight equal samples of a strap are its value, and BOOTSEL =
0b11 gives SERVICE_ONLY; each chip of flash reports what its table says, and is read in the first mode of R340 that the
table lists.

R118, R119, R121: the copies. With both headers valid the newer one by 18-bit serial-number order is tried first, copy A
where they are equal or 2^17 apart; an invalid header records its reason; a candidate that is authentic goes on to PLAN; one
that fails records its reason and gives way to the next, and after the last one the device has its status, NOIMAGE, and is
in SERVICE. -/
def Obligations.StartUpAndSelection : Prop :=
  (∀ s : State,
    (s.up = true → s.startReady = true → ∃ t, exec .bootSequencerStart s = .next t ∧
      (∀ d, d = 1 ∨ d = 2 ∨ d = 3 ∨ d = 4 ∨ d = 22 → (t.dom d).st = .on) ∧ t.rd Reg.CLK_STAT_PLLMLK = 1 ∧
      t.rd Reg.CLK_STAT_PLLBLK = 1 ∧ t.rd Reg.SYS_ID0 = s.variant.id0 ∧ t.rd Reg.BOOT_ALERT_SECDOWN = 0 ∧
      t.rd Reg.BOOT_ALERT_FALLBACK = 0 ∧ t.rd Reg.BOOT_ALERT_NOIMAGE = 0 ∧ t.stage = s.stage ∧ t.fuses = s.fuses ∧
      t.boot = { BootState.init with shadow := s.fuses }) ∧
    (s.startReady = false → ∃ t, exec .bootSequencerStart s = .next t ∧ Frame [] [] s t) ∧
    (∀ v : BitVec 4, s.up = true → s.stage = BStage.WAIT_XTAL → s.domOn 1 = true →
      ∃ t, exec (.strapSampling (Vector.replicate 8 v)) s = .next t ∧ t.rd Reg.SYS_STRAP_BOOTSEL = v.toNat % 4 ∧
        t.rd Reg.SYS_STRAP_TRIPSEL = v.toNat / 4 ∧ t.rd Reg.SYS_STRAP_BUNST = 0 ∧ t.rd Reg.SYS_STRAP_TUNST = 0 ∧
        (v.toNat % 4 = 3 → t.stage = BStage.SERVICE_ONLY ∧ t.service = true) ∧
        (v.toNat % 4 ≠ 3 → t.stage = BStage.FLASH)) ∧
    (∀ c0 c1 : Sfdp, s.up = true →
      s.stage = BStage.FLASH ∨ (s.stage = BStage.SERVICE_ONLY ∧ s.rd (Reg.FLW_CHIP_NSTAT 0) = Status.NOT_YET) →
      ∃ t, exec (.flashNegotiation c0 c1) s = .next t ∧
        t.stage = (if s.stage = BStage.SERVICE_ONLY then BStage.SERVICE_ONLY
          else if s.hostBoot then BStage.HOSTWAIT else BStage.SELECT) ∧
        t.rd (Reg.FLW_CHIP_NSTAT 0) = (if c0.capable then Status.OK else Status.CHECK_FAIL) ∧
        t.rd (Reg.FLW_CHIP_NSTAT 1) = (if c1.capable then Status.OK else Status.HOLE) ∧
        (c0.capable = true → t.rd (Reg.FLW_CHIP_MODE 0) = (if s.rd Reg.SYS_STRAP_BOOTSEL = 1 then 0
            else (pickRead c0.reads (c0.quadMethod && c0.quadReadsBack)).mode) ∧
          (t.flash.chips[0]).erases = c0.erases ∧ (t.flash.chips[0]).page = c0.page.getD 256 ∧
          (t.flash.chips[0]).mem = (s.flash.chips[0]).mem) ∧
        (c0.capable = false → t.rd (Reg.FLW_CHIP_MODE 0) = 0 ∧ t.rd (Reg.FLW_CHIP_DENS 0) = 8 ∧
          (t.flash.chips[0]).read = FastRead.plain ∧ (t.flash.chips[0]).erases = [(0, 0x20), (2, 0xD8)]))) ∧
  (∀ s : State, s.up = true →
    (s.stage = BStage.SELECT → s.hostBoot = false → ∃ t, exec .copySelection s = .next t ∧
      match s.header .copyA, s.header .copyB with
      | .ok a, .ok b =>
        let d := (a.seq + 2 ^ 18 - b.seq) % 2 ^ 18
        t.stage = BStage.VERIFY ∧
          (d ≤ 2 ^ 17 → t.boot.order = [.copyA, .copyB] ∧ t.rd Reg.BOOT_NEXTSEQ = (a.seq + 1) % 2 ^ 18) ∧
          (2 ^ 17 < d → t.boot.order = [.copyB, .copyA] ∧ t.rd Reg.BOOT_NEXTSEQ = (b.seq + 1) % 2 ^ 18) ∧
          t.rdB Reg.BOOT_UPD_EQSEQ = (decide (d = 0) || decide (d = 2 ^ 17))
      | .ok _, .error r => t.stage = BStage.VERIFY ∧ t.boot.order = [.copyA] ∧ t.rd Reg.BOOT_UPD_AVALID = 1 ∧
          t.rd Reg.BOOT_UPD_BVALID = 0 ∧ t.rd Reg.BOOT_REASON_RCOPY = 1 ∧ t.rd Reg.BOOT_REASON_REASON = r % 64
      | .error r, .ok _ => t.stage = BStage.VERIFY ∧ t.boot.order = [.copyB] ∧ t.rd Reg.BOOT_UPD_AVALID = 0 ∧
          t.rd Reg.BOOT_UPD_BVALID = 1 ∧ t.rd Reg.BOOT_REASON_RCOPY = 0 ∧ t.rd Reg.BOOT_REASON_REASON = r % 64
      | .error _, .error _ => t.stage = BStage.NOIMAGE ∧ t.rd Reg.BOOT_ALERT_NOIMAGE = 1 ∧ t.service = true ∧
          t.boot.order = []) ∧
    (∀ (src : ImgSrc) (rest : List ImgSrc) (h : Header), s.stage = BStage.VERIFY → s.boot.order = src :: rest →
      s.candHeader src = some h →
      (s.authentic src h = 0 → ∃ t, exec .copyVerify s = .next t ∧ t.stage = BStage.PLAN ∧
        Frame [(0x1000, 0x1001), (0x2006, 0x2007)] [] s t) ∧
      (s.authentic src h ≠ 0 → src ≠ .hostStream → ∃ t, exec .copyVerify s = .next t ∧ t.boot.order = rest ∧
        t.rd Reg.BOOT_REASON_REASON = s.authentic src h ∧
        (rest ≠ [] → t.stage = BStage.VERIFY ∧ t.rd Reg.BOOT_STAT_STATUS = s.rd Reg.BOOT_STAT_STATUS) ∧
        (rest = [] → t.stage = BStage.NOIMAGE ∧ t.rd Reg.BOOT_ALERT_NOIMAGE = 1 ∧ t.service = true ∧
          t.rd Reg.BOOT_STAT_STATUS = reasonStatus (s.authentic src h)))))

/-- R120, R122, R123, Table 6-1 steps 6 to 11: the stages of a full load. A plan whose checks pass leads to CONTROL; at its end
the image in force, its SEQ and its privacy flag are recorded, and the start-up part of ALERT_N is released; after the
imaging sections STATUS tells the outcome. The host clears FALLBACK and SECDOWN by writing 1 to them.

R121, R126, Table 6-16: the host's image stream. BEGIN in HOSTWAIT opens it, with the buffer empty; every word adds two
bytes and counts in units of 256; a word with HFREE at 0 ends the load with OVERRUN, a gap or CANCEL with TIMEOUT, and the
stage returns to HOSTWAIT; a command that nothing waits for is ILLEGAL_STATE. -/
def Obligations.LoadsAndStream : Prop :=
  (∀ (s : State) (src : ImgSrc) (h : Header), s.up = true →
    (∀ (rest : List ImgSrc) (b0 b1 : BusTables), s.stage = BStage.PLAN → s.boot.order = src :: rest →
      s.candHeader src = some h → src ≠ .hostStream →
      ∃ t, exec (.planRead b0 b1) s = .next t ∧
      match s.planCheck src h b0 b1 with
      | .ok x => t.stage = BStage.CONTROL ∧
          t.boot.plan = (sortSecs x.1).map (fun y => (y.2.1.type, y.2.1.unit, y.2.2)) ∧
          Frame [(0x1000, 0x1001), (0x2006, 0x2007)] [.boot] s t
      | .error e => t.boot.order = rest ∧ t.rd Reg.BOOT_REASON_REASON = e.1 % 64 ∧
          (rest ≠ [] → t.stage = BStage.VERIFY ∧ t.rd Reg.BOOT_STAT_STATUS = s.rd Reg.BOOT_STAT_STATUS) ∧
          (rest = [] → t.stage = BStage.NOIMAGE ∧ t.rd Reg.BOOT_STAT_STATUS = reasonStatus e.1)) ∧
    (∀ rest : List ImgSrc, s.stage = BStage.CONTROL → s.boot.order = src :: rest → s.candHeader src = some h →
      ∃ t, exec .controlStage s = .next t ∧ t.stage = BStage.IMAGING ∧ t.rd Reg.BOOT_STAT_COPY = src.code ∧
        t.rd Reg.BOOT_SEQ = h.seq % 2 ^ 18 ∧ t.boot.inForce = some (src, h) ∧ t.boot.loading = false ∧
        t.boot.privImg = h.privlock ∧ t.boot.imaged = false) ∧
    (s.stage = BStage.IMAGING → s.boot.imaged = false → s.boot.inForce = some (src, h) → src ≠ .hostStream →
      ∃ t, exec .imagingStage s = .next t ∧ t.boot.imaged = true ∧ t.boot.plan = [] ∧
        (t.rd Reg.BOOT_STAT_STATUS = Status.OK ∨ t.rd Reg.BOOT_STAT_STATUS = Status.EQUAL_SEQ)) ∧
    (∀ v : Word, Accepts s .boot → ∃ t, exec (.bootAlertClear v) s = .next t ∧
      t.rd Reg.BOOT_ALERT_SECDOWN = (if bitsOf v.toNat 2 2 = 1 then 0 else s.rd Reg.BOOT_ALERT_SECDOWN) ∧
      t.rd Reg.BOOT_ALERT_FALLBACK = (if bitsOf v.toNat 1 1 = 1 then 0 else s.rd Reg.BOOT_ALERT_FALLBACK) ∧
      t.rd Reg.BOOT_ALERT_NOIMAGE = s.rd Reg.BOOT_ALERT_NOIMAGE ∧ t.rd Blk.boot.statusFld = Status.OK ∧
      Frame [(0x1009, 0x100A), (0x13FE, 0x13FF)] [] s t)) ∧
  (∀ s : State, Accepts s .boot →
    (s.unlocked .boot = true → s.stage = BStage.HOSTWAIT → ∃ t, exec .hostBegin s = .next t ∧ t.stage = BStage.SELECT ∧
      t.boot.stream = [] ∧ t.boot.streamOpen = true ∧ t.rd Reg.BOOT_HCNT = 0 ∧ t.rd Reg.BOOT_HCTL_HFREE = 0x800 ∧
      t.rd Blk.boot.statusFld = Status.OK) ∧
    (s.unlocked .boot = true → s.stage ≠ BStage.HOSTWAIT → s.boot.reload = none → ∃ t, exec .hostBegin s = .next t ∧
      t.rd Blk.boot.statusFld = Status.ILLEGAL_STATE ∧ Frame [(0x13FE, 0x13FF)] [] s t) ∧
    (s.unlocked .boot = true → s.boot.streamOpen = false → s.boot.reload = none → ∃ t, exec .hostCancel s = .next t ∧
      t.rd Blk.boot.statusFld = Status.ILLEGAL_STATE ∧ Frame [(0x13FE, 0x13FF)] [] s t) ∧
    (∀ c : Instr, (c = .hostCancel ∧ s.unlocked .boot = true) ∨ (c = .hostStreamTimeout ∧ s.streamFull = false) →
      s.hostLoading = true → ∃ t, exec c s = .next t ∧ t.stage = BStage.HOSTWAIT ∧ t.boot.streamOpen = false ∧
        t.rd Reg.BOOT_STAT_STATUS = Status.TIMEOUT ∧ t.rd Reg.BOOT_REASON_REASON = Reason.HOST_TIMEOUT) ∧
    (s.boot.streamOpen = false → s.boot.reload = none → ∃ t, exec .hostStreamTimeout s = .next t ∧ Frame [] [] s t) ∧
    (∀ v : Word,
      (s.boot.streamOpen = false → ∃ t, exec (.hostStreamWrite v) s = .next t ∧ Frame [] [] s t) ∧
      (s.boot.streamOpen = true → s.streamFull = false → s.rd Reg.BOOT_HCTL_HFREE ≠ 0 →
        ∃ t, exec (.hostStreamWrite v) s = .next t ∧
          t.boot.stream = s.boot.stream ++ [BitVec.ofNat 8 v.toNat, BitVec.ofNat 8 (v.toNat / 256)] ∧
          t.rd Reg.BOOT_HCNT = min (2 ^ 18 - 1) ((s.boot.stream.length + 2) / 256) ∧
          Frame [(0x1007, 0x1009)] [.boot, .freeCtr] s t) ∧
      (s.hostLoading = true → s.streamFull = false → s.rd Reg.BOOT_HCTL_HFREE = 0 →
        ∃ t, exec (.hostStreamWrite v) s = .next t ∧ t.stage = BStage.HOSTWAIT ∧
          t.rd Reg.BOOT_STAT_STATUS = Status.OVERRUN ∧ t.boot.streamOpen = false)))

/-- R125, R127, R128, Tables 6-14 and 6-15: a partial reload. START is answered by the first of its checks that fails, and turns
to VERIFY when none does; a section that fails a later check leaves its owner as it was; else the owner drains, a cluster at
the next ST edge; when the section has been written the reload is over, a cluster returning at an ST edge of its own; one
that fails in LOADING is followed by RESTORE, at whose end the reload tells the failure. -/
def Obligations.PartialReloads : Prop :=
  ∀ s : State, s.up = true →
    (Accepts s .boot →
      let ty := s.rd Reg.BOOT_RLSEL_TYPE
      let u := s.rd Reg.BOOT_RLSEL_UNIT
      let src := imgSrcOf (s.rd Reg.BOOT_RLSEL_SRC)
      (s.unlocked .boot = false → ∃ t, exec .reloadStart s = .next t ∧ t.rd Blk.boot.statusFld = Status.ILLEGAL_STATE ∧
        Frame [(0x13FE, 0x13FF)] [] s t) ∧
      (s.unlocked .boot = true → (s.reloadFirst ty u src).1 = Status.OK → ∃ t, exec .reloadStart s = .next t ∧
        t.rlStage = RStage.VERIFY ∧ t.boot.reload = some (ty, u, src) ∧ t.rd Blk.boot.statusFld = Status.OK) ∧
      (s.unlocked .boot = true → s.boot.reload = none → (s.reloadFirst ty u src).1 ≠ Status.OK →
        ∃ t, exec .reloadStart s = .next t ∧ t.rlStage = RStage.IDLE ∧ t.boot.reload = none ∧
          t.rd Reg.BOOT_RLCTL_RLSTATUS = (s.reloadFirst ty u src).1 ∧
          t.rd Blk.boot.statusFld = (s.reloadFirst ty u src).1) ∧
      (s.unlocked .boot = true → s.stage = BStage.RUN → s.service = false → s.boot.reload.isSome = true →
        ∃ t, exec .reloadStart s = .next t ∧ t.rd Blk.boot.statusFld = Status.BUSY ∧ Frame [(0x13FE, 0x13FF)] [] s t)) ∧
    (∀ (ty u : Nat) (src : ImgSrc) (b : BusTables), s.boot.reload = some (ty, u, src) → src ≠ .hostStream →
      s.rlStage = RStage.VERIFY → s.chipBusy 0 = false →
      ∃ t, exec (.reloadChecksDone b) s = .next t ∧
      match s.reloadChecks ty u src b with
      | .error e => t.rlStage = RStage.IDLE ∧ t.boot.reload = none ∧ t.rd Reg.BOOT_RLCTL_RLSTATUS = reasonStatus e.1 ∧
          t.loops = s.loops ∧ t.heads = s.heads ∧ t.points = s.points
      | .ok c => t.boot.reloadIdx = c.1 ∧ t.boot.reloadData = c.2 ∧ t.boot.reload = s.boot.reload ∧
          (ty = 0x07 → t.rlStage = RStage.CHECK) ∧
          (ty = 0x05 → s.works .act = true → t.rlStage = RStage.DRAIN ∧ t.eng .act = stDrain) ∧
          (ty = 0x05 → s.eng .act = stDown → t.rlStage = RStage.LOADING ∧ t.eng .act = stLoading)) ∧
    (∀ (u : Fin 2) (src : ImgSrc), s.boot.reload = some (0x07, u.val, src) → s.rlStage = RStage.CHECK →
      ∃ t, exec .clusterReloadDrain s = .next t ∧ t.eng (.ctl u) = stLoading ∧ t.rlStage = RStage.LOADING ∧
        t.boot = s.boot) ∧
    (∀ (ty u : Nat) (src : ImgSrc), s.boot.reload = some (ty, u, src) → s.loaderRuns ty u src = true →
      (s.rlStage = RStage.LOADING → ty ≠ 0x07 → s.boot.reloadFail = none → ∀ x, s.reloadWrite ty u src = .ok x →
        ∃ t, exec (.reloadLoadDone true) s = .next t ∧ t.rlStage = RStage.IDLE ∧ t.boot.reload = none ∧
          t.boot.reloadData = [] ∧ t.rd Reg.BOOT_RLCTL_RLSTATUS = Status.OK) ∧
      (s.rlStage = RStage.LOADING → ∀ k : Bool, (k = false ∨ ∃ r, s.reloadWrite ty u src = .error r) →
        ∃ t, exec (.reloadLoadDone k) s = .next t ∧ t.rlStage = RStage.RESTORE ∧ t.boot.reload = s.boot.reload ∧
          t.boot.reloadFail.isSome = true ∧ t.loops = s.loops ∧ t.points = s.points ∧ t.heads = s.heads) ∧
      (s.rlStage = RStage.RESTORE → ty ≠ 0x07 → ∀ (k : Bool) (r : Nat), s.boot.reloadFail = some r →
        ∃ t, exec (.reloadLoadDone k) s = .next t ∧ t.rlStage = RStage.IDLE ∧ t.boot.reload = none ∧
          t.rd Reg.BOOT_RLCTL_RLSTATUS = reasonStatus r)) ∧
    (∀ c : Fin 2, s.boot.clusterIn = [c.val] → ∃ t, exec .clusterReturn s = .next t ∧ t.boot.clusterIn = [] ∧
      t.eng (.ctl c) = stInService ∧
      (∀ src, s.boot.reload = some (0x07, c.val, src) → t.rlStage = RStage.IDLE ∧ t.boot.reload = none))

/-- R29, R222, R223, R226 to R239, R243: one evaluation of a loop that is due, once no slot of its cluster with a lower number
waits. In AUTO with every input accepted the law of R229 to R233 gives the output, or that of R238 at the first evaluation;
in MANUAL the output is MOUT within its limits; with an input not accepted the evaluation is missed and the history stays.
The output waits for the next ST edge. In a cluster under reload it is missed with MISSIN 3. A slot that is not due, or
whose turn has not come, is left alone. -/
def Obligations.LoopEvaluations : Prop :=
  ∀ (s : State) (l : Fin 512) (x : LoopSt), s.up = true → assocGet s.loops l.val = some x →
    let c := s.coef l.val
    let sp := s.readInput l.val 0
    let pv := s.readInput l.val 1
    let ff := s.readInput l.val 2
    let e := sat18s (sp.x - pv.x)
    let h := if x.mark then initHist c x.hist e else x.hist
    let sat := Reg.CTL_SSTAT_SAT (l.val / 256) (l.val % 256)
    let satdir := Reg.CTL_SSTAT_SATDIR (l.val / 256) (l.val % 256)
    (s.loopDue l.val = true → x.evaluated = false → s.loopTurn l.val = true → s.clusterWorks (l.val / 256) = true →
      (s.lstate l.val = LState.AUTO → (sp.ok && pv.ok && ff.ok) = true →
        let o := if x.preset = .none then lawStep c h e ff.x (s.rdB sat) (s.rdB satdir)
          else (lawPreset c h e ff.x (s.presetValue l.val c)).1
        ∃ t, exec (.loopEvaluation l) s = .next t ∧ (t.loop l.val).hist = o.hist ∧
          (t.loop l.val).out = some (BitVec.ofNat 18 (ofSigned 18 o.u)) ∧ (t.loop l.val).evaluated = true ∧
          (t.loop l.val).preset = .none ∧ t.rd (Reg.CTL_OUT l.val) = ofSigned 18 o.u % 2 ^ 18 ∧ t.rdB sat = o.sat ∧
          t.rdB satdir = o.satHi ∧ t.rd (Reg.CTL_SSTAT_MISSED (l.val / 256) (l.val % 256)) = 0 ∧
          t.rd (Reg.CTL_SSTAT_CMISS (l.val / 256) (l.val % 256)) = 0 ∧ t.points = s.points) ∧
      (s.lstate l.val = LState.AUTO → (sp.ok && pv.ok && ff.ok) = false →
        ∃ t, exec (.loopEvaluation l) s = .next t ∧ (t.loop l.val).hist = x.hist ∧ (t.loop l.val).out = none ∧
          (t.loop l.val).hold = true ∧ t.rd (Reg.CTL_SSTAT_MISSED (l.val / 256) (l.val % 256)) = 1 ∧
          t.rd (Reg.CTL_SSTAT_MISSIN (l.val / 256) (l.val % 256)) = (if !sp.ok then 0 else if !pv.ok then 1 else 2) ∧
          t.rd (Reg.CTL_OUT l.val) = s.rd (Reg.CTL_OUT l.val) ∧
          t.rd (Reg.CTL_TMISS (l.val / 256)) = min (s.rd (Reg.CTL_TMISS (l.val / 256)) + 1) 0x3FFFF) ∧
      (s.lstate l.val = LState.MANUAL → ∃ t, exec (.loopEvaluation l) s = .next t ∧
        let u := limitOut c (s.rdS (Reg.CTL_MOUT l.val))
        (t.loop l.val).out = some (BitVec.ofNat 18 (ofSigned 18 u)) ∧ t.rd (Reg.CTL_OUT l.val) = ofSigned 18 u % 2 ^ 18 ∧
          t.rdB sat = decide (u ≠ s.rdS (Reg.CTL_MOUT l.val)))) ∧
    (s.loopWaits l.val = true → s.loopTurn l.val = true → s.clusterWorks (l.val / 256) = false →
      (∃ src, s.boot.reload = some (0x07, l.val / 256, src)) → ∃ t, exec (.loopEvaluation l) s = .next t ∧
        t.rd (Reg.CTL_SSTAT_MISSIN (l.val / 256) (l.val % 256)) = 3 ∧ (t.loop l.val).hist = x.hist ∧
        t.rd (Reg.CTL_SSTAT_MISSED (l.val / 256) (l.val % 256)) = 1) ∧
    (s.loopDue l.val = false ∨ s.lstate l.val = LState.OFF ∨ s.lstate l.val = LState.OPEN ∨
      s.lstate l.val = LState.TRIPPED ∨ s.loopTurn l.val = false → ∃ t, exec (.loopEvaluation l) s = .next t ∧ Frame [] [] s t)

/-- R54, R234, R235, R246, Table 11-2: a command for the selected slot is judged at once and waits for the next ST edge; the
slot's state does not change before. One that Table 11-2 does not list for the state is ILLEGAL_STATE, one for a slot that
is not configured BAD_ARG. -/
def Obligations.LoopCommands : Prop :=
  ∀ (s : State) (c : Fin 2) (i : Instr) (k : LoopCmd), Accepts s (.ctl c) → s.unlocked (.ctl c) = true →
    (i = .ctlOff c ∧ k = .off) ∨ (i = .ctlOpen c ∧ k = .open') ∨ (i = .ctlManual c ∧ k = .manual) ∨
      (i = .ctlAuto c ∧ k = .auto) ∨ (i = .ctlReset c ∧ k = .reset) →
    let l := 256 * c.val + s.rd (Reg.CTL_SSEL c.val)
    let cmdReg := (Reg.CTL_SCMD_CSTAT c.val).key
    let resReg := (Blk.ctl c).statusFld.key
    (∀ x, assocGet s.loops l = some x → s.service = false → loopAllowed (s.lstate l) k = true →
      ∃ t, exec i s = .next t ∧ t.loop l = { x with cmd := some k } ∧ t.lstate l = s.lstate l ∧
        t.rd (Reg.CTL_SCMD_CSTAT c.val) = Status.OK ∧ t.rd (Reg.CTL_SCMD_CSLOT c.val) = s.rd (Reg.CTL_SSEL c.val) ∧
        t.rd (Blk.ctl c).statusFld = Status.OK ∧ Frame [(cmdReg, cmdReg + 1), (resReg, resReg + 1)] [.loops] s t) ∧
    (s.configured l = true → loopAllowed (s.lstate l) k = false → ∃ t, exec i s = .next t ∧
      t.rd (Reg.CTL_SCMD_CSTAT c.val) = Status.ILLEGAL_STATE ∧ t.rd (Blk.ctl c).statusFld = Status.ILLEGAL_STATE ∧
      Frame [(cmdReg, cmdReg + 1), (resReg, resReg + 1)] [] s t) ∧
    (s.configured l = false → ∃ t, exec i s = .next t ∧ t.rd (Reg.CTL_SCMD_CSTAT c.val) = Status.BAD_ARG ∧
      Frame [(cmdReg, cmdReg + 1), (resReg, resReg + 1)] [] s t)

/-- R264, R265, Table 12-5: ARM of an idle or done unit empties its ring; TRIGGER of an armed one makes its next entry the
trigger entry; STOP ends a capture short; each is ILLEGAL_STATE elsewhere. A write to TRC_RSEL copies one entry, or tells
HOLE or BUSY.

R252 to R256: a profile generator in motion that is due makes the step of R254 towards its target, where its 48 bits hold
the result; its output waits for the next ST edge. In SERVICE it does not step: at the due time its output has no result.
SYNC and PRESET wait for its next step; SYNC is ILLEGAL_STATE in WAIT. -/
def Obligations.TracesAndProfiles : Prop :=
  (∀ s : State, Accepts s .trc →
    (∀ u : Fin 4, s.unlocked .trc = true →
      let idle := s.traceState u.val = TState.IDLE ∨ s.traceState u.val = TState.DONE
      (idle → ∃ t, exec (.traceArm u) s = .next t ∧ t.traceState u.val = TState.ARMED ∧ (t.trace u.val).ring = [] ∧
        (t.trace u.val).cmdTrig = false ∧ t.rd (Reg.TRC_STAT_COUNT u.val) = 0 ∧ t.rd (Reg.TRC_STAT_TRIGD u.val) = 0 ∧
        t.rd (Reg.TRC_STAT_SHORT u.val) = 0 ∧ t.rd (Reg.TRC_CMD_CSTAT u.val) = Status.OK ∧
        Frame [Blk.range .trc] [.traces] s t) ∧
      (¬ idle → ∃ t, exec (.traceArm u) s = .next t ∧ t.rd (Reg.TRC_CMD_CSTAT u.val) = Status.ILLEGAL_STATE ∧
        t.traces = s.traces ∧ t.traceState u.val = s.traceState u.val) ∧
      (s.traceState u.val = TState.ARMED → ∃ t, exec (.traceTrigger u) s = .next t ∧
        t.trace u.val = { s.trace u.val with cmdTrig := true } ∧ t.traceState u.val = TState.ARMED ∧
        t.rd (Reg.TRC_CMD_CSTAT u.val) = Status.OK) ∧
      (idle → ∃ t, exec (.traceTrigger u) s = .next t ∧ t.rd (Reg.TRC_CMD_CSTAT u.val) = Status.ILLEGAL_STATE ∧
        t.traces = s.traces) ∧
      (¬ idle → ∃ t, exec (.traceStop u) s = .next t ∧ t.traceState u.val = TState.DONE ∧
        t.rd (Reg.TRC_STAT_SHORT u.val) = 1 ∧ t.rd (Reg.TRC_CMD_CSTAT u.val) = Status.OK) ∧
      (idle → ∃ t, exec (.traceStop u) s = .next t ∧ t.rd (Reg.TRC_CMD_CSTAT u.val) = Status.ILLEGAL_STATE ∧
        t.traces = s.traces ∧ t.traceState u.val = s.traceState u.val)) ∧
    (∀ v : Word,
      let u := bitsOf v.toNat 13 12
      let i := bitsOf v.toNat 11 0
      let busy := s.traceState u = TState.ARMED ∨ s.traceState u = TState.TRIGGERED
      ∃ t, exec (.trcRselWrite v) s = .next t ∧ t.rd Reg.TRC_RSEL_UNIT = u ∧ t.rd Reg.TRC_RSEL_INDEX = i ∧
        (busy → t.rd Reg.TRC_RFLAG_RSTAT = Status.BUSY) ∧
        (¬ busy → s.rd (Reg.TRC_STAT_COUNT u) ≤ i → t.rd Reg.TRC_RFLAG_RSTAT = Status.HOLE) ∧
        (∀ e, ¬ busy → i < s.rd (Reg.TRC_STAT_COUNT u) → (s.trace u).ring[i]? = some e →
          t.rd Reg.TRC_RFLAG_RSTAT = Status.OK ∧ t.rd (Reg.TRC_RD 0) = e.n0.toNat ∧ t.rd (Reg.TRC_RD 1) = e.n1.toNat ∧
          t.rd (Reg.TRC_RD 2) = e.n2.toNat ∧ t.rd (Reg.TRC_RD 3) = e.n3.toNat ∧ t.rdB Reg.TRC_RFLAG_MISS = e.miss) ∧
        Frame [Blk.range .trc] [] s t)) ∧
  (∀ s : State,
    (∀ (g : Fin 64) (x : PrfSt) (tgt : Int), s.up = true → s.eng .prf = stInService → assocGet s.prfs g.val = some x →
      x.out = none → x.cmd = none → s.prfDue g.val = true → s.rd (Reg.PRF_STAT_GSTATE g.val) ≠ GState.WAIT →
      s.prfTarget g.val = some tgt →
      let o := prfStep x.p.toInt x.v.toInt x.a.toInt (tgt * 2 ^ 24) (s.rd (Reg.PRF_VMAX g.val) * 2 ^ 16)
        (s.rd (Reg.PRF_AMAX g.val) * 2 ^ 8) (s.rd (Reg.PRF_JMAX g.val))
      (fits48 o.p && fits48 o.v && fits48 o.a) = true →
      ∃ t, exec (.profileStep g) s = .next t ∧ (t.prf g.val).p.toInt = o.p ∧ (t.prf g.val).v.toInt = o.v ∧
        (t.prf g.val).a.toInt = o.a ∧ (t.prf g.val).target = some tgt ∧ (t.prf g.val).out = some (BitVec.ofNat 18
          (ofSigned 18 (prfOutput o.p (s.prfFormat g.val == .frac)))) ∧ t.rd (Reg.PRF_STAT_TSTALE g.val) = 0 ∧
        t.rd (Reg.PRF_STAT_GSTATE g.val) = (if tgt * 2 ^ 24 = o.p ∧ o.v = 0 ∧ o.a = 0 then GState.AT_TARGET
          else GState.MOVING) ∧
        Frame [((Reg.PRF_STAT_GSTATE g.val).key, (Reg.PRF_STAT_GSTATE g.val).key + 1)] [.prfs] s t) ∧
    (∀ (g : Fin 64) (x : PrfSt) (p : Point), s.up = true → s.eng .prf = stService → assocGet s.prfs g.val = some x →
      x.out = none → s.prfDue g.val = true → s.point (s.rd (Reg.PRF_OUT g.val)) = some p → p.source = .prf g.val →
      ∃ t, exec (.profileStep g) s = .next t ∧ t.point (s.rd (Reg.PRF_OUT g.val)) = some (p.trig .noResult) ∧
        Frame [] [.points] s t) ∧
    (∀ x : PrfSt, Accepts s .prf → s.unlocked .prf = true → assocGet s.prfs (s.rd Reg.PRF_GSEL) = some x →
      (s.rd (Reg.PRF_STAT_GSTATE (s.rd Reg.PRF_GSEL)) ≠ GState.WAIT → ∃ t, exec .prfSync s = .next t ∧
        t.prf (s.rd Reg.PRF_GSEL) = { x with cmd := some none } ∧ t.rd Reg.PRF_CMD_CSTAT = Status.OK ∧
        Frame [(0x6E01, 0x6E02), (0x6FFE, 0x6FFF)] [.prfs] s t) ∧
      (s.rd (Reg.PRF_STAT_GSTATE (s.rd Reg.PRF_GSEL)) = GState.WAIT → ∃ t, exec .prfSync s = .next t ∧
        t.rd Reg.PRF_CMD_CSTAT = Status.ILLEGAL_STATE ∧ Frame [(0x6E01, 0x6E02), (0x6FFE, 0x6FFF)] [] s t) ∧
      (∃ t, exec .prfPreset s = .next t ∧ t.prf (s.rd Reg.PRF_GSEL) =
          { x with cmd := some (some (formatValue (s.prfFormat (s.rd Reg.PRF_GSEL))
            (BitVec.ofNat 18 (s.rd Reg.PRF_PVAL)))) } ∧
        t.rd Reg.PRF_CMD_CSTAT = Status.OK ∧ Frame [(0x6E01, 0x6E02), (0x6FFE, 0x6FFF)] [.prfs] s t)))

/-- R266 to R269: the RTC counts a second, or takes the count that was committed, which makes it valid; an enabled schedule
without an override then writes its value when it changes. RTC0 stages the low part, RTC1 commits both, its bits 17:14
ignored. OVRCLR ends an override. -/
def Obligations.Schedules : Prop :=
  ∀ s : State,
    (s.rtcRuns = true → ∃ t, exec .rtcSecond s = .next t ∧
      (∀ c, s.rtc.pend = some c → t.rtc = { s.rtc with sec := c, tvalid := true, pend := none }) ∧
      (s.rtc.pend = none → t.rtc.sec = s.rtc.sec + 1 ∧ t.rtc.tvalid = (s.rtc.tvalid && s.rtc.sec != BitVec.allOnes 32)) ∧
      (∀ k : Fin 64, s.up = true → s.works .sched = true → s.rd (Reg.SCH_CFG_EN k.val) = 1 → s.rd (Reg.SCH_CFG_OVREN k.val) = 0 →
        (s.power.doms[22]).st = .on →
        let out := if t.rtc.tvalid then scheduledValue (s.dayPrograms k.val) (s.exceptions k.val)
            (BitVec.ofNat 18 (s.rd (Reg.SCH_DEFAULT k.val))) t.rtc.sec.toNat
          else BitVec.ofNat 18 (s.rd (Reg.SCH_DEFAULT k.val))
        (s.sched k.val).lastVal ≠ some out → t.rd (Reg.SCH_VAL k.val) = out.toNat ∧
          (t.sched k.val).lastVal = some out ∧ t.rd (Reg.SCH_STAT_OVR k.val) = 0)) ∧
    (Accepts s .sched → s.unlocked .sched = true →
      (∀ v : Word, (∃ t, exec (.schedRtcStage v) s = .next t ∧ t.rtc = { s.rtc with staged := some v } ∧
          t.rd Blk.sched.statusFld = Status.OK ∧ Frame [(0x97FE, 0x97FF)] [.rtc] s t) ∧
        (∀ w, s.rtc.staged = some w → ∃ t, exec (.schedRtcCommit v) s = .next t ∧
          t.rtc = { s.rtc with staged := none, pend := some (BitVec.ofNat 32 (w.toNat + 2 ^ 18 * (v.toNat % 2 ^ 14))) } ∧
          t.rd Blk.sched.statusFld = Status.OK ∧ Frame [(0x97FE, 0x97FF)] [.rtc] s t)) ∧
      (∃ t, exec .schedOvrclr s = .next t ∧ (t.sched (s.rd Reg.SCHED_SSEL)).ovr = false ∧
        t.rd (Reg.SCH_STAT_OVR (s.rd Reg.SCHED_SSEL)) = 0 ∧ t.rd Blk.sched.statusFld = Status.OK))

/-- R171, R173, Tables 9-1 and 9-2: RECAL of an idle head is pending from now on, OK or DELAYED by TMIN; ABORT of a
recalibration that has averaged nothing yet opens the shutter with STATUS DOWN, one that has averaged a frame keeps what it
has as PARTIAL, with its clip count; each is ILLEGAL_STATE elsewhere. ELAPSED counts seconds once it counts.

R188, R192: at CRTIME minutes after midnight the cruise begins to survey the configured heads in ascending order, and at no
other time; the results of a head take effect together at the end of its survey, which does not end while the cruise pauses;
a survey that has not ended in its day ends with TIMEOUT and none of its results. -/
def Obligations.ShutterAndCruise : Prop :=
  (∀ (s : State) (h : Fin 4),
    (Accepts s .shut → s.unlocked .shut = true →
      (s.phase h.val = Phase.IDLE ∨ (s.shutHead h.val).cmd = true → ∃ t, exec (.shutRecal h) s = .next t ∧
        (t.shutHead h.val) = { s.shutHead h.val with cmd := true } ∧
        t.rd (Reg.SHUT_CMD_CSTAT h.val) = (if s.rd (Reg.SHUT_TMIN h.val) ≤ s.rd (Reg.SHUT_ELAPSED h.val) then Status.OK
          else Status.DELAYED) ∧
        Frame [((Reg.SHUT_CMD_CSTAT h.val).key, (Reg.SHUT_CMD_CSTAT h.val).key + 1), (0x53FE, 0x53FF)] [.shut] s t) ∧
      (s.phase h.val ≠ Phase.IDLE → (s.shutHead h.val).cmd = false → ∃ t, exec (.shutRecal h) s = .next t ∧
        t.rd (Reg.SHUT_CMD_CSTAT h.val) = Status.ILLEGAL_STATE ∧
        Frame [((Reg.SHUT_CMD_CSTAT h.val).key, (Reg.SHUT_CMD_CSTAT h.val).key + 1), (0x53FE, 0x53FF)] [] s t) ∧
      (∀ r : Recal, (s.shutHead h.val).recal = some r →
        s.phase h.val = Phase.CLOSING ∨ s.phase h.val = Phase.SETTLE1 ∨ s.phase h.val = Phase.AVERAGE →
        ∃ t, exec (.shutAbort h) s = .next t ∧ t.phase h.val = Phase.OPENING ∧
          t.rd (Reg.SHUT_CMD_CSTAT h.val) = Status.OK ∧
          (r.k = 0 → t.rd (Reg.SHUT_STAT_STATUS h.val) = Status.DOWN ∧ t.rd (Reg.SHUT_STAT_PARTIAL h.val) = 0 ∧
            (t.shutHead h.val).final = (s.shutHead h.val).final) ∧
          (0 < r.k → t.rd (Reg.SHUT_STAT_STATUS h.val) = Status.OK ∧ t.rd (Reg.SHUT_STAT_PARTIAL h.val) = 1 ∧
            t.rd (Reg.SHUT_CLIP h.val) = min (2 ^ 18 - 1) (r.clipped.length / 16) ∧
            ∃ f, (t.shutHead h.val).final = some f ∧ f.k = r.k ∧ f.start = r.start)) ∧
      (s.phase h.val = Phase.IDLE ∨ s.phase h.val = Phase.OPENING ∨ s.phase h.val = Phase.SETTLE2 →
        ∃ t, exec (.shutAbort h) s = .next t ∧ t.rd (Reg.SHUT_CMD_CSTAT h.val) = Status.ILLEGAL_STATE ∧
          Frame [((Reg.SHUT_CMD_CSTAT h.val).key, (Reg.SHUT_CMD_CSTAT h.val).key + 1), (0x53FE, 0x53FF)] [] s t)) ∧
    (s.up = true → ∃ t, exec (.elapsedTick h) s = .next t ∧ t.rd (Reg.SHUT_ELAPSED h.val) =
      (if (s.shutHead h.val).counting then min (s.rd (Reg.SHUT_ELAPSED h.val) + 1) 0x3FFFF
       else s.rd (Reg.SHUT_ELAPSED h.val)) ∧
      Frame [((Reg.SHUT_ELAPSED h.val).key, (Reg.SHUT_ELAPSED h.val).key + 1)] [] s t)) ∧
  ((∀ s : State, s.up = true → s.rd Reg.SHUT_CRCFG_EN = 1 → s.works .shut = true → s.cruise.head = none →
    s.rtc.sec.toNat % 86400 = 60 * s.rd Reg.SHUT_CRCFG_CRTIME →
    ∃ t, exec .cruiseStart s = .next t ∧ t.cruise.head = s.cruiseHead 0 ∧
      t.rdB Reg.SHUT_CRSTAT_RUN = (s.cruiseHead 0).isSome ∧ (∀ h, s.cruiseHead 0 = some h → t.rd Reg.SHUT_CRSTAT_HEAD = h) ∧
      Frame [(0x5001, 0x5002)] [.cruise] s t) ∧
  (∀ s : State, s.rtc.sec.toNat % 86400 ≠ 60 * s.rd Reg.SHUT_CRCFG_CRTIME → ∃ t, exec .cruiseStart s = .next t ∧ Frame [] [] s t) ∧
  (∀ (s : State) (h : Fin 4), s.up = true → s.cruise.head = some h.val →
    (s.rd Reg.THM_STAT_LEVEL = 0 → s.inRecal h.val = false → s.pxBusy h.val = false → s.cmp.running = none →
      ∃ t, exec (.cruiseSurveyEnd h) s = .next t ∧ (t.head h.val).px = (runCruise (s.cruiseIn h.val)).px ∧
        t.cruise.head = s.cruiseHead (h.val + 1) ∧
        t.rd Reg.SHUT_CRSTAT_STATUS = (if (runCruise (s.cruiseIn h.val)).implausible then Status.IMPLAUSIBLE else Status.OK) ∧
        t.rd (Reg.SHUT_NEWSNAG h.val) = min (2 ^ 18 - 1) (runCruise (s.cruiseIn h.val)).newSnags ∧
        (∀ g : Fin 4, g ≠ h → t.head g.val = s.head g.val)) ∧
    (s.rd Reg.THM_STAT_LEVEL ≠ 0 ∨ s.inRecal h.val = true → ∃ t, exec (.cruiseSurveyEnd h) s = .next t ∧ Frame [] [] s t) ∧
    (∃ t, exec .cruiseTimeout s = .next t ∧ t.cruise.head = none ∧ t.rd Reg.SHUT_CRSTAT_STATUS = Status.TIMEOUT ∧
      t.rd Reg.SHUT_CRSTAT_RUN = 0 ∧ Frame [(0x5001, 0x5002)] [.cruise] s t)))

/-- The register file keeps its canonical form (keys strictly rising, no entry at its Reset value) through every step, whatever
the command and whatever else the state holds: equal register files are equal data. -/
def Obligations.RegistersStayCanonical : Prop :=
  ∀ s t : State, RegsCanonical s → step s = .next t → RegsCanonical t

/-- R390: a programmed fuse stays programmed. No step, whatever its command, makes a fuse bit that is 1 read 0 again; a command
that is no LOCK, from the console or as a console line, changes no fuse at all; and no command touches the queue. -/
def Obligations.FusesOnlyGrow : Prop :=
  (∀ (s t : State), step s = .next t → ∀ b, s.fuseBit b = true → t.fuseBit b = true) ∧
  (∀ (c : Instr) (s t : State), exec c s = .next t → t.pending = s.pending ∧
    ((∀ r, c ≠ .lockDbg r) → (∀ r, c ≠ .lockPriv r) → (∀ k r, c ≠ .lockKey k r) → (∀ l, c ≠ .consoleLine l) →
      t.fuses = s.fuses))

/-- R86: the domains of fused-off engines are always OFF, and PWR_DSTAT reports them with FUSED set. They are D7, D8, D12, D13
and D26 on the SLZ4840, D6 to D8, D11 to D13 and D26 on the SLZ4820; the slices D14 to D21 are in every variant. Where they
are OFF no step, whatever its command, leaves one of them in another state; they are OFF after reset. -/
def Obligations.FusedDomainsStayOff : Prop :=
  (∀ s t : State, (∀ d, s.domFused d = true → s.dom d = { st := .off, pend := none }) → step s = .next t →
    ∀ d, t.domFused d = true → t.dom d = { st := .off, pend := none }) ∧
  (∀ d, State.reset.domFused d = true → State.reset.dom d = { st := .off, pend := none }) ∧
  (∀ (s : State) (d : Nat), (s.variant = .slz4860 → s.domFused d = false) ∧
    (s.variant = .slz4840 → (s.domFused d = true ↔ d = 7 ∨ d = 8 ∨ d = 12 ∨ d = 13 ∨ d = 26)) ∧
    (s.variant = .slz4820 → (s.domFused d = true ↔ 6 ≤ d ∧ d ≤ 8 ∨ 11 ≤ d ∧ d ≤ 13 ∨ d = 26))) ∧
  (∀ s : State, s.engineLoaded .pwr = true → s.domFused (s.rd Reg.PWR_DSEL) = true →
    s.dom (s.rd Reg.PWR_DSEL) = { st := .off, pend := none } →
    (s.hostRead false 0x0402).1.word / 8 % 2 = 1 ∧ (s.hostRead false 0x0402).1.word % 8 = 0)

/-- R61, Reset columns: the state after reset. Every register stands at its Reset value, the queue is empty, no point has a
source, the tick generator has just started with frame, sample and phase at 0 (R23), no domain but D0 is on, and the
invariant of RegistersStayCanonical holds.

Every register row of the tables has fields that lie within 18 bits and do not overlap, and Reset values that fit them. -/
def Obligations.ResetStateAndTables : Prop :=
  (State.reset.pending = [] ∧ (∀ k, State.reset.regs.get k = resetVal k) ∧ State.reset.points = [] ∧
  State.reset.tick = Tick.init ∧ State.reset.tick.frame = 0 ∧ State.reset.tick.sample = 0 ∧ State.reset.tick.phase = 0 ∧ State.reset.service = false ∧
  (∀ d, d ≠ 0 → (State.reset.dom d).st = .off) ∧ RegsCanonical State.reset ∧ WordsCanonical State.reset ∧
  BytesCanonical State.reset ∧ FusesRising State.reset) ∧
  (∀ b : Blk, ∀ r ∈ b.rows ++ rowsSLOTWIN ++ rowsSTANDWIN ++ rowsSCHEDWIN ++ commonRows ++ [stateRow b],
    (∀ f ∈ r.fields, f.lo ≤ f.hi ∧ f.hi < 18 ∧ f.reset < 2 ^ (f.hi + 1 - f.lo)) ∧
    r.fields.Pairwise (fun f g => f.hi < g.lo ∨ g.hi < f.lo))

/-- R73: if the eight samples of a strap disagree, BOOTSEL takes 0b11 and BUNST is set, TRIPSEL takes 0b00 and TUNST is set. The
device does not sample a second time within the same start: the stage has left WAIT_XTAL, and a further sampling changes
nothing. -/
def Obligations.StrapsDisagree : Prop :=
  ∀ (s : State) (x : Vector (BitVec 4) 8) (i j : Fin 8), s.up = true → s.stage = BStage.WAIT_XTAL → s.domOn 1 = true →
    ∃ t, exec (.strapSampling x) s = .next t ∧
      (x[i].toNat % 4 ≠ x[j].toNat % 4 → t.rd Reg.SYS_STRAP_BOOTSEL = 3 ∧ t.rd Reg.SYS_STRAP_BUNST = 1) ∧
      (x[i].toNat / 4 ≠ x[j].toNat / 4 → t.rd Reg.SYS_STRAP_TRIPSEL = 0 ∧ t.rd Reg.SYS_STRAP_TUNST = 1) ∧
      t.stage ≠ BStage.WAIT_XTAL ∧
      ∀ y : Vector (BitVec 4) 8, ∃ u, exec (.strapSampling y) t = .next u ∧ Frame [] [] t u

/-- R232, R233: the integrator. In class ACT it keeps its value where the last evaluation set SAT at OHI and Q is positive, and
where it set SAT at OLO and Q is negative; otherwise it takes I_c. In class CAS it is I_c clamped to the limits of the
output less the feedforward term, on every evaluation, so that it is never outside them. With INT = 0 both classes limit the
output alone. -/
def Obligations.IntegratorLimits : Prop :=
  ∀ (c : Coef) (h : Hist) (e ff : Int) (sat hi : Bool),
    let q := scaleExp (c.c0 * biquad c h e + c.c1 * h.x1) c.ef
    let ic := sat48 (h.i + q)
    let o := lawStep c h e ff sat hi
    (c.int = true → c.act = true →
      (sat = true → hi = true → 0 < q → o.hist.i = h.i) ∧ (sat = true → hi = false → q < 0 → o.hist.i = h.i) ∧
      ((sat = false ∨ (hi = true ∧ q ≤ 0) ∨ (hi = false ∧ 0 ≤ q)) → o.hist.i = ic)) ∧
    (c.int = true → c.act = false → c.olo ≤ c.ohi →
      o.hist.i = min (max ic ((c.olo - ff) * 131072)) ((c.ohi - ff) * 131072) ∧
      (c.olo - ff) * 131072 ≤ o.hist.i ∧ o.hist.i ≤ (c.ohi - ff) * 131072) ∧
    (c.int = false → o.hist.i = h.i ∧ (c.olo ≤ c.ohi →
      o.u = min (max (sat18s (sat18s (sar (sat48 (q + c.d1 * h.y1) + 65536) 17) + ff)) c.olo) c.ohi))
end

