-- ==== Sys2Proof/Laws/Bits.lean ====
section
/-! SUPPORT. The laws of bit fields: reading a field after storing it, storing beside a field, and the width kept. -/

namespace Sys2Proof.Laws
open Sys2Proof

theorem bitsOf_testBit (v hi lo i : Nat) :
    (bitsOf v hi lo).testBit i = (decide (i < hi + 1 - lo) && v.testBit (lo + i)) := by
  simp [bitsOf, Nat.testBit_mod_two_pow, Nat.testBit_shiftRight]

/-- A stored field beside what was above and below it. -/
theorem putBits_eq (v hi lo x : Nat) :
    putBits v hi lo x =
      (v / 2 ^ (lo + (hi + 1 - lo)) * 2 ^ (hi + 1 - lo) + x % 2 ^ (hi + 1 - lo)) * 2 ^ lo + v % 2 ^ lo := by
  unfold putBits bitsOf
  generalize hi + 1 - lo = n
  rw [Nat.shiftRight_eq_div_pow, Nat.pow_add, ← Nat.div_div_eq_div_mul]
  have h1 := Nat.div_add_mod v (2 ^ lo)
  have h2 := Nat.div_add_mod (v / 2 ^ lo) (2 ^ n)
  generalize v / 2 ^ lo = q at *
  generalize q % 2 ^ n = b at *
  generalize q / 2 ^ n = a at *
  generalize x % 2 ^ n = y
  generalize v % 2 ^ lo = r at *
  subst h2
  subst h1
  rw [Nat.mul_comm (2 ^ lo) _, Nat.mul_comm (2 ^ n) a]
  simp only [Nat.add_mul]
  omega

theorem putBits_testBit (v hi lo x i : Nat) :
    (putBits v hi lo x).testBit i =
      if lo ≤ i ∧ i < lo + (hi + 1 - lo) then x.testBit (i - lo) else v.testBit i := by
  rw [putBits_eq]
  generalize hi + 1 - lo = n
  have hr : v % 2 ^ lo < 2 ^ lo := Nat.mod_lt _ (Nat.two_pow_pos lo)
  rw [Nat.mul_comm _ (2 ^ lo), Nat.testBit_two_pow_mul_add _ hr]
  by_cases h1 : i < lo
  · simp [h1, Nat.testBit_mod_two_pow, show ¬ lo ≤ i by omega]
  · have hy : x % 2 ^ n < 2 ^ n := Nat.mod_lt _ (Nat.two_pow_pos n)
    rw [if_neg h1, Nat.mul_comm _ (2 ^ n), Nat.testBit_two_pow_mul_add _ hy]
    by_cases h2 : i - lo < n
    · rw [if_pos h2, if_pos (by omega), Nat.testBit_mod_two_pow]
      simp [h2]
    · rw [if_neg h2, if_neg (by omega), ← Nat.shiftRight_eq_div_pow, Nat.testBit_shiftRight]
      congr 1
      omega

/-- A field reads as what was stored in it. -/
theorem bitsOf_putBits_same (v hi lo x : Nat) : bitsOf (putBits v hi lo x) hi lo = x % 2 ^ (hi + 1 - lo) := by
  apply Nat.eq_of_testBit_eq
  intro i
  rw [bitsOf_testBit, putBits_testBit, Nat.testBit_mod_two_pow]
  by_cases h : i < hi + 1 - lo
  · simp [h]
  · simp [h]

/-- A field beside the one stored reads as before. -/
theorem bitsOf_putBits_apart (v hi lo x hi' lo' : Nat) (h : hi < lo' ∨ hi' < lo) :
    bitsOf (putBits v hi lo x) hi' lo' = bitsOf v hi' lo' := by
  apply Nat.eq_of_testBit_eq
  intro i
  rw [bitsOf_testBit, putBits_testBit, bitsOf_testBit]
  by_cases hi1 : i < hi' + 1 - lo'
  · rw [if_neg (by omega)]
  · simp [hi1]

/-- A word of `w` bits keeps its width as a field within it is stored. -/
theorem putBits_lt (v hi lo x w : Nat) (hv : v < 2 ^ w) (hw : hi < w) : putBits v hi lo x < 2 ^ w := by
  apply Nat.lt_pow_two_of_testBit
  intro i hiw
  rw [putBits_testBit]
  by_cases h : lo ≤ i ∧ i < lo + (hi + 1 - lo)
  · omega
  · rw [if_neg h]
    exact Nat.testBit_lt_two_pow (Nat.lt_of_lt_of_le hv (Nat.pow_le_pow_right (by decide) hiw))

theorem bitsOf_lt (v hi lo : Nat) : bitsOf v hi lo < 2 ^ (hi + 1 - lo) := Nat.mod_lt _ (Nat.two_pow_pos _)

end Sys2Proof.Laws
end

