-- ==== Sys2Proof/Laws/Cells.lean ====
section
/-! SUPPORT. The laws of the sparse memories: read after write, every other place unchanged, the canonical form kept. -/

namespace Sys2Proof.Laws
open Sys2Proof Sys2Proof.Machine

variable {α : Type}

theorem cellsGet_drop_same (d : Nat → α) (l : List (Nat × α)) (k : Nat) : cellsGet d (cellsDrop l k) k = d k := by
  induction l with
  | nil => rfl
  | cons c t ih =>
    obtain ⟨a, w⟩ := c
    by_cases h : a = k
    · subst h; simpa [cellsDrop] using ih
    · simpa [cellsDrop, h, cellsGet] using ih

theorem cellsGet_drop_other (d : Nat → α) (l : List (Nat × α)) {k k' : Nat} (hk : k' ≠ k) :
    cellsGet d (cellsDrop l k) k' = cellsGet d l k' := by
  induction l with
  | nil => rfl
  | cons c t ih =>
    obtain ⟨a, w⟩ := c
    by_cases h : a = k
    · subst h
      have : a ≠ k' := fun e => hk e.symm
      simpa [cellsDrop, cellsGet, this] using ih
    · by_cases h' : a = k'
      · subst h'; simp [cellsDrop, h, cellsGet]
      · simpa [cellsDrop, h, cellsGet, h'] using ih

variable [DecidableEq α]

/-- A read after a write to the same place gives the value written. -/
@[simp] theorem cellsGet_put_same (d : Nat → α) (l : List (Nat × α)) (k : Nat) (v : α) :
    cellsGet d (cellsPut d l k v) k = v := by
  induction l with
  | nil => by_cases h : v = d k <;> simp [cellsPut, cellsGet, h]
  | cons c t ih =>
    obtain ⟨a, w⟩ := c
    unfold cellsPut
    by_cases h1 : k < a
    · by_cases h2 : v = d k
      · simp only [h1, h2, if_true]; exact cellsGet_drop_same d _ k
      · simp [h1, h2, cellsGet]
    · by_cases h3 : k = a
      · subst h3
        by_cases h2 : v = d k
        · simp only [Nat.lt_irrefl, h2, if_true, if_false]
          exact cellsGet_drop_same d _ _
        · simp [h2, cellsGet]
      · have h4 : a ≠ k := fun e => h3 e.symm
        simp [h1, h3, cellsGet, h4, ih]

/-- A write leaves every other place alone. -/
theorem cellsGet_put_other (d : Nat → α) (l : List (Nat × α)) {k k' : Nat} (hk : k' ≠ k) (v : α) :
    cellsGet d (cellsPut d l k v) k' = cellsGet d l k' := by
  have hk' : ¬ k = k' := fun e => hk e.symm
  induction l with
  | nil => by_cases h : v = d k <;> simp [cellsPut, cellsGet, h, hk']
  | cons c t ih =>
    obtain ⟨a, w⟩ := c
    unfold cellsPut
    by_cases h1 : k < a
    · by_cases h2 : v = d k
      · simp only [h1, h2, if_true]; exact cellsGet_drop_other d _ hk
      · simp [h1, h2, cellsGet, hk']
    · by_cases h3 : k = a
      · subst h3
        by_cases h2 : v = d k
        · simp only [Nat.lt_irrefl, h2, if_true, if_false, cellsGet, hk']
          exact cellsGet_drop_other d _ hk
        · simp [h2, cellsGet, hk']
      · by_cases h4 : a = k'
        · subst h4; simp [h1, h3, cellsGet]
        · simp [h1, h3, cellsGet, h4, ih]

theorem cellsWf_mono (d : Nat → α) {lo lo' : Nat} (h : lo ≤ lo') (l : List (Nat × α)) (w : cellsWf d lo' l) :
    cellsWf d lo l := by
  cases l with
  | nil => rfl
  | cons c t =>
    obtain ⟨a, v⟩ := c
    simp only [cellsWf, Bool.and_eq_true, Nat.ble_eq] at w ⊢
    exact ⟨⟨Nat.le_trans h w.1.1, w.1.2⟩, w.2⟩

theorem cellsWf_filter (d : Nat → α) (p : Nat × α → Bool) (l : List (Nat × α)) :
    ∀ lo, cellsWf d lo l → cellsWf d lo (l.filter p) := by
  induction l with
  | nil => intro _ _; rfl
  | cons c t ih =>
    intro lo w
    obtain ⟨a, v⟩ := c
    simp only [cellsWf, Bool.and_eq_true, Nat.ble_eq] at w
    by_cases hp : p (a, v)
    · simp only [List.filter_cons, hp, if_true, cellsWf, Bool.and_eq_true, Nat.ble_eq]
      exact ⟨w.1, ih _ w.2⟩
    · simp only [List.filter_cons, hp]
      exact ih _ (cellsWf_mono d (Nat.le_trans w.1.1 (Nat.le_succ a)) t w.2)

/-- A write keeps the canonical form. -/
theorem cellsWf_put (d : Nat → α) (l : List (Nat × α)) (k : Nat) (v : α) :
    ∀ lo, lo ≤ k → cellsWf d lo l → cellsWf d lo (cellsPut d l k v) := by
  induction l with
  | nil =>
    intro lo hlo _
    by_cases h : v = d k
    · simp [cellsPut, h, cellsWf]
    · simp [cellsPut, h, cellsWf, hlo]
  | cons c t ih =>
    intro lo hlo w
    obtain ⟨a, x⟩ := c
    have w' := w
    simp only [cellsWf, Bool.and_eq_true, Nat.ble_eq] at w'
    unfold cellsPut
    by_cases h1 : k < a
    · by_cases h2 : v = d k
      · simp only [h1, h2, if_true]; exact cellsWf_filter d _ _ lo w
      · simp only [h1, h2, if_true, if_false, cellsWf, Bool.and_eq_true, Nat.ble_eq]
        refine ⟨⟨hlo, by simp⟩, ⟨h1, w'.1.2⟩, w'.2⟩
    · by_cases h3 : k = a
      · subst h3
        by_cases h2 : v = d k
        · simp only [Nat.lt_irrefl, h2, if_true, if_false]
          exact cellsWf_filter d _ _ lo (cellsWf_mono d (Nat.le_trans hlo (Nat.le_succ k)) t w'.2)
        · simp only [Nat.lt_irrefl, h2, if_true, if_false, cellsWf, Bool.and_eq_true, Nat.ble_eq]
          exact ⟨⟨hlo, by simp⟩, w'.2⟩
      · simp only [h1, h3, if_false, cellsWf, Bool.and_eq_true, Nat.ble_eq]
        exact ⟨w'.1, ih _ (by omega) w'.2⟩

end Sys2Proof.Laws
end

