-- ==== Sys2Proof/Laws/Registers.lean ====
section
/-! SUPPORT. The laws of registers and their fields: a read after a write, every other field unchanged, and what the
read of a register is after a command is held to its footprint. -/

namespace Sys2Proof.Laws
open Sys2Proof Sys2Proof.Machine

theorem regs_get_put_same (r : Regs) (k : Nat) (v : Word) : (r.put k v).get k = v := by
  unfold Regs.put
  split
  · assumption
  · exact cellsGet_put_same resetVal r.cells k v

theorem regs_get_put_other (r : Regs) {k k' : Nat} (h : k' ≠ k) (v : Word) : (r.put k v).get k' = r.get k' := by
  unfold Regs.put
  split
  · rfl
  · exact cellsGet_put_other resetVal r.cells h v

theorem rdKey_lt (s : State) (k : Nat) : s.rdKey k < 2 ^ 18 := (s.regs.get k).isLt

theorem rdKey_wrKey_same (s : State) (k v : Nat) : (s.wrKey k v).rdKey k = v % 2 ^ 18 := by
  simp [State.rdKey, State.wrKey, regs_get_put_same]

theorem rdKey_wrKey_other (s : State) {k k' : Nat} (h : k' ≠ k) (v : Nat) : (s.wrKey k v).rdKey k' = s.rdKey k' := by
  simp [State.rdKey, State.wrKey, regs_get_put_other _ h]

/-- A field that lies within an 18-bit word. -/
def Fld.Fits (f : Fld) : Prop := f.lo ≤ f.hi ∧ f.hi < 18

/-- A field reads as what was written to it. -/
theorem rd_wr_same (s : State) (f : Fld) (v : Nat) (h : f.hi < 18) : (s.wr f v).rd f = v % 2 ^ (f.hi + 1 - f.lo) := by
  unfold State.rd State.wr
  rw [rdKey_wrKey_same, Nat.mod_eq_of_lt (putBits_lt _ _ _ _ 18 (rdKey_lt s f.key) h), bitsOf_putBits_same]

/-- A field that holds the value written reads as it. -/
theorem rd_wr_same_lt (s : State) (f : Fld) (v : Nat) (h : f.hi < 18) (hv : v < 2 ^ (f.hi + 1 - f.lo)) :
    (s.wr f v).rd f = v := by
  rw [rd_wr_same s f v h, Nat.mod_eq_of_lt hv]

/-- A field of another register reads as before. -/
theorem rd_wr_other (s : State) (f g : Fld) (v : Nat) (h : g.key ≠ f.key) : (s.wr f v).rd g = s.rd g := by
  unfold State.rd State.wr
  rw [rdKey_wrKey_other s h]

/-- A field beside the one written reads as before. -/
theorem rd_wr_apart (s : State) (f g : Fld) (v : Nat) (hf : f.hi < 18) (h : f.hi < g.lo ∨ g.hi < f.lo) :
    (s.wr f v).rd g = s.rd g := by
  by_cases hk : g.key = f.key
  · unfold State.rd State.wr
    rw [hk, rdKey_wrKey_same, Nat.mod_eq_of_lt (putBits_lt _ _ _ _ 18 (rdKey_lt s f.key) hf),
      bitsOf_putBits_apart _ _ _ _ _ _ h]
  · exact rd_wr_other s f g v hk

theorem rd_lt (s : State) (f : Fld) : s.rd f < 2 ^ (f.hi + 1 - f.lo) := bitsOf_lt _ _ _

/-! ### A command's footprint -/

theorem cellsGet_filter {α : Type} (d : Nat → α) (p : Nat → Bool) (l : List (Nat × α)) (k : Nat) :
    cellsGet d (l.filter (fun c => p c.1)) k = if p k then cellsGet d l k else d k := by
  induction l with
  | nil => simp [cellsGet]
  | cons c t ih =>
    obtain ⟨a, w⟩ := c
    by_cases hp : p a
    · by_cases ha : a = k
      · subst ha; simp [cellsGet, hp]
      · simp [cellsGet, hp, ha, ih]
    · by_cases ha : a = k
      · subst ha; simp [hp, ih]
      · simp [cellsGet, hp, ha, ih]

theorem cellsGet_foldr {α : Type} [DecidableEq α] (d : Nat → α) (new old : List (Nat × α)) (k : Nat) :
    cellsGet d (new.foldr (fun c l => cellsPut d l c.1 c.2) old) k =
      if new.any (fun c => c.1 == k) then cellsGet d new k else cellsGet d old k := by
  induction new with
  | nil => simp
  | cons c t ih =>
    obtain ⟨a, v⟩ := c
    by_cases ha : a = k
    · subst ha; simp [cellsGet]
    · have hka : k ≠ a := fun e => ha e.symm
      simp only [List.foldr_cons, cellsGet_put_other d _ hka, List.any_cons]
      rw [ih]
      have hb : (a == k) = false := by simpa using ha
      simp only [cellsGet, ha, hb, if_false, Bool.false_or]

theorem cellsGet_not_any {α : Type} (d : Nat → α) (l : List (Nat × α)) (k : Nat)
    (h : l.any (fun c => c.1 == k) = false) : cellsGet d l k = d k := by
  induction l with
  | nil => rfl
  | cons c t ih =>
    obtain ⟨a, v⟩ := c
    simp only [List.any_cons, Bool.or_eq_false_iff, beq_eq_false_iff_ne] at h
    simp [cellsGet, h.1, ih h.2]

/-- A register inside the footprint is the command's, one outside it is as before. -/
theorem regs_get_confine (f : Footprint) (old new : Regs) (k : Nat) :
    (Regs.confine f old new).get k = if f.holds k then new.get k else old.get k := by
  unfold Regs.confine Regs.get
  simp only
  rw [cellsGet_foldr resetVal]
  by_cases hk : f.holds k
  · simp only [hk, if_true]
    by_cases ha : (new.cells.filter (fun c => f.holds c.1)).any (fun c => c.1 == k)
    · rw [if_pos ha, cellsGet_filter resetVal f.holds, if_pos hk]
    · rw [if_neg ha, cellsGet_filter resetVal (fun k => !f.holds k)]
      simp only [hk, Bool.not_true, Bool.false_eq_true, if_false]
      have := cellsGet_not_any resetVal _ k (Bool.eq_false_iff.mpr ha)
      rw [cellsGet_filter resetVal f.holds, if_pos hk] at this
      exact this.symm
  · have hn : ¬ (new.cells.filter (fun c => f.holds c.1)).any (fun c => c.1 == k) := by
      simp only [List.any_filter, List.any_eq_true, Bool.and_eq_true, beq_iff_eq, not_exists, not_and]
      intro c _ hc e
      exact hk (e ▸ hc)
    rw [if_neg hn, cellsGet_filter resetVal (fun k => !f.holds k)]
    simp [hk]

theorem rdKey_confine (f : Footprint) (s t : State) (k : Nat) :
    (s.confine f t).rdKey k = if f.holds k then t.rdKey k else s.rdKey k := by
  unfold State.rdKey State.confine
  simp only [regs_get_confine]
  split <;> rfl

theorem rd_confine (f : Footprint) (s t : State) (g : Fld) :
    (s.confine f t).rd g = if f.holds g.key then t.rd g else s.rd g := by
  unfold State.rd
  rw [rdKey_confine]
  split <;> rfl

/-- ALERT_N's interrupt is the only register that following it may change. -/
theorem rdKey_alertEdge (old new : State) {k : Nat} (h : k ≠ 0x2006) : (State.alertEdge old new).rdKey k = new.rdKey k := by
  unfold State.alertEdge
  split
  · exact rdKey_wrKey_other new h _
  · rfl

theorem rd_alertEdge (old new : State) (g : Fld) (h : g.key ≠ 0x2006) : (State.alertEdge old new).rd g = new.rd g := by
  unfold State.rd
  rw [rdKey_alertEdge old new h]

/-- A field of the state that a command leads to. -/
theorem rd_done (f : Footprint) (s t : State) (g : Fld) (h : g.key ≠ 0x2006) :
    (State.alertEdge s (s.confine f t)).rd g = if f.holds g.key then t.rd g else s.rd g := by
  rw [rd_alertEdge _ _ _ h, rd_confine]

/-- A register of the state that a command leads to. -/
theorem rdKey_done (f : Footprint) (s t : State) {k : Nat} (h : k ≠ 0x2006) :
    (State.alertEdge s (s.confine f t)).rdKey k = if f.holds k then t.rdKey k else s.rdKey k := by
  rw [rdKey_alertEdge _ _ h, rdKey_confine]

end Sys2Proof.Laws
end

