-- ==== Sys2Proof/Laws/State.lean ====
section
/-! SUPPORT. One lemma for each part of the state and each register operation: a register write leaves every part as it was,
and a command leaves every part outside its footprint as it was. -/

namespace Sys2Proof.Laws
open Sys2Proof Sys2Proof.Machine

/-! ### A word stored -/

@[simp] theorem wrKey_points (s : State) (k v : Nat) : (s.wrKey k v).points = s.points := rfl
@[simp] theorem wrKey_tick (s : State) (k v : Nat) : (s.wrKey k v).tick = s.tick := rfl
@[simp] theorem wrKey_balls (s : State) (k v : Nat) : (s.wrKey k v).balls = s.balls := rfl
@[simp] theorem wrKey_power (s : State) (k v : Nat) : (s.wrKey k v).power = s.power := rfl
@[simp] theorem wrKey_clock (s : State) (k v : Nat) : (s.wrKey k v).clock = s.clock := rfl
@[simp] theorem wrKey_therm (s : State) (k v : Nat) : (s.wrKey k v).therm = s.therm := rfl
@[simp] theorem wrKey_boot (s : State) (k v : Nat) : (s.wrKey k v).boot = s.boot := rfl
@[simp] theorem wrKey_heads (s : State) (k v : Nat) : (s.wrKey k v).heads = s.heads := rfl
@[simp] theorem wrKey_bursts (s : State) (k v : Nat) : (s.wrKey k v).bursts = s.bursts := rfl
@[simp] theorem wrKey_shut (s : State) (k v : Nat) : (s.wrKey k v).shut = s.shut := rfl
@[simp] theorem wrKey_cruise (s : State) (k v : Nat) : (s.wrKey k v).cruise = s.cruise := rfl
@[simp] theorem wrKey_stat (s : State) (k v : Nat) : (s.wrKey k v).stat = s.stat := rfl
@[simp] theorem wrKey_ctx (s : State) (k v : Nat) : (s.wrKey k v).ctx = s.ctx := rfl
@[simp] theorem wrKey_loops (s : State) (k v : Nat) : (s.wrKey k v).loops = s.loops := rfl
@[simp] theorem wrKey_prfs (s : State) (k v : Nat) : (s.wrKey k v).prfs = s.prfs := rfl
@[simp] theorem wrKey_traces (s : State) (k v : Nat) : (s.wrKey k v).traces = s.traces := rfl
@[simp] theorem wrKey_scheds (s : State) (k v : Nat) : (s.wrKey k v).scheds = s.scheds := rfl
@[simp] theorem wrKey_rtc (s : State) (k v : Nat) : (s.wrKey k v).rtc = s.rtc := rfl
@[simp] theorem wrKey_afe (s : State) (k v : Nat) : (s.wrKey k v).afe = s.afe := rfl
@[simp] theorem wrKey_act (s : State) (k v : Nat) : (s.wrKey k v).act = s.act := rfl
@[simp] theorem wrKey_gpio (s : State) (k v : Nat) : (s.wrKey k v).gpio = s.gpio := rfl
@[simp] theorem wrKey_bus (s : State) (k v : Nat) : (s.wrKey k v).bus = s.bus := rfl
@[simp] theorem wrKey_flash (s : State) (k v : Nat) : (s.wrKey k v).flash = s.flash := rfl
@[simp] theorem wrKey_psp (s : State) (k v : Nat) : (s.wrKey k v).psp = s.psp := rfl
@[simp] theorem wrKey_hsp (s : State) (k v : Nat) : (s.wrKey k v).hsp = s.hsp := rfl
@[simp] theorem wrKey_tally (s : State) (k v : Nat) : (s.wrKey k v).tally = s.tally := rfl
@[simp] theorem wrKey_cmp (s : State) (k v : Nat) : (s.wrKey k v).cmp = s.cmp := rfl
@[simp] theorem wrKey_wram (s : State) (k v : Nat) : (s.wrKey k v).wram = s.wram := rfl
@[simp] theorem wrKey_landing (s : State) (k v : Nat) : (s.wrKey k v).landing = s.landing := rfl
@[simp] theorem wrKey_fab (s : State) (k v : Nat) : (s.wrKey k v).fab = s.fab := rfl
@[simp] theorem wrKey_age (s : State) (k v : Nat) : (s.wrKey k v).age = s.age := rfl
@[simp] theorem wrKey_svc (s : State) (k v : Nat) : (s.wrKey k v).svc = s.svc := rfl
@[simp] theorem wrKey_fuses (s : State) (k v : Nat) : (s.wrKey k v).fuses = s.fuses := rfl
@[simp] theorem wrKey_jtag (s : State) (k v : Nat) : (s.wrKey k v).jtag = s.jtag := rfl
@[simp] theorem wrKey_freeCtr (s : State) (k v : Nat) : (s.wrKey k v).freeCtr = s.freeCtr := rfl
@[simp] theorem wrKey_pending (s : State) (k v : Nat) : (s.wrKey k v).pending = s.pending := rfl

/-! ### A field stored -/

@[simp] theorem wr_points (s : State) (f : Fld) (v : Nat) : (s.wr f v).points = s.points := rfl
@[simp] theorem wr_tick (s : State) (f : Fld) (v : Nat) : (s.wr f v).tick = s.tick := rfl
@[simp] theorem wr_balls (s : State) (f : Fld) (v : Nat) : (s.wr f v).balls = s.balls := rfl
@[simp] theorem wr_power (s : State) (f : Fld) (v : Nat) : (s.wr f v).power = s.power := rfl
@[simp] theorem wr_clock (s : State) (f : Fld) (v : Nat) : (s.wr f v).clock = s.clock := rfl
@[simp] theorem wr_therm (s : State) (f : Fld) (v : Nat) : (s.wr f v).therm = s.therm := rfl
@[simp] theorem wr_boot (s : State) (f : Fld) (v : Nat) : (s.wr f v).boot = s.boot := rfl
@[simp] theorem wr_heads (s : State) (f : Fld) (v : Nat) : (s.wr f v).heads = s.heads := rfl
@[simp] theorem wr_bursts (s : State) (f : Fld) (v : Nat) : (s.wr f v).bursts = s.bursts := rfl
@[simp] theorem wr_shut (s : State) (f : Fld) (v : Nat) : (s.wr f v).shut = s.shut := rfl
@[simp] theorem wr_cruise (s : State) (f : Fld) (v : Nat) : (s.wr f v).cruise = s.cruise := rfl
@[simp] theorem wr_stat (s : State) (f : Fld) (v : Nat) : (s.wr f v).stat = s.stat := rfl
@[simp] theorem wr_ctx (s : State) (f : Fld) (v : Nat) : (s.wr f v).ctx = s.ctx := rfl
@[simp] theorem wr_loops (s : State) (f : Fld) (v : Nat) : (s.wr f v).loops = s.loops := rfl
@[simp] theorem wr_prfs (s : State) (f : Fld) (v : Nat) : (s.wr f v).prfs = s.prfs := rfl
@[simp] theorem wr_traces (s : State) (f : Fld) (v : Nat) : (s.wr f v).traces = s.traces := rfl
@[simp] theorem wr_scheds (s : State) (f : Fld) (v : Nat) : (s.wr f v).scheds = s.scheds := rfl
@[simp] theorem wr_rtc (s : State) (f : Fld) (v : Nat) : (s.wr f v).rtc = s.rtc := rfl
@[simp] theorem wr_afe (s : State) (f : Fld) (v : Nat) : (s.wr f v).afe = s.afe := rfl
@[simp] theorem wr_act (s : State) (f : Fld) (v : Nat) : (s.wr f v).act = s.act := rfl
@[simp] theorem wr_gpio (s : State) (f : Fld) (v : Nat) : (s.wr f v).gpio = s.gpio := rfl
@[simp] theorem wr_bus (s : State) (f : Fld) (v : Nat) : (s.wr f v).bus = s.bus := rfl
@[simp] theorem wr_flash (s : State) (f : Fld) (v : Nat) : (s.wr f v).flash = s.flash := rfl
@[simp] theorem wr_psp (s : State) (f : Fld) (v : Nat) : (s.wr f v).psp = s.psp := rfl
@[simp] theorem wr_hsp (s : State) (f : Fld) (v : Nat) : (s.wr f v).hsp = s.hsp := rfl
@[simp] theorem wr_tally (s : State) (f : Fld) (v : Nat) : (s.wr f v).tally = s.tally := rfl
@[simp] theorem wr_cmp (s : State) (f : Fld) (v : Nat) : (s.wr f v).cmp = s.cmp := rfl
@[simp] theorem wr_wram (s : State) (f : Fld) (v : Nat) : (s.wr f v).wram = s.wram := rfl
@[simp] theorem wr_landing (s : State) (f : Fld) (v : Nat) : (s.wr f v).landing = s.landing := rfl
@[simp] theorem wr_fab (s : State) (f : Fld) (v : Nat) : (s.wr f v).fab = s.fab := rfl
@[simp] theorem wr_age (s : State) (f : Fld) (v : Nat) : (s.wr f v).age = s.age := rfl
@[simp] theorem wr_svc (s : State) (f : Fld) (v : Nat) : (s.wr f v).svc = s.svc := rfl
@[simp] theorem wr_fuses (s : State) (f : Fld) (v : Nat) : (s.wr f v).fuses = s.fuses := rfl
@[simp] theorem wr_jtag (s : State) (f : Fld) (v : Nat) : (s.wr f v).jtag = s.jtag := rfl
@[simp] theorem wr_freeCtr (s : State) (f : Fld) (v : Nat) : (s.wr f v).freeCtr = s.freeCtr := rfl
@[simp] theorem wr_pending (s : State) (f : Fld) (v : Nat) : (s.wr f v).pending = s.pending := rfl

/-! ### A one-bit field stored -/

@[simp] theorem wrB_points (s : State) (f : Fld) (b : Bool) : (s.wrB f b).points = s.points := rfl
@[simp] theorem wrB_tick (s : State) (f : Fld) (b : Bool) : (s.wrB f b).tick = s.tick := rfl
@[simp] theorem wrB_balls (s : State) (f : Fld) (b : Bool) : (s.wrB f b).balls = s.balls := rfl
@[simp] theorem wrB_power (s : State) (f : Fld) (b : Bool) : (s.wrB f b).power = s.power := rfl
@[simp] theorem wrB_clock (s : State) (f : Fld) (b : Bool) : (s.wrB f b).clock = s.clock := rfl
@[simp] theorem wrB_therm (s : State) (f : Fld) (b : Bool) : (s.wrB f b).therm = s.therm := rfl
@[simp] theorem wrB_boot (s : State) (f : Fld) (b : Bool) : (s.wrB f b).boot = s.boot := rfl
@[simp] theorem wrB_heads (s : State) (f : Fld) (b : Bool) : (s.wrB f b).heads = s.heads := rfl
@[simp] theorem wrB_bursts (s : State) (f : Fld) (b : Bool) : (s.wrB f b).bursts = s.bursts := rfl
@[simp] theorem wrB_shut (s : State) (f : Fld) (b : Bool) : (s.wrB f b).shut = s.shut := rfl
@[simp] theorem wrB_cruise (s : State) (f : Fld) (b : Bool) : (s.wrB f b).cruise = s.cruise := rfl
@[simp] theorem wrB_stat (s : State) (f : Fld) (b : Bool) : (s.wrB f b).stat = s.stat := rfl
@[simp] theorem wrB_ctx (s : State) (f : Fld) (b : Bool) : (s.wrB f b).ctx = s.ctx := rfl
@[simp] theorem wrB_loops (s : State) (f : Fld) (b : Bool) : (s.wrB f b).loops = s.loops := rfl
@[simp] theorem wrB_prfs (s : State) (f : Fld) (b : Bool) : (s.wrB f b).prfs = s.prfs := rfl
@[simp] theorem wrB_traces (s : State) (f : Fld) (b : Bool) : (s.wrB f b).traces = s.traces := rfl
@[simp] theorem wrB_scheds (s : State) (f : Fld) (b : Bool) : (s.wrB f b).scheds = s.scheds := rfl
@[simp] theorem wrB_rtc (s : State) (f : Fld) (b : Bool) : (s.wrB f b).rtc = s.rtc := rfl
@[simp] theorem wrB_afe (s : State) (f : Fld) (b : Bool) : (s.wrB f b).afe = s.afe := rfl
@[simp] theorem wrB_act (s : State) (f : Fld) (b : Bool) : (s.wrB f b).act = s.act := rfl
@[simp] theorem wrB_gpio (s : State) (f : Fld) (b : Bool) : (s.wrB f b).gpio = s.gpio := rfl
@[simp] theorem wrB_bus (s : State) (f : Fld) (b : Bool) : (s.wrB f b).bus = s.bus := rfl
@[simp] theorem wrB_flash (s : State) (f : Fld) (b : Bool) : (s.wrB f b).flash = s.flash := rfl
@[simp] theorem wrB_psp (s : State) (f : Fld) (b : Bool) : (s.wrB f b).psp = s.psp := rfl
@[simp] theorem wrB_hsp (s : State) (f : Fld) (b : Bool) : (s.wrB f b).hsp = s.hsp := rfl
@[simp] theorem wrB_tally (s : State) (f : Fld) (b : Bool) : (s.wrB f b).tally = s.tally := rfl
@[simp] theorem wrB_cmp (s : State) (f : Fld) (b : Bool) : (s.wrB f b).cmp = s.cmp := rfl
@[simp] theorem wrB_wram (s : State) (f : Fld) (b : Bool) : (s.wrB f b).wram = s.wram := rfl
@[simp] theorem wrB_landing (s : State) (f : Fld) (b : Bool) : (s.wrB f b).landing = s.landing := rfl
@[simp] theorem wrB_fab (s : State) (f : Fld) (b : Bool) : (s.wrB f b).fab = s.fab := rfl
@[simp] theorem wrB_age (s : State) (f : Fld) (b : Bool) : (s.wrB f b).age = s.age := rfl
@[simp] theorem wrB_svc (s : State) (f : Fld) (b : Bool) : (s.wrB f b).svc = s.svc := rfl
@[simp] theorem wrB_fuses (s : State) (f : Fld) (b : Bool) : (s.wrB f b).fuses = s.fuses := rfl
@[simp] theorem wrB_jtag (s : State) (f : Fld) (b : Bool) : (s.wrB f b).jtag = s.jtag := rfl
@[simp] theorem wrB_freeCtr (s : State) (f : Fld) (b : Bool) : (s.wrB f b).freeCtr = s.freeCtr := rfl
@[simp] theorem wrB_pending (s : State) (f : Fld) (b : Bool) : (s.wrB f b).pending = s.pending := rfl

/-! ### A signed field stored -/

@[simp] theorem wrS_points (s : State) (f : Fld) (v : Int) : (s.wrS f v).points = s.points := rfl
@[simp] theorem wrS_tick (s : State) (f : Fld) (v : Int) : (s.wrS f v).tick = s.tick := rfl
@[simp] theorem wrS_balls (s : State) (f : Fld) (v : Int) : (s.wrS f v).balls = s.balls := rfl
@[simp] theorem wrS_power (s : State) (f : Fld) (v : Int) : (s.wrS f v).power = s.power := rfl
@[simp] theorem wrS_clock (s : State) (f : Fld) (v : Int) : (s.wrS f v).clock = s.clock := rfl
@[simp] theorem wrS_therm (s : State) (f : Fld) (v : Int) : (s.wrS f v).therm = s.therm := rfl
@[simp] theorem wrS_boot (s : State) (f : Fld) (v : Int) : (s.wrS f v).boot = s.boot := rfl
@[simp] theorem wrS_heads (s : State) (f : Fld) (v : Int) : (s.wrS f v).heads = s.heads := rfl
@[simp] theorem wrS_bursts (s : State) (f : Fld) (v : Int) : (s.wrS f v).bursts = s.bursts := rfl
@[simp] theorem wrS_shut (s : State) (f : Fld) (v : Int) : (s.wrS f v).shut = s.shut := rfl
@[simp] theorem wrS_cruise (s : State) (f : Fld) (v : Int) : (s.wrS f v).cruise = s.cruise := rfl
@[simp] theorem wrS_stat (s : State) (f : Fld) (v : Int) : (s.wrS f v).stat = s.stat := rfl
@[simp] theorem wrS_ctx (s : State) (f : Fld) (v : Int) : (s.wrS f v).ctx = s.ctx := rfl
@[simp] theorem wrS_loops (s : State) (f : Fld) (v : Int) : (s.wrS f v).loops = s.loops := rfl
@[simp] theorem wrS_prfs (s : State) (f : Fld) (v : Int) : (s.wrS f v).prfs = s.prfs := rfl
@[simp] theorem wrS_traces (s : State) (f : Fld) (v : Int) : (s.wrS f v).traces = s.traces := rfl
@[simp] theorem wrS_scheds (s : State) (f : Fld) (v : Int) : (s.wrS f v).scheds = s.scheds := rfl
@[simp] theorem wrS_rtc (s : State) (f : Fld) (v : Int) : (s.wrS f v).rtc = s.rtc := rfl
@[simp] theorem wrS_afe (s : State) (f : Fld) (v : Int) : (s.wrS f v).afe = s.afe := rfl
@[simp] theorem wrS_act (s : State) (f : Fld) (v : Int) : (s.wrS f v).act = s.act := rfl
@[simp] theorem wrS_gpio (s : State) (f : Fld) (v : Int) : (s.wrS f v).gpio = s.gpio := rfl
@[simp] theorem wrS_bus (s : State) (f : Fld) (v : Int) : (s.wrS f v).bus = s.bus := rfl
@[simp] theorem wrS_flash (s : State) (f : Fld) (v : Int) : (s.wrS f v).flash = s.flash := rfl
@[simp] theorem wrS_psp (s : State) (f : Fld) (v : Int) : (s.wrS f v).psp = s.psp := rfl
@[simp] theorem wrS_hsp (s : State) (f : Fld) (v : Int) : (s.wrS f v).hsp = s.hsp := rfl
@[simp] theorem wrS_tally (s : State) (f : Fld) (v : Int) : (s.wrS f v).tally = s.tally := rfl
@[simp] theorem wrS_cmp (s : State) (f : Fld) (v : Int) : (s.wrS f v).cmp = s.cmp := rfl
@[simp] theorem wrS_wram (s : State) (f : Fld) (v : Int) : (s.wrS f v).wram = s.wram := rfl
@[simp] theorem wrS_landing (s : State) (f : Fld) (v : Int) : (s.wrS f v).landing = s.landing := rfl
@[simp] theorem wrS_fab (s : State) (f : Fld) (v : Int) : (s.wrS f v).fab = s.fab := rfl
@[simp] theorem wrS_age (s : State) (f : Fld) (v : Int) : (s.wrS f v).age = s.age := rfl
@[simp] theorem wrS_svc (s : State) (f : Fld) (v : Int) : (s.wrS f v).svc = s.svc := rfl
@[simp] theorem wrS_fuses (s : State) (f : Fld) (v : Int) : (s.wrS f v).fuses = s.fuses := rfl
@[simp] theorem wrS_jtag (s : State) (f : Fld) (v : Int) : (s.wrS f v).jtag = s.jtag := rfl
@[simp] theorem wrS_freeCtr (s : State) (f : Fld) (v : Int) : (s.wrS f v).freeCtr = s.freeCtr := rfl
@[simp] theorem wrS_pending (s : State) (f : Fld) (v : Int) : (s.wrS f v).pending = s.pending := rfl

/-! ### A pair stored -/

@[simp] theorem wrPair_points (s : State) (lo hi : Fld) (v : Nat) : (s.wrPair lo hi v).points = s.points := rfl
@[simp] theorem wrPair_tick (s : State) (lo hi : Fld) (v : Nat) : (s.wrPair lo hi v).tick = s.tick := rfl
@[simp] theorem wrPair_balls (s : State) (lo hi : Fld) (v : Nat) : (s.wrPair lo hi v).balls = s.balls := rfl
@[simp] theorem wrPair_power (s : State) (lo hi : Fld) (v : Nat) : (s.wrPair lo hi v).power = s.power := rfl
@[simp] theorem wrPair_clock (s : State) (lo hi : Fld) (v : Nat) : (s.wrPair lo hi v).clock = s.clock := rfl
@[simp] theorem wrPair_therm (s : State) (lo hi : Fld) (v : Nat) : (s.wrPair lo hi v).therm = s.therm := rfl
@[simp] theorem wrPair_boot (s : State) (lo hi : Fld) (v : Nat) : (s.wrPair lo hi v).boot = s.boot := rfl
@[simp] theorem wrPair_heads (s : State) (lo hi : Fld) (v : Nat) : (s.wrPair lo hi v).heads = s.heads := rfl
@[simp] theorem wrPair_bursts (s : State) (lo hi : Fld) (v : Nat) : (s.wrPair lo hi v).bursts = s.bursts := rfl
@[simp] theorem wrPair_shut (s : State) (lo hi : Fld) (v : Nat) : (s.wrPair lo hi v).shut = s.shut := rfl
@[simp] theorem wrPair_cruise (s : State) (lo hi : Fld) (v : Nat) : (s.wrPair lo hi v).cruise = s.cruise := rfl
@[simp] theorem wrPair_stat (s : State) (lo hi : Fld) (v : Nat) : (s.wrPair lo hi v).stat = s.stat := rfl
@[simp] theorem wrPair_ctx (s : State) (lo hi : Fld) (v : Nat) : (s.wrPair lo hi v).ctx = s.ctx := rfl
@[simp] theorem wrPair_loops (s : State) (lo hi : Fld) (v : Nat) : (s.wrPair lo hi v).loops = s.loops := rfl
@[simp] theorem wrPair_prfs (s : State) (lo hi : Fld) (v : Nat) : (s.wrPair lo hi v).prfs = s.prfs := rfl
@[simp] theorem wrPair_traces (s : State) (lo hi : Fld) (v : Nat) : (s.wrPair lo hi v).traces = s.traces := rfl
@[simp] theorem wrPair_scheds (s : State) (lo hi : Fld) (v : Nat) : (s.wrPair lo hi v).scheds = s.scheds := rfl
@[simp] theorem wrPair_rtc (s : State) (lo hi : Fld) (v : Nat) : (s.wrPair lo hi v).rtc = s.rtc := rfl
@[simp] theorem wrPair_afe (s : State) (lo hi : Fld) (v : Nat) : (s.wrPair lo hi v).afe = s.afe := rfl
@[simp] theorem wrPair_act (s : State) (lo hi : Fld) (v : Nat) : (s.wrPair lo hi v).act = s.act := rfl
@[simp] theorem wrPair_gpio (s : State) (lo hi : Fld) (v : Nat) : (s.wrPair lo hi v).gpio = s.gpio := rfl
@[simp] theorem wrPair_bus (s : State) (lo hi : Fld) (v : Nat) : (s.wrPair lo hi v).bus = s.bus := rfl
@[simp] theorem wrPair_flash (s : State) (lo hi : Fld) (v : Nat) : (s.wrPair lo hi v).flash = s.flash := rfl
@[simp] theorem wrPair_psp (s : State) (lo hi : Fld) (v : Nat) : (s.wrPair lo hi v).psp = s.psp := rfl
@[simp] theorem wrPair_hsp (s : State) (lo hi : Fld) (v : Nat) : (s.wrPair lo hi v).hsp = s.hsp := rfl
@[simp] theorem wrPair_tally (s : State) (lo hi : Fld) (v : Nat) : (s.wrPair lo hi v).tally = s.tally := rfl
@[simp] theorem wrPair_cmp (s : State) (lo hi : Fld) (v : Nat) : (s.wrPair lo hi v).cmp = s.cmp := rfl
@[simp] theorem wrPair_wram (s : State) (lo hi : Fld) (v : Nat) : (s.wrPair lo hi v).wram = s.wram := rfl
@[simp] theorem wrPair_landing (s : State) (lo hi : Fld) (v : Nat) : (s.wrPair lo hi v).landing = s.landing := rfl
@[simp] theorem wrPair_fab (s : State) (lo hi : Fld) (v : Nat) : (s.wrPair lo hi v).fab = s.fab := rfl
@[simp] theorem wrPair_age (s : State) (lo hi : Fld) (v : Nat) : (s.wrPair lo hi v).age = s.age := rfl
@[simp] theorem wrPair_svc (s : State) (lo hi : Fld) (v : Nat) : (s.wrPair lo hi v).svc = s.svc := rfl
@[simp] theorem wrPair_fuses (s : State) (lo hi : Fld) (v : Nat) : (s.wrPair lo hi v).fuses = s.fuses := rfl
@[simp] theorem wrPair_jtag (s : State) (lo hi : Fld) (v : Nat) : (s.wrPair lo hi v).jtag = s.jtag := rfl
@[simp] theorem wrPair_freeCtr (s : State) (lo hi : Fld) (v : Nat) : (s.wrPair lo hi v).freeCtr = s.freeCtr := rfl
@[simp] theorem wrPair_pending (s : State) (lo hi : Fld) (v : Nat) : (s.wrPair lo hi v).pending = s.pending := rfl

/-! ### RESULT of a block -/

@[simp] theorem result_points (s : State) (b : Blk) (off st : Nat) : (s.result b off st).points = s.points := rfl
@[simp] theorem result_tick (s : State) (b : Blk) (off st : Nat) : (s.result b off st).tick = s.tick := rfl
@[simp] theorem result_balls (s : State) (b : Blk) (off st : Nat) : (s.result b off st).balls = s.balls := rfl
@[simp] theorem result_power (s : State) (b : Blk) (off st : Nat) : (s.result b off st).power = s.power := rfl
@[simp] theorem result_clock (s : State) (b : Blk) (off st : Nat) : (s.result b off st).clock = s.clock := rfl
@[simp] theorem result_therm (s : State) (b : Blk) (off st : Nat) : (s.result b off st).therm = s.therm := rfl
@[simp] theorem result_boot (s : State) (b : Blk) (off st : Nat) : (s.result b off st).boot = s.boot := rfl
@[simp] theorem result_heads (s : State) (b : Blk) (off st : Nat) : (s.result b off st).heads = s.heads := rfl
@[simp] theorem result_bursts (s : State) (b : Blk) (off st : Nat) : (s.result b off st).bursts = s.bursts := rfl
@[simp] theorem result_shut (s : State) (b : Blk) (off st : Nat) : (s.result b off st).shut = s.shut := rfl
@[simp] theorem result_cruise (s : State) (b : Blk) (off st : Nat) : (s.result b off st).cruise = s.cruise := rfl
@[simp] theorem result_stat (s : State) (b : Blk) (off st : Nat) : (s.result b off st).stat = s.stat := rfl
@[simp] theorem result_ctx (s : State) (b : Blk) (off st : Nat) : (s.result b off st).ctx = s.ctx := rfl
@[simp] theorem result_loops (s : State) (b : Blk) (off st : Nat) : (s.result b off st).loops = s.loops := rfl
@[simp] theorem result_prfs (s : State) (b : Blk) (off st : Nat) : (s.result b off st).prfs = s.prfs := rfl
@[simp] theorem result_traces (s : State) (b : Blk) (off st : Nat) : (s.result b off st).traces = s.traces := rfl
@[simp] theorem result_scheds (s : State) (b : Blk) (off st : Nat) : (s.result b off st).scheds = s.scheds := rfl
@[simp] theorem result_rtc (s : State) (b : Blk) (off st : Nat) : (s.result b off st).rtc = s.rtc := rfl
@[simp] theorem result_afe (s : State) (b : Blk) (off st : Nat) : (s.result b off st).afe = s.afe := rfl
@[simp] theorem result_act (s : State) (b : Blk) (off st : Nat) : (s.result b off st).act = s.act := rfl
@[simp] theorem result_gpio (s : State) (b : Blk) (off st : Nat) : (s.result b off st).gpio = s.gpio := rfl
@[simp] theorem result_bus (s : State) (b : Blk) (off st : Nat) : (s.result b off st).bus = s.bus := rfl
@[simp] theorem result_flash (s : State) (b : Blk) (off st : Nat) : (s.result b off st).flash = s.flash := rfl
@[simp] theorem result_psp (s : State) (b : Blk) (off st : Nat) : (s.result b off st).psp = s.psp := rfl
@[simp] theorem result_hsp (s : State) (b : Blk) (off st : Nat) : (s.result b off st).hsp = s.hsp := rfl
@[simp] theorem result_tally (s : State) (b : Blk) (off st : Nat) : (s.result b off st).tally = s.tally := rfl
@[simp] theorem result_cmp (s : State) (b : Blk) (off st : Nat) : (s.result b off st).cmp = s.cmp := rfl
@[simp] theorem result_wram (s : State) (b : Blk) (off st : Nat) : (s.result b off st).wram = s.wram := rfl
@[simp] theorem result_landing (s : State) (b : Blk) (off st : Nat) : (s.result b off st).landing = s.landing := rfl
@[simp] theorem result_fab (s : State) (b : Blk) (off st : Nat) : (s.result b off st).fab = s.fab := rfl
@[simp] theorem result_age (s : State) (b : Blk) (off st : Nat) : (s.result b off st).age = s.age := rfl
@[simp] theorem result_svc (s : State) (b : Blk) (off st : Nat) : (s.result b off st).svc = s.svc := rfl
@[simp] theorem result_fuses (s : State) (b : Blk) (off st : Nat) : (s.result b off st).fuses = s.fuses := rfl
@[simp] theorem result_jtag (s : State) (b : Blk) (off st : Nat) : (s.result b off st).jtag = s.jtag := rfl
@[simp] theorem result_freeCtr (s : State) (b : Blk) (off st : Nat) : (s.result b off st).freeCtr = s.freeCtr := rfl
@[simp] theorem result_pending (s : State) (b : Blk) (off st : Nat) : (s.result b off st).pending = s.pending := rfl

/-! ### An interrupt bit -/

@[simp] theorem irq_points (s : State) (i : Nat) : (s.irq i).points = s.points := rfl
@[simp] theorem irq_tick (s : State) (i : Nat) : (s.irq i).tick = s.tick := rfl
@[simp] theorem irq_balls (s : State) (i : Nat) : (s.irq i).balls = s.balls := rfl
@[simp] theorem irq_power (s : State) (i : Nat) : (s.irq i).power = s.power := rfl
@[simp] theorem irq_clock (s : State) (i : Nat) : (s.irq i).clock = s.clock := rfl
@[simp] theorem irq_therm (s : State) (i : Nat) : (s.irq i).therm = s.therm := rfl
@[simp] theorem irq_boot (s : State) (i : Nat) : (s.irq i).boot = s.boot := rfl
@[simp] theorem irq_heads (s : State) (i : Nat) : (s.irq i).heads = s.heads := rfl
@[simp] theorem irq_bursts (s : State) (i : Nat) : (s.irq i).bursts = s.bursts := rfl
@[simp] theorem irq_shut (s : State) (i : Nat) : (s.irq i).shut = s.shut := rfl
@[simp] theorem irq_cruise (s : State) (i : Nat) : (s.irq i).cruise = s.cruise := rfl
@[simp] theorem irq_stat (s : State) (i : Nat) : (s.irq i).stat = s.stat := rfl
@[simp] theorem irq_ctx (s : State) (i : Nat) : (s.irq i).ctx = s.ctx := rfl
@[simp] theorem irq_loops (s : State) (i : Nat) : (s.irq i).loops = s.loops := rfl
@[simp] theorem irq_prfs (s : State) (i : Nat) : (s.irq i).prfs = s.prfs := rfl
@[simp] theorem irq_traces (s : State) (i : Nat) : (s.irq i).traces = s.traces := rfl
@[simp] theorem irq_scheds (s : State) (i : Nat) : (s.irq i).scheds = s.scheds := rfl
@[simp] theorem irq_rtc (s : State) (i : Nat) : (s.irq i).rtc = s.rtc := rfl
@[simp] theorem irq_afe (s : State) (i : Nat) : (s.irq i).afe = s.afe := rfl
@[simp] theorem irq_act (s : State) (i : Nat) : (s.irq i).act = s.act := rfl
@[simp] theorem irq_gpio (s : State) (i : Nat) : (s.irq i).gpio = s.gpio := rfl
@[simp] theorem irq_bus (s : State) (i : Nat) : (s.irq i).bus = s.bus := rfl
@[simp] theorem irq_flash (s : State) (i : Nat) : (s.irq i).flash = s.flash := rfl
@[simp] theorem irq_psp (s : State) (i : Nat) : (s.irq i).psp = s.psp := rfl
@[simp] theorem irq_hsp (s : State) (i : Nat) : (s.irq i).hsp = s.hsp := rfl
@[simp] theorem irq_tally (s : State) (i : Nat) : (s.irq i).tally = s.tally := rfl
@[simp] theorem irq_cmp (s : State) (i : Nat) : (s.irq i).cmp = s.cmp := rfl
@[simp] theorem irq_wram (s : State) (i : Nat) : (s.irq i).wram = s.wram := rfl
@[simp] theorem irq_landing (s : State) (i : Nat) : (s.irq i).landing = s.landing := rfl
@[simp] theorem irq_fab (s : State) (i : Nat) : (s.irq i).fab = s.fab := rfl
@[simp] theorem irq_age (s : State) (i : Nat) : (s.irq i).age = s.age := rfl
@[simp] theorem irq_svc (s : State) (i : Nat) : (s.irq i).svc = s.svc := rfl
@[simp] theorem irq_fuses (s : State) (i : Nat) : (s.irq i).fuses = s.fuses := rfl
@[simp] theorem irq_jtag (s : State) (i : Nat) : (s.irq i).jtag = s.jtag := rfl
@[simp] theorem irq_freeCtr (s : State) (i : Nat) : (s.irq i).freeCtr = s.freeCtr := rfl
@[simp] theorem irq_pending (s : State) (i : Nat) : (s.irq i).pending = s.pending := rfl

/-! ### The outcome of a command -/

@[simp] theorem answer_points (s : State) (b : Blk) (off : Nat) (c : Option Fld) (st : Nat) : (s.answer b off c st).points = s.points := by cases c <;> rfl
@[simp] theorem answer_tick (s : State) (b : Blk) (off : Nat) (c : Option Fld) (st : Nat) : (s.answer b off c st).tick = s.tick := by cases c <;> rfl
@[simp] theorem answer_balls (s : State) (b : Blk) (off : Nat) (c : Option Fld) (st : Nat) : (s.answer b off c st).balls = s.balls := by cases c <;> rfl
@[simp] theorem answer_power (s : State) (b : Blk) (off : Nat) (c : Option Fld) (st : Nat) : (s.answer b off c st).power = s.power := by cases c <;> rfl
@[simp] theorem answer_clock (s : State) (b : Blk) (off : Nat) (c : Option Fld) (st : Nat) : (s.answer b off c st).clock = s.clock := by cases c <;> rfl
@[simp] theorem answer_therm (s : State) (b : Blk) (off : Nat) (c : Option Fld) (st : Nat) : (s.answer b off c st).therm = s.therm := by cases c <;> rfl
@[simp] theorem answer_boot (s : State) (b : Blk) (off : Nat) (c : Option Fld) (st : Nat) : (s.answer b off c st).boot = s.boot := by cases c <;> rfl
@[simp] theorem answer_heads (s : State) (b : Blk) (off : Nat) (c : Option Fld) (st : Nat) : (s.answer b off c st).heads = s.heads := by cases c <;> rfl
@[simp] theorem answer_bursts (s : State) (b : Blk) (off : Nat) (c : Option Fld) (st : Nat) : (s.answer b off c st).bursts = s.bursts := by cases c <;> rfl
@[simp] theorem answer_shut (s : State) (b : Blk) (off : Nat) (c : Option Fld) (st : Nat) : (s.answer b off c st).shut = s.shut := by cases c <;> rfl
@[simp] theorem answer_cruise (s : State) (b : Blk) (off : Nat) (c : Option Fld) (st : Nat) : (s.answer b off c st).cruise = s.cruise := by cases c <;> rfl
@[simp] theorem answer_stat (s : State) (b : Blk) (off : Nat) (c : Option Fld) (st : Nat) : (s.answer b off c st).stat = s.stat := by cases c <;> rfl
@[simp] theorem answer_ctx (s : State) (b : Blk) (off : Nat) (c : Option Fld) (st : Nat) : (s.answer b off c st).ctx = s.ctx := by cases c <;> rfl
@[simp] theorem answer_loops (s : State) (b : Blk) (off : Nat) (c : Option Fld) (st : Nat) : (s.answer b off c st).loops = s.loops := by cases c <;> rfl
@[simp] theorem answer_prfs (s : State) (b : Blk) (off : Nat) (c : Option Fld) (st : Nat) : (s.answer b off c st).prfs = s.prfs := by cases c <;> rfl
@[simp] theorem answer_traces (s : State) (b : Blk) (off : Nat) (c : Option Fld) (st : Nat) : (s.answer b off c st).traces = s.traces := by cases c <;> rfl
@[simp] theorem answer_scheds (s : State) (b : Blk) (off : Nat) (c : Option Fld) (st : Nat) : (s.answer b off c st).scheds = s.scheds := by cases c <;> rfl
@[simp] theorem answer_rtc (s : State) (b : Blk) (off : Nat) (c : Option Fld) (st : Nat) : (s.answer b off c st).rtc = s.rtc := by cases c <;> rfl
@[simp] theorem answer_afe (s : State) (b : Blk) (off : Nat) (c : Option Fld) (st : Nat) : (s.answer b off c st).afe = s.afe := by cases c <;> rfl
@[simp] theorem answer_act (s : State) (b : Blk) (off : Nat) (c : Option Fld) (st : Nat) : (s.answer b off c st).act = s.act := by cases c <;> rfl
@[simp] theorem answer_gpio (s : State) (b : Blk) (off : Nat) (c : Option Fld) (st : Nat) : (s.answer b off c st).gpio = s.gpio := by cases c <;> rfl
@[simp] theorem answer_bus (s : State) (b : Blk) (off : Nat) (c : Option Fld) (st : Nat) : (s.answer b off c st).bus = s.bus := by cases c <;> rfl
@[simp] theorem answer_flash (s : State) (b : Blk) (off : Nat) (c : Option Fld) (st : Nat) : (s.answer b off c st).flash = s.flash := by cases c <;> rfl
@[simp] theorem answer_psp (s : State) (b : Blk) (off : Nat) (c : Option Fld) (st : Nat) : (s.answer b off c st).psp = s.psp := by cases c <;> rfl
@[simp] theorem answer_hsp (s : State) (b : Blk) (off : Nat) (c : Option Fld) (st : Nat) : (s.answer b off c st).hsp = s.hsp := by cases c <;> rfl
@[simp] theorem answer_tally (s : State) (b : Blk) (off : Nat) (c : Option Fld) (st : Nat) : (s.answer b off c st).tally = s.tally := by cases c <;> rfl
@[simp] theorem answer_cmp (s : State) (b : Blk) (off : Nat) (c : Option Fld) (st : Nat) : (s.answer b off c st).cmp = s.cmp := by cases c <;> rfl
@[simp] theorem answer_wram (s : State) (b : Blk) (off : Nat) (c : Option Fld) (st : Nat) : (s.answer b off c st).wram = s.wram := by cases c <;> rfl
@[simp] theorem answer_landing (s : State) (b : Blk) (off : Nat) (c : Option Fld) (st : Nat) : (s.answer b off c st).landing = s.landing := by cases c <;> rfl
@[simp] theorem answer_fab (s : State) (b : Blk) (off : Nat) (c : Option Fld) (st : Nat) : (s.answer b off c st).fab = s.fab := by cases c <;> rfl
@[simp] theorem answer_age (s : State) (b : Blk) (off : Nat) (c : Option Fld) (st : Nat) : (s.answer b off c st).age = s.age := by cases c <;> rfl
@[simp] theorem answer_svc (s : State) (b : Blk) (off : Nat) (c : Option Fld) (st : Nat) : (s.answer b off c st).svc = s.svc := by cases c <;> rfl
@[simp] theorem answer_fuses (s : State) (b : Blk) (off : Nat) (c : Option Fld) (st : Nat) : (s.answer b off c st).fuses = s.fuses := by cases c <;> rfl
@[simp] theorem answer_jtag (s : State) (b : Blk) (off : Nat) (c : Option Fld) (st : Nat) : (s.answer b off c st).jtag = s.jtag := by cases c <;> rfl
@[simp] theorem answer_freeCtr (s : State) (b : Blk) (off : Nat) (c : Option Fld) (st : Nat) : (s.answer b off c st).freeCtr = s.freeCtr := by cases c <;> rfl
@[simp] theorem answer_pending (s : State) (b : Blk) (off : Nat) (c : Option Fld) (st : Nat) : (s.answer b off c st).pending = s.pending := by cases c <;> rfl

/-! ### A counter -/

@[simp] theorem bump_points (s : State) (f : Fld) : (s.bump f).points = s.points := by unfold State.bump; simp only; split <;> rfl
@[simp] theorem bump_tick (s : State) (f : Fld) : (s.bump f).tick = s.tick := by unfold State.bump; simp only; split <;> rfl
@[simp] theorem bump_balls (s : State) (f : Fld) : (s.bump f).balls = s.balls := by unfold State.bump; simp only; split <;> rfl
@[simp] theorem bump_power (s : State) (f : Fld) : (s.bump f).power = s.power := by unfold State.bump; simp only; split <;> rfl
@[simp] theorem bump_clock (s : State) (f : Fld) : (s.bump f).clock = s.clock := by unfold State.bump; simp only; split <;> rfl
@[simp] theorem bump_therm (s : State) (f : Fld) : (s.bump f).therm = s.therm := by unfold State.bump; simp only; split <;> rfl
@[simp] theorem bump_boot (s : State) (f : Fld) : (s.bump f).boot = s.boot := by unfold State.bump; simp only; split <;> rfl
@[simp] theorem bump_heads (s : State) (f : Fld) : (s.bump f).heads = s.heads := by unfold State.bump; simp only; split <;> rfl
@[simp] theorem bump_bursts (s : State) (f : Fld) : (s.bump f).bursts = s.bursts := by unfold State.bump; simp only; split <;> rfl
@[simp] theorem bump_shut (s : State) (f : Fld) : (s.bump f).shut = s.shut := by unfold State.bump; simp only; split <;> rfl
@[simp] theorem bump_cruise (s : State) (f : Fld) : (s.bump f).cruise = s.cruise := by unfold State.bump; simp only; split <;> rfl
@[simp] theorem bump_stat (s : State) (f : Fld) : (s.bump f).stat = s.stat := by unfold State.bump; simp only; split <;> rfl
@[simp] theorem bump_ctx (s : State) (f : Fld) : (s.bump f).ctx = s.ctx := by unfold State.bump; simp only; split <;> rfl
@[simp] theorem bump_loops (s : State) (f : Fld) : (s.bump f).loops = s.loops := by unfold State.bump; simp only; split <;> rfl
@[simp] theorem bump_prfs (s : State) (f : Fld) : (s.bump f).prfs = s.prfs := by unfold State.bump; simp only; split <;> rfl
@[simp] theorem bump_traces (s : State) (f : Fld) : (s.bump f).traces = s.traces := by unfold State.bump; simp only; split <;> rfl
@[simp] theorem bump_scheds (s : State) (f : Fld) : (s.bump f).scheds = s.scheds := by unfold State.bump; simp only; split <;> rfl
@[simp] theorem bump_rtc (s : State) (f : Fld) : (s.bump f).rtc = s.rtc := by unfold State.bump; simp only; split <;> rfl
@[simp] theorem bump_afe (s : State) (f : Fld) : (s.bump f).afe = s.afe := by unfold State.bump; simp only; split <;> rfl
@[simp] theorem bump_act (s : State) (f : Fld) : (s.bump f).act = s.act := by unfold State.bump; simp only; split <;> rfl
@[simp] theorem bump_gpio (s : State) (f : Fld) : (s.bump f).gpio = s.gpio := by unfold State.bump; simp only; split <;> rfl
@[simp] theorem bump_bus (s : State) (f : Fld) : (s.bump f).bus = s.bus := by unfold State.bump; simp only; split <;> rfl
@[simp] theorem bump_flash (s : State) (f : Fld) : (s.bump f).flash = s.flash := by unfold State.bump; simp only; split <;> rfl
@[simp] theorem bump_psp (s : State) (f : Fld) : (s.bump f).psp = s.psp := by unfold State.bump; simp only; split <;> rfl
@[simp] theorem bump_hsp (s : State) (f : Fld) : (s.bump f).hsp = s.hsp := by unfold State.bump; simp only; split <;> rfl
@[simp] theorem bump_tally (s : State) (f : Fld) : (s.bump f).tally = s.tally := by unfold State.bump; simp only; split <;> rfl
@[simp] theorem bump_cmp (s : State) (f : Fld) : (s.bump f).cmp = s.cmp := by unfold State.bump; simp only; split <;> rfl
@[simp] theorem bump_wram (s : State) (f : Fld) : (s.bump f).wram = s.wram := by unfold State.bump; simp only; split <;> rfl
@[simp] theorem bump_landing (s : State) (f : Fld) : (s.bump f).landing = s.landing := by unfold State.bump; simp only; split <;> rfl
@[simp] theorem bump_fab (s : State) (f : Fld) : (s.bump f).fab = s.fab := by unfold State.bump; simp only; split <;> rfl
@[simp] theorem bump_age (s : State) (f : Fld) : (s.bump f).age = s.age := by unfold State.bump; simp only; split <;> rfl
@[simp] theorem bump_svc (s : State) (f : Fld) : (s.bump f).svc = s.svc := by unfold State.bump; simp only; split <;> rfl
@[simp] theorem bump_fuses (s : State) (f : Fld) : (s.bump f).fuses = s.fuses := by unfold State.bump; simp only; split <;> rfl
@[simp] theorem bump_jtag (s : State) (f : Fld) : (s.bump f).jtag = s.jtag := by unfold State.bump; simp only; split <;> rfl
@[simp] theorem bump_freeCtr (s : State) (f : Fld) : (s.bump f).freeCtr = s.freeCtr := by unfold State.bump; simp only; split <;> rfl
@[simp] theorem bump_pending (s : State) (f : Fld) : (s.bump f).pending = s.pending := by unfold State.bump; simp only; split <;> rfl

/-! ### An engine state of one block -/

@[simp] theorem setBlk_points (s : State) (b : Blk) (st : Nat) : (s.setBlk b st).points = s.points := by unfold State.setBlk; split <;> rfl
@[simp] theorem setBlk_tick (s : State) (b : Blk) (st : Nat) : (s.setBlk b st).tick = s.tick := by unfold State.setBlk; split <;> rfl
@[simp] theorem setBlk_balls (s : State) (b : Blk) (st : Nat) : (s.setBlk b st).balls = s.balls := by unfold State.setBlk; split <;> rfl
@[simp] theorem setBlk_power (s : State) (b : Blk) (st : Nat) : (s.setBlk b st).power = s.power := by unfold State.setBlk; split <;> rfl
@[simp] theorem setBlk_clock (s : State) (b : Blk) (st : Nat) : (s.setBlk b st).clock = s.clock := by unfold State.setBlk; split <;> rfl
@[simp] theorem setBlk_therm (s : State) (b : Blk) (st : Nat) : (s.setBlk b st).therm = s.therm := by unfold State.setBlk; split <;> rfl
@[simp] theorem setBlk_boot (s : State) (b : Blk) (st : Nat) : (s.setBlk b st).boot = s.boot := by unfold State.setBlk; split <;> rfl
@[simp] theorem setBlk_heads (s : State) (b : Blk) (st : Nat) : (s.setBlk b st).heads = s.heads := by unfold State.setBlk; split <;> rfl
@[simp] theorem setBlk_bursts (s : State) (b : Blk) (st : Nat) : (s.setBlk b st).bursts = s.bursts := by unfold State.setBlk; split <;> rfl
@[simp] theorem setBlk_shut (s : State) (b : Blk) (st : Nat) : (s.setBlk b st).shut = s.shut := by unfold State.setBlk; split <;> rfl
@[simp] theorem setBlk_cruise (s : State) (b : Blk) (st : Nat) : (s.setBlk b st).cruise = s.cruise := by unfold State.setBlk; split <;> rfl
@[simp] theorem setBlk_stat (s : State) (b : Blk) (st : Nat) : (s.setBlk b st).stat = s.stat := by unfold State.setBlk; split <;> rfl
@[simp] theorem setBlk_ctx (s : State) (b : Blk) (st : Nat) : (s.setBlk b st).ctx = s.ctx := by unfold State.setBlk; split <;> rfl
@[simp] theorem setBlk_loops (s : State) (b : Blk) (st : Nat) : (s.setBlk b st).loops = s.loops := by unfold State.setBlk; split <;> rfl
@[simp] theorem setBlk_prfs (s : State) (b : Blk) (st : Nat) : (s.setBlk b st).prfs = s.prfs := by unfold State.setBlk; split <;> rfl
@[simp] theorem setBlk_traces (s : State) (b : Blk) (st : Nat) : (s.setBlk b st).traces = s.traces := by unfold State.setBlk; split <;> rfl
@[simp] theorem setBlk_scheds (s : State) (b : Blk) (st : Nat) : (s.setBlk b st).scheds = s.scheds := by unfold State.setBlk; split <;> rfl
@[simp] theorem setBlk_rtc (s : State) (b : Blk) (st : Nat) : (s.setBlk b st).rtc = s.rtc := by unfold State.setBlk; split <;> rfl
@[simp] theorem setBlk_afe (s : State) (b : Blk) (st : Nat) : (s.setBlk b st).afe = s.afe := by unfold State.setBlk; split <;> rfl
@[simp] theorem setBlk_act (s : State) (b : Blk) (st : Nat) : (s.setBlk b st).act = s.act := by unfold State.setBlk; split <;> rfl
@[simp] theorem setBlk_gpio (s : State) (b : Blk) (st : Nat) : (s.setBlk b st).gpio = s.gpio := by unfold State.setBlk; split <;> rfl
@[simp] theorem setBlk_bus (s : State) (b : Blk) (st : Nat) : (s.setBlk b st).bus = s.bus := by unfold State.setBlk; split <;> rfl
@[simp] theorem setBlk_flash (s : State) (b : Blk) (st : Nat) : (s.setBlk b st).flash = s.flash := by unfold State.setBlk; split <;> rfl
@[simp] theorem setBlk_psp (s : State) (b : Blk) (st : Nat) : (s.setBlk b st).psp = s.psp := by unfold State.setBlk; split <;> rfl
@[simp] theorem setBlk_hsp (s : State) (b : Blk) (st : Nat) : (s.setBlk b st).hsp = s.hsp := by unfold State.setBlk; split <;> rfl
@[simp] theorem setBlk_tally (s : State) (b : Blk) (st : Nat) : (s.setBlk b st).tally = s.tally := by unfold State.setBlk; split <;> rfl
@[simp] theorem setBlk_cmp (s : State) (b : Blk) (st : Nat) : (s.setBlk b st).cmp = s.cmp := by unfold State.setBlk; split <;> rfl
@[simp] theorem setBlk_wram (s : State) (b : Blk) (st : Nat) : (s.setBlk b st).wram = s.wram := by unfold State.setBlk; split <;> rfl
@[simp] theorem setBlk_landing (s : State) (b : Blk) (st : Nat) : (s.setBlk b st).landing = s.landing := by unfold State.setBlk; split <;> rfl
@[simp] theorem setBlk_fab (s : State) (b : Blk) (st : Nat) : (s.setBlk b st).fab = s.fab := by unfold State.setBlk; split <;> rfl
@[simp] theorem setBlk_age (s : State) (b : Blk) (st : Nat) : (s.setBlk b st).age = s.age := by unfold State.setBlk; split <;> rfl
@[simp] theorem setBlk_svc (s : State) (b : Blk) (st : Nat) : (s.setBlk b st).svc = s.svc := by unfold State.setBlk; split <;> rfl
@[simp] theorem setBlk_fuses (s : State) (b : Blk) (st : Nat) : (s.setBlk b st).fuses = s.fuses := by unfold State.setBlk; split <;> rfl
@[simp] theorem setBlk_jtag (s : State) (b : Blk) (st : Nat) : (s.setBlk b st).jtag = s.jtag := by unfold State.setBlk; split <;> rfl
@[simp] theorem setBlk_freeCtr (s : State) (b : Blk) (st : Nat) : (s.setBlk b st).freeCtr = s.freeCtr := by unfold State.setBlk; split <;> rfl
@[simp] theorem setBlk_pending (s : State) (b : Blk) (st : Nat) : (s.setBlk b st).pending = s.pending := by unfold State.setBlk; split <;> rfl

/-! ### A command: the parts outside its footprint, and inside it -/

@[simp] theorem alertEdge_points (s t : State) : (State.alertEdge s t).points = t.points := by unfold State.alertEdge; split <;> rfl
@[simp] theorem alertEdge_tick (s t : State) : (State.alertEdge s t).tick = t.tick := by unfold State.alertEdge; split <;> rfl
@[simp] theorem alertEdge_balls (s t : State) : (State.alertEdge s t).balls = t.balls := by unfold State.alertEdge; split <;> rfl
@[simp] theorem alertEdge_power (s t : State) : (State.alertEdge s t).power = t.power := by unfold State.alertEdge; split <;> rfl
@[simp] theorem alertEdge_clock (s t : State) : (State.alertEdge s t).clock = t.clock := by unfold State.alertEdge; split <;> rfl
@[simp] theorem alertEdge_therm (s t : State) : (State.alertEdge s t).therm = t.therm := by unfold State.alertEdge; split <;> rfl
@[simp] theorem alertEdge_boot (s t : State) : (State.alertEdge s t).boot = t.boot := by unfold State.alertEdge; split <;> rfl
@[simp] theorem alertEdge_heads (s t : State) : (State.alertEdge s t).heads = t.heads := by unfold State.alertEdge; split <;> rfl
@[simp] theorem alertEdge_bursts (s t : State) : (State.alertEdge s t).bursts = t.bursts := by unfold State.alertEdge; split <;> rfl
@[simp] theorem alertEdge_shut (s t : State) : (State.alertEdge s t).shut = t.shut := by unfold State.alertEdge; split <;> rfl
@[simp] theorem alertEdge_cruise (s t : State) : (State.alertEdge s t).cruise = t.cruise := by unfold State.alertEdge; split <;> rfl
@[simp] theorem alertEdge_stat (s t : State) : (State.alertEdge s t).stat = t.stat := by unfold State.alertEdge; split <;> rfl
@[simp] theorem alertEdge_ctx (s t : State) : (State.alertEdge s t).ctx = t.ctx := by unfold State.alertEdge; split <;> rfl
@[simp] theorem alertEdge_loops (s t : State) : (State.alertEdge s t).loops = t.loops := by unfold State.alertEdge; split <;> rfl
@[simp] theorem alertEdge_prfs (s t : State) : (State.alertEdge s t).prfs = t.prfs := by unfold State.alertEdge; split <;> rfl
@[simp] theorem alertEdge_traces (s t : State) : (State.alertEdge s t).traces = t.traces := by unfold State.alertEdge; split <;> rfl
@[simp] theorem alertEdge_scheds (s t : State) : (State.alertEdge s t).scheds = t.scheds := by unfold State.alertEdge; split <;> rfl
@[simp] theorem alertEdge_rtc (s t : State) : (State.alertEdge s t).rtc = t.rtc := by unfold State.alertEdge; split <;> rfl
@[simp] theorem alertEdge_afe (s t : State) : (State.alertEdge s t).afe = t.afe := by unfold State.alertEdge; split <;> rfl
@[simp] theorem alertEdge_act (s t : State) : (State.alertEdge s t).act = t.act := by unfold State.alertEdge; split <;> rfl
@[simp] theorem alertEdge_gpio (s t : State) : (State.alertEdge s t).gpio = t.gpio := by unfold State.alertEdge; split <;> rfl
@[simp] theorem alertEdge_bus (s t : State) : (State.alertEdge s t).bus = t.bus := by unfold State.alertEdge; split <;> rfl
@[simp] theorem alertEdge_flash (s t : State) : (State.alertEdge s t).flash = t.flash := by unfold State.alertEdge; split <;> rfl
@[simp] theorem alertEdge_psp (s t : State) : (State.alertEdge s t).psp = t.psp := by unfold State.alertEdge; split <;> rfl
@[simp] theorem alertEdge_hsp (s t : State) : (State.alertEdge s t).hsp = t.hsp := by unfold State.alertEdge; split <;> rfl
@[simp] theorem alertEdge_tally (s t : State) : (State.alertEdge s t).tally = t.tally := by unfold State.alertEdge; split <;> rfl
@[simp] theorem alertEdge_cmp (s t : State) : (State.alertEdge s t).cmp = t.cmp := by unfold State.alertEdge; split <;> rfl
@[simp] theorem alertEdge_wram (s t : State) : (State.alertEdge s t).wram = t.wram := by unfold State.alertEdge; split <;> rfl
@[simp] theorem alertEdge_landing (s t : State) : (State.alertEdge s t).landing = t.landing := by unfold State.alertEdge; split <;> rfl
@[simp] theorem alertEdge_fab (s t : State) : (State.alertEdge s t).fab = t.fab := by unfold State.alertEdge; split <;> rfl
@[simp] theorem alertEdge_age (s t : State) : (State.alertEdge s t).age = t.age := by unfold State.alertEdge; split <;> rfl
@[simp] theorem alertEdge_svc (s t : State) : (State.alertEdge s t).svc = t.svc := by unfold State.alertEdge; split <;> rfl
@[simp] theorem alertEdge_fuses (s t : State) : (State.alertEdge s t).fuses = t.fuses := by unfold State.alertEdge; split <;> rfl
@[simp] theorem alertEdge_jtag (s t : State) : (State.alertEdge s t).jtag = t.jtag := by unfold State.alertEdge; split <;> rfl
@[simp] theorem alertEdge_freeCtr (s t : State) : (State.alertEdge s t).freeCtr = t.freeCtr := by unfold State.alertEdge; split <;> rfl
@[simp] theorem alertEdge_pending (s t : State) : (State.alertEdge s t).pending = t.pending := by unfold State.alertEdge; split <;> rfl
theorem confine_points (f : Footprint) (s t : State) : (s.confine f t).points = if f.has .points then t.points else s.points := rfl
theorem confine_tick (f : Footprint) (s t : State) : (s.confine f t).tick = if f.has .tick then t.tick else s.tick := rfl
theorem confine_balls (f : Footprint) (s t : State) : (s.confine f t).balls = if f.has .balls then t.balls else s.balls := rfl
theorem confine_power (f : Footprint) (s t : State) : (s.confine f t).power = if f.has .power then t.power else s.power := rfl
theorem confine_clock (f : Footprint) (s t : State) : (s.confine f t).clock = if f.has .clock then t.clock else s.clock := rfl
theorem confine_therm (f : Footprint) (s t : State) : (s.confine f t).therm = if f.has .therm then t.therm else s.therm := rfl
theorem confine_boot (f : Footprint) (s t : State) : (s.confine f t).boot = if f.has .boot then t.boot else s.boot := rfl
theorem confine_heads (f : Footprint) (s t : State) : (s.confine f t).heads = if f.has .heads then t.heads else s.heads := rfl
theorem confine_bursts (f : Footprint) (s t : State) : (s.confine f t).bursts = if f.has .bursts then t.bursts else s.bursts := rfl
theorem confine_shut (f : Footprint) (s t : State) : (s.confine f t).shut = if f.has .shut then t.shut else s.shut := rfl
theorem confine_cruise (f : Footprint) (s t : State) : (s.confine f t).cruise = if f.has .cruise then t.cruise else s.cruise := rfl
theorem confine_stat (f : Footprint) (s t : State) : (s.confine f t).stat = if f.has .stat then t.stat else s.stat := rfl
theorem confine_ctx (f : Footprint) (s t : State) : (s.confine f t).ctx = if f.has .ctx then t.ctx else s.ctx := rfl
theorem confine_loops (f : Footprint) (s t : State) : (s.confine f t).loops = if f.has .loops then t.loops else s.loops := rfl
theorem confine_prfs (f : Footprint) (s t : State) : (s.confine f t).prfs = if f.has .prfs then t.prfs else s.prfs := rfl
theorem confine_traces (f : Footprint) (s t : State) : (s.confine f t).traces = if f.has .traces then t.traces else s.traces := rfl
theorem confine_scheds (f : Footprint) (s t : State) : (s.confine f t).scheds = if f.has .scheds then t.scheds else s.scheds := rfl
theorem confine_rtc (f : Footprint) (s t : State) : (s.confine f t).rtc = if f.has .rtc then t.rtc else s.rtc := rfl
theorem confine_afe (f : Footprint) (s t : State) : (s.confine f t).afe = if f.has .afe then t.afe else s.afe := rfl
theorem confine_act (f : Footprint) (s t : State) : (s.confine f t).act = if f.has .act then t.act else s.act := rfl
theorem confine_gpio (f : Footprint) (s t : State) : (s.confine f t).gpio = if f.has .gpio then t.gpio else s.gpio := rfl
theorem confine_bus (f : Footprint) (s t : State) : (s.confine f t).bus = if f.has .bus then t.bus else s.bus := rfl
theorem confine_flash (f : Footprint) (s t : State) : (s.confine f t).flash = if f.has .flash then t.flash else s.flash := rfl
theorem confine_psp (f : Footprint) (s t : State) : (s.confine f t).psp = if f.has .psp then t.psp else s.psp := rfl
theorem confine_hsp (f : Footprint) (s t : State) : (s.confine f t).hsp = if f.has .hsp then t.hsp else s.hsp := rfl
theorem confine_tally (f : Footprint) (s t : State) : (s.confine f t).tally = if f.has .tally then t.tally else s.tally := rfl
theorem confine_cmp (f : Footprint) (s t : State) : (s.confine f t).cmp = if f.has .cmp then t.cmp else s.cmp := rfl
theorem confine_wram (f : Footprint) (s t : State) : (s.confine f t).wram = if f.has .wram then t.wram else s.wram := rfl
theorem confine_landing (f : Footprint) (s t : State) : (s.confine f t).landing = if f.has .landing then t.landing else s.landing := rfl
theorem confine_fab (f : Footprint) (s t : State) : (s.confine f t).fab = if f.has .fab then t.fab else s.fab := rfl
theorem confine_age (f : Footprint) (s t : State) : (s.confine f t).age = if f.has .age then t.age else s.age := rfl
theorem confine_svc (f : Footprint) (s t : State) : (s.confine f t).svc = if f.has .svc then t.svc else s.svc := rfl
theorem confine_fuses (f : Footprint) (s t : State) : (s.confine f t).fuses = if f.has .fuses then t.fuses else s.fuses := rfl
theorem confine_jtag (f : Footprint) (s t : State) : (s.confine f t).jtag = if f.has .jtag then t.jtag else s.jtag := rfl
theorem confine_freeCtr (f : Footprint) (s t : State) : (s.confine f t).freeCtr = if f.has .freeCtr then t.freeCtr else s.freeCtr := rfl
@[simp] theorem confine_pending (f : Footprint) (s t : State) : (s.confine f t).pending = s.pending := rfl

end Sys2Proof.Laws
end

