-- ==== Sys2Proof/Laws/Commands.lean ====
section
/-! SUPPORT. What every command does and leaves: the form of a command's next state, its frame, and the laws of the
operations that the meanings share (judgement, counters, RESULT, engine states, points, entries of lists). -/

namespace Sys2Proof.Laws
open Sys2Proof Sys2Proof.Machine Sys2Proof.Safety

/-! ### Lists of entries and vectors -/

@[simp] theorem assocGet_put_same {α : Type} (l : List (Nat × α)) (k : Nat) (v : α) :
    assocGet (assocPut l k v) k = some v := by
  induction l with
  | nil => simp [assocPut, assocGet]
  | cons c t ih =>
    obtain ⟨a, w⟩ := c
    unfold assocPut
    split
    · simp [assocGet]
    · split
      · simp [assocGet]
      · rename_i h1 h2
        have : a ≠ k := fun e => h2 e.symm
        simp [assocGet, this, ih]

theorem assocGet_put_other {α : Type} (l : List (Nat × α)) {k k' : Nat} (h : k' ≠ k) (v : α) :
    assocGet (assocPut l k v) k' = assocGet l k' := by
  have h' : k ≠ k' := fun e => h e.symm
  induction l with
  | nil => simp [assocPut, assocGet, h']
  | cons c t ih =>
    obtain ⟨a, w⟩ := c
    unfold assocPut
    split
    · simp [assocGet, h']
    · split
      · rename_i h1 h2
        have : a ≠ k' := fun e => h (e.symm.trans h2.symm)
        simp [assocGet, h', this]
      · by_cases ha : a = k'
        · simp [assocGet, ha]
        · simp [assocGet, ha, ih]

theorem assocGet_map {α : Type} (l : List (Nat × α)) (f : Nat → α → α) (k : Nat) :
    assocGet (l.map (fun c => (c.1, f c.1 c.2))) k = (assocGet l k).map (f k) := by
  induction l with
  | nil => rfl
  | cons c t ih =>
    obtain ⟨a, w⟩ := c
    by_cases h : a = k
    · subst h; simp [assocGet]
    · simp [assocGet, h, ih]

theorem vmod_get {α : Type} {n : Nat} (v : Vector α n) (i : Nat) (f : α → α) (j : Nat) (hj : j < n) :
    (vmod v i f)[j] = if i = j then f v[j] else v[j] := by
  unfold vmod
  split
  · by_cases h : i = j
    · subst h; simp
    · simp [h]
  · rw [if_neg]; omega

theorem vmod_get? {α : Type} {n : Nat} (v : Vector α n) (i : Nat) (f : α → α) (j : Nat) :
    (vmod v i f)[j]? = if i = j then v[j]?.map f else v[j]? := by
  by_cases hj : j < n
  · rw [Vector.getElem?_eq_getElem hj, vmod_get v i f j hj, Vector.getElem?_eq_getElem hj]
    split <;> rfl
  · rw [Vector.getElem?_eq_none (by omega), Vector.getElem?_eq_none (by omega)]
    simp

/-! ### Shared operations -/

/-- An engine that accepts commands passes the judgement that every command meets. -/
theorem gate_ok (s : State) (b : Blk) (u : Bool) (h : Accepts s b) (hu : u = true → s.unlocked b = true) :
    s.gate b u = Status.OK := by
  obtain ⟨_, h1, h2⟩ := h
  cases u
  · rcases h2 with h2 | h2 <;> simp [State.gate, h1, h2, stInService, stService, stDrain, stDown, stLoading]
  · rcases h2 with h2 | h2 <;> simp [State.gate, h1, h2, hu rfl, stInService, stService, stDrain, stDown, stLoading]

/-- A locked block turns a command away that needs it unlocked. -/
theorem gate_locked (s : State) (b : Blk) (h : s.therm.tripped = false) (hu : s.unlocked b = false) :
    s.gate b true = Status.ILLEGAL_STATE := by
  simp only [State.gate, h, hu]
  split
  · contradiction
  · split <;> rfl

/-- A counter counts up by one, and stays at its all-ones value. -/
theorem rd_bump (s : State) (f : Fld) (h : f.hi < 18) :
    (s.bump f).rd f = min (s.rd f + 1) (2 ^ (f.hi + 1 - f.lo) - 1) := by
  have := rd_lt s f
  unfold State.bump
  simp only
  split
  · rw [rd_wr_same_lt _ _ _ h (by omega)]; omega
  · omega

theorem rd_bump_other (s : State) (f g : Fld) (h : g.key ≠ f.key) : (s.bump f).rd g = s.rd g := by
  unfold State.bump
  simp only
  split
  · exact rd_wr_other s f g _ h
  · rfl

/-- RESULT's STATUS after it has taken an outcome. -/
theorem rd_result_status (s : State) (b : Blk) (off st : Nat) : (s.result b off st).rd b.statusFld = st % 2 ^ 5 := by
  unfold State.result
  rw [rd_wr_apart _ _ _ _ (by simp [Blk.offsetFld]) (by simp [Blk.offsetFld, Blk.statusFld]),
    rd_wr_same _ _ _ (by simp [Blk.statusFld])]
  rfl

/-- RESULT's OFFSET after it has taken an outcome. -/
theorem rd_result_offset (s : State) (b : Blk) (off st : Nat) : (s.result b off st).rd b.offsetFld = off % 2 ^ 10 := by
  unfold State.result
  rw [rd_wr_same _ _ _ (by simp [Blk.offsetFld])]
  rfl

theorem rd_result_other (s : State) (b : Blk) (off st : Nat) (g : Fld) (h : g.key ≠ b.base + 0x3FE) :
    (s.result b off st).rd g = s.rd g := by
  unfold State.result
  rw [rd_wr_other _ _ _ _ h, rd_wr_other _ _ _ _ h]

theorem points_putPoint (s : State) (n : Nat) (p : Point) : (s.putPoint n p).points = assocPut s.points n p := by
  unfold State.putPoint
  dsimp only
  split <;> split <;> rfl

theorem point_putPoint_same (s : State) (n : Nat) (p : Point) : (s.putPoint n p).point n = some p := by
  unfold State.point
  rw [points_putPoint, assocGet_put_same]

theorem point_putPoint_other (s : State) {n k : Nat} (h : k ≠ n) (p : Point) : (s.putPoint n p).point k = s.point k := by
  unfold State.point
  rw [points_putPoint, assocGet_put_other _ h]

theorem rd_putPoint (s : State) (n : Nat) (p : Point) (f : Fld) : (s.putPoint n p).rd f = s.rd f := by
  unfold State.putPoint
  dsimp only
  split <;> split <;> rfl

/-- A point that takes a trigger from its own source. -/
theorem point_srcTrig_same (s : State) (b : Blk) (src : PSrc) (n : Nat) (t : PTrig) (p : Point) (h : s.point n = some p)
    (hs : p.source = src) : (s.srcTrig b src n t).point n = some (p.trig t) := by
  unfold State.srcTrig
  simp only [h, hs, if_true]
  exact point_putPoint_same _ _ _

/-! ### What every command does -/

/-- Out of reset and shutdown a command completes on its footprint. -/
theorem done_up {f : Footprint} {s u : State} (h : s.up = true) : done f s u = .next (s.settle f u) := by
  simp [done, h]

/-- While the domains beyond D0 are held in reset or shut down, a command has no effect. -/
theorem done_held {f : Footprint} {s u : State} (h : s.up = false) : done f s u = .next s := by simp [done, h]

theorem doneHeld_up {f : Footprint} {s u : State} (h : s.up = true) : doneHeld f s u = .next (s.settle f u) := by
  simp [doneHeld, h]

/-- A command with an empty footprint and no effect leaves the state as it is. -/
theorem settle_none (s : State) : s.settle ⟨[], []⟩ s = s := by
  have h1 : s.regs.cells.filter (fun _ => true) = s.regs.cells := List.filter_eq_self.mpr (fun _ _ => rfl)
  have h0 : s.regs.cells.filter (fun _ => false) = [] := List.filter_eq_nil_iff.mpr (fun _ _ => by simp)
  have h : s.confine ⟨[], []⟩ s = s := by
    simp [State.confine, Regs.confine, Footprint.has, Footprint.holds, h1, h0]
  unfold State.settle State.alertEdge
  rw [h, if_neg (by cases s.alert <;> simp)]

/-- The form of the state that `done` answers. -/
theorem done_next {f : Footprint} {s u t : State} (h : done f s u = .next t) :
    ∃ g v, t = State.alertEdge s (s.confine g v) := by
  have h := Host.Outcome.next.inj h
  subst h
  split
  · exact ⟨_, _, rfl⟩
  · exact ⟨⟨[], []⟩, s, (settle_none s).symm⟩

/-- The form of the state that `doneHeld` answers. -/
theorem doneHeld_next {f : Footprint} {s u t : State} (h : doneHeld f s u = .next t) :
    ∃ g v, t = State.alertEdge s (s.confine g v) := by
  have h := Host.Outcome.next.inj h
  subst h
  split
  · exact ⟨_, _, rfl⟩
  · split
    · exact ⟨_, _, rfl⟩
    · split
      · exact ⟨_, _, rfl⟩
      · exact ⟨⟨[], []⟩, s, (settle_none s).symm⟩

theorem factory_next {s t : State} (h : s.factory = .next t) : ∃ g v, t = State.alertEdge s (s.confine g v) := by
  unfold State.factory at h
  split at h
  · exact done_next h
  · split at h
    · exact done_next h
    · split at h
      · exact done_next h
      · exact nomatch h

/-- A command's next state: some state, held to the command's footprint, with ALERT_N's interrupt following it. -/
theorem exec_next (i : Instr) (s t : State) (h : exec i s = .next t) :
    ∃ f u, t = State.alertEdge s (s.confine f u) := by
  cases i with
  | consoleMem => exact factory_next h
  | consoleTrim => exact factory_next h
  | consoleScan => exact factory_next h
  | consoleFuse => exact factory_next h
  | jtagFactory k =>
    unfold exec execJtagFactory at h
    dsimp only at h
    split at h
    · exact nomatch h
    · exact done_next h
  | consoleLine l =>
    unfold exec execConsoleLine at h
    dsimp only at h
    split at h
    · exact done_next h
    · split at h
      · exact done_next h
      · split at h
        · exact done_next h
        · exact done_next h
        · exact done_next h
        · exact done_next h
        · exact done_next h
        · exact done_next h
        · split at h
          · exact done_next h
          · split at h
            · exact done_next h
            · exact nomatch h
  | _ => first | exact done_next h | exact doneHeld_next h | exact ⟨_, _, (Host.Outcome.next.inj h).symm⟩

/-- No command touches the queue. -/
theorem exec_pending (i : Instr) (s t : State) (h : exec i s = .next t) : t.pending = s.pending := by
  obtain ⟨f, u, rfl⟩ := exec_next i s t h
  unfold State.alertEdge
  split <;> rfl

/-! ### Frames -/

/-- The part of the state that a command leaves as its footprint lacks it. -/
theorem samePart_confine (f : Footprint) (s u : State) (p : Part) (h : f.has p = false) : SamePart s (s.confine f u) p := by
  cases p <;> simp [SamePart, State.confine, h]

theorem samePart_confine_same (f : Footprint) (s u : State) (p : Part) (h : SamePart s u p) :
    SamePart s (s.confine f u) p := by
  cases p <;> simp only [SamePart, State.confine] at h ⊢ <;> split <;> first | exact h | rfl

theorem samePart_alertEdge (s old t : State) (p : Part) (h : SamePart s t p) : SamePart s (State.alertEdge old t) p := by
  unfold State.alertEdge
  split
  · cases p <;> exact h
  · exact h

theorem samePart_refl (s : State) (p : Part) : SamePart s s p := by cases p <;> rfl

theorem rd_irq_apart (s : State) (n : Nat) (hn : n < 18) (g : Fld) (h : g.key ≠ 0x2006 ∨ g.hi < n ∨ n < g.lo) :
    (s.irq n).rd g = s.rd g := by
  unfold State.irq
  rcases h with h | h
  · exact rd_wr_other _ _ _ _ h
  · exact rd_wr_apart _ _ _ _ hn (h.elim .inr .inl)

theorem rd_alertEdge_apart (old new : State) (g : Fld) (h : g.key ≠ 0x2006 ∨ g.hi < 8 ∨ 8 < g.lo) :
    (State.alertEdge old new).rd g = new.rd g := by
  unfold State.alertEdge
  split
  · exact rd_irq_apart _ 8 (by decide) g h
  · rfl

/-- The frame of a command: what its state changes outside the given registers and parts lies outside its footprint. -/
theorem frame_done (f : Footprint) (s u : State) (regs : List (Nat × Nat)) (parts : List Part)
    (h1 : ∀ g : Fld, f.holds g.key = true → (regs.any fun r => Nat.ble r.1 g.key && Nat.blt g.key r.2) = false →
      (g.key ≠ 0x2006 ∨ g.hi < 8 ∨ 8 < g.lo) → u.rd g = s.rd g)
    (h2 : ∀ p, f.has p = true → (parts.any fun q => decide (q = p)) = false → SamePart s u p) :
    Frame regs parts s (State.alertEdge s (s.confine f u)) := by
  refine ⟨fun g hr hg => ?_, fun p hp => ?_, ?_⟩
  · rw [rd_alertEdge_apart _ _ _ hg, rd_confine]
    by_cases hh : f.holds g.key = true
    · rw [if_pos hh, h1 g hh hr hg]
    · rw [if_neg hh]
  · apply samePart_alertEdge
    by_cases hh : f.has p = true
    · exact samePart_confine_same f s u p (h2 p hh hp)
    · exact samePart_confine f s u p (Bool.eq_false_iff.mpr hh)
  · unfold State.alertEdge
    split <;> rfl

theorem frame_refl (regs : List (Nat × Nat)) (parts : List Part) (s : State) : Frame regs parts s s :=
  ⟨fun _ _ _ => rfl, fun p _ => samePart_refl s p, rfl⟩

/-- The frame of what `done` answers: that of the meaning's result, or empty. -/
theorem frame_done_next {f : Footprint} {s u t : State} (h : done f s u = .next t) (regs : List (Nat × Nat)) (parts : List Part)
    (h1 : ∀ g : Fld, f.holds g.key = true → (regs.any fun r => Nat.ble r.1 g.key && Nat.blt g.key r.2) = false →
      (g.key ≠ 0x2006 ∨ g.hi < 8 ∨ 8 < g.lo) → u.rd g = s.rd g)
    (h2 : ∀ p, f.has p = true → (parts.any fun q => decide (q = p)) = false → SamePart s u p) : Frame regs parts s t := by
  have h := Host.Outcome.next.inj h
  subst h
  split
  · exact frame_done f s u regs parts h1 h2
  · exact frame_refl _ _ _

/-- A command with no effect: its frame is empty. -/
theorem frame_done_self (f : Footprint) (s : State) : Frame [] [] s (State.alertEdge s (s.confine f s)) :=
  frame_done f s s [] [] (fun _ _ _ _ => rfl) (fun p _ _ => samePart_refl s p)

/-! ### The canonical form of the register file -/

theorem regsCanonical_put (s : State) (k v : Nat) (h : RegsCanonical s) : RegsCanonical (s.wrKey k v) := by
  unfold RegsCanonical State.wrKey Regs.put at *
  dsimp only
  split
  · exact h
  · exact cellsWf_put resetVal _ _ _ 0 (Nat.zero_le k) h

theorem cellsWf_foldr {α : Type} [DecidableEq α] (d : Nat → α) (new old : List (Nat × α)) (h : cellsWf d 0 old = true) :
    cellsWf d 0 (new.foldr (fun c l => cellsPut d l c.1 c.2) old) = true := by
  induction new with
  | nil => exact h
  | cons c t ih => exact cellsWf_put d _ _ _ 0 (Nat.zero_le _) ih

/-- A command's footprint keeps the form, whatever its meaning wrote. -/
theorem regsCanonical_confine (f : Footprint) (s u : State) (h : RegsCanonical s) : RegsCanonical (s.confine f u) := by
  unfold RegsCanonical State.confine Regs.confine at *
  exact cellsWf_foldr resetVal _ _ (cellsWf_filter resetVal _ _ 0 h)

end Sys2Proof.Laws
end

