-- ==== Sys2Proof/Laws/Done.lean ====
section
/-! SUPPORT. A command's next state is `alertEdge s (s.confine f u)`: what each register and each part of it holds. A part or a
register in the footprint is that of the meaning's result `u`, any other one that of the state before. -/

namespace Sys2Proof.Laws
open Sys2Proof Sys2Proof.Machine

/-- A register in the footprint, HSP_IRQ apart. -/
theorem rd_done_in (f : Footprint) (s u : State) (g : Fld) (hf : f.holds g.key = true) (h : g.key ≠ 0x2006) :
    (State.alertEdge s (s.confine f u)).rd g = u.rd g := by rw [rd_done _ _ _ _ h, if_pos hf]

/-- A register outside the footprint. -/
theorem rd_done_out (f : Footprint) (s u : State) (g : Fld) (hf : f.holds g.key = false) (h : g.key ≠ 0x2006) :
    (State.alertEdge s (s.confine f u)).rd g = s.rd g := by rw [rd_done _ _ _ _ h, if_neg (by simp [hf])]

theorem points_done_in (f : Footprint) (s u : State) (h : f.has .points = true) :
    (State.alertEdge s (s.confine f u)).points = u.points := by rw [alertEdge_points]; simp [State.confine, h]

theorem points_done_out (f : Footprint) (s u : State) (h : f.has .points = false) :
    (State.alertEdge s (s.confine f u)).points = s.points := by rw [alertEdge_points]; simp [State.confine, h]

theorem tick_done_in (f : Footprint) (s u : State) (h : f.has .tick = true) :
    (State.alertEdge s (s.confine f u)).tick = u.tick := by rw [alertEdge_tick]; simp [State.confine, h]

theorem tick_done_out (f : Footprint) (s u : State) (h : f.has .tick = false) :
    (State.alertEdge s (s.confine f u)).tick = s.tick := by rw [alertEdge_tick]; simp [State.confine, h]

theorem balls_done_in (f : Footprint) (s u : State) (h : f.has .balls = true) :
    (State.alertEdge s (s.confine f u)).balls = u.balls := by rw [alertEdge_balls]; simp [State.confine, h]

theorem balls_done_out (f : Footprint) (s u : State) (h : f.has .balls = false) :
    (State.alertEdge s (s.confine f u)).balls = s.balls := by rw [alertEdge_balls]; simp [State.confine, h]

theorem power_done_in (f : Footprint) (s u : State) (h : f.has .power = true) :
    (State.alertEdge s (s.confine f u)).power = u.power := by rw [alertEdge_power]; simp [State.confine, h]

theorem power_done_out (f : Footprint) (s u : State) (h : f.has .power = false) :
    (State.alertEdge s (s.confine f u)).power = s.power := by rw [alertEdge_power]; simp [State.confine, h]

theorem clock_done_in (f : Footprint) (s u : State) (h : f.has .clock = true) :
    (State.alertEdge s (s.confine f u)).clock = u.clock := by rw [alertEdge_clock]; simp [State.confine, h]

theorem clock_done_out (f : Footprint) (s u : State) (h : f.has .clock = false) :
    (State.alertEdge s (s.confine f u)).clock = s.clock := by rw [alertEdge_clock]; simp [State.confine, h]

theorem therm_done_in (f : Footprint) (s u : State) (h : f.has .therm = true) :
    (State.alertEdge s (s.confine f u)).therm = u.therm := by rw [alertEdge_therm]; simp [State.confine, h]

theorem therm_done_out (f : Footprint) (s u : State) (h : f.has .therm = false) :
    (State.alertEdge s (s.confine f u)).therm = s.therm := by rw [alertEdge_therm]; simp [State.confine, h]

theorem boot_done_in (f : Footprint) (s u : State) (h : f.has .boot = true) :
    (State.alertEdge s (s.confine f u)).boot = u.boot := by rw [alertEdge_boot]; simp [State.confine, h]

theorem boot_done_out (f : Footprint) (s u : State) (h : f.has .boot = false) :
    (State.alertEdge s (s.confine f u)).boot = s.boot := by rw [alertEdge_boot]; simp [State.confine, h]

theorem heads_done_in (f : Footprint) (s u : State) (h : f.has .heads = true) :
    (State.alertEdge s (s.confine f u)).heads = u.heads := by rw [alertEdge_heads]; simp [State.confine, h]

theorem heads_done_out (f : Footprint) (s u : State) (h : f.has .heads = false) :
    (State.alertEdge s (s.confine f u)).heads = s.heads := by rw [alertEdge_heads]; simp [State.confine, h]

theorem bursts_done_in (f : Footprint) (s u : State) (h : f.has .bursts = true) :
    (State.alertEdge s (s.confine f u)).bursts = u.bursts := by rw [alertEdge_bursts]; simp [State.confine, h]

theorem bursts_done_out (f : Footprint) (s u : State) (h : f.has .bursts = false) :
    (State.alertEdge s (s.confine f u)).bursts = s.bursts := by rw [alertEdge_bursts]; simp [State.confine, h]

theorem shut_done_in (f : Footprint) (s u : State) (h : f.has .shut = true) :
    (State.alertEdge s (s.confine f u)).shut = u.shut := by rw [alertEdge_shut]; simp [State.confine, h]

theorem shut_done_out (f : Footprint) (s u : State) (h : f.has .shut = false) :
    (State.alertEdge s (s.confine f u)).shut = s.shut := by rw [alertEdge_shut]; simp [State.confine, h]

theorem cruise_done_in (f : Footprint) (s u : State) (h : f.has .cruise = true) :
    (State.alertEdge s (s.confine f u)).cruise = u.cruise := by rw [alertEdge_cruise]; simp [State.confine, h]

theorem cruise_done_out (f : Footprint) (s u : State) (h : f.has .cruise = false) :
    (State.alertEdge s (s.confine f u)).cruise = s.cruise := by rw [alertEdge_cruise]; simp [State.confine, h]

theorem stat_done_in (f : Footprint) (s u : State) (h : f.has .stat = true) :
    (State.alertEdge s (s.confine f u)).stat = u.stat := by rw [alertEdge_stat]; simp [State.confine, h]

theorem stat_done_out (f : Footprint) (s u : State) (h : f.has .stat = false) :
    (State.alertEdge s (s.confine f u)).stat = s.stat := by rw [alertEdge_stat]; simp [State.confine, h]

theorem ctx_done_in (f : Footprint) (s u : State) (h : f.has .ctx = true) :
    (State.alertEdge s (s.confine f u)).ctx = u.ctx := by rw [alertEdge_ctx]; simp [State.confine, h]

theorem ctx_done_out (f : Footprint) (s u : State) (h : f.has .ctx = false) :
    (State.alertEdge s (s.confine f u)).ctx = s.ctx := by rw [alertEdge_ctx]; simp [State.confine, h]

theorem loops_done_in (f : Footprint) (s u : State) (h : f.has .loops = true) :
    (State.alertEdge s (s.confine f u)).loops = u.loops := by rw [alertEdge_loops]; simp [State.confine, h]

theorem loops_done_out (f : Footprint) (s u : State) (h : f.has .loops = false) :
    (State.alertEdge s (s.confine f u)).loops = s.loops := by rw [alertEdge_loops]; simp [State.confine, h]

theorem prfs_done_in (f : Footprint) (s u : State) (h : f.has .prfs = true) :
    (State.alertEdge s (s.confine f u)).prfs = u.prfs := by rw [alertEdge_prfs]; simp [State.confine, h]

theorem prfs_done_out (f : Footprint) (s u : State) (h : f.has .prfs = false) :
    (State.alertEdge s (s.confine f u)).prfs = s.prfs := by rw [alertEdge_prfs]; simp [State.confine, h]

theorem traces_done_in (f : Footprint) (s u : State) (h : f.has .traces = true) :
    (State.alertEdge s (s.confine f u)).traces = u.traces := by rw [alertEdge_traces]; simp [State.confine, h]

theorem traces_done_out (f : Footprint) (s u : State) (h : f.has .traces = false) :
    (State.alertEdge s (s.confine f u)).traces = s.traces := by rw [alertEdge_traces]; simp [State.confine, h]

theorem scheds_done_in (f : Footprint) (s u : State) (h : f.has .scheds = true) :
    (State.alertEdge s (s.confine f u)).scheds = u.scheds := by rw [alertEdge_scheds]; simp [State.confine, h]

theorem scheds_done_out (f : Footprint) (s u : State) (h : f.has .scheds = false) :
    (State.alertEdge s (s.confine f u)).scheds = s.scheds := by rw [alertEdge_scheds]; simp [State.confine, h]

theorem rtc_done_in (f : Footprint) (s u : State) (h : f.has .rtc = true) :
    (State.alertEdge s (s.confine f u)).rtc = u.rtc := by rw [alertEdge_rtc]; simp [State.confine, h]

theorem rtc_done_out (f : Footprint) (s u : State) (h : f.has .rtc = false) :
    (State.alertEdge s (s.confine f u)).rtc = s.rtc := by rw [alertEdge_rtc]; simp [State.confine, h]

theorem afe_done_in (f : Footprint) (s u : State) (h : f.has .afe = true) :
    (State.alertEdge s (s.confine f u)).afe = u.afe := by rw [alertEdge_afe]; simp [State.confine, h]

theorem afe_done_out (f : Footprint) (s u : State) (h : f.has .afe = false) :
    (State.alertEdge s (s.confine f u)).afe = s.afe := by rw [alertEdge_afe]; simp [State.confine, h]

theorem act_done_in (f : Footprint) (s u : State) (h : f.has .act = true) :
    (State.alertEdge s (s.confine f u)).act = u.act := by rw [alertEdge_act]; simp [State.confine, h]

theorem act_done_out (f : Footprint) (s u : State) (h : f.has .act = false) :
    (State.alertEdge s (s.confine f u)).act = s.act := by rw [alertEdge_act]; simp [State.confine, h]

theorem gpio_done_in (f : Footprint) (s u : State) (h : f.has .gpio = true) :
    (State.alertEdge s (s.confine f u)).gpio = u.gpio := by rw [alertEdge_gpio]; simp [State.confine, h]

theorem gpio_done_out (f : Footprint) (s u : State) (h : f.has .gpio = false) :
    (State.alertEdge s (s.confine f u)).gpio = s.gpio := by rw [alertEdge_gpio]; simp [State.confine, h]

theorem bus_done_in (f : Footprint) (s u : State) (h : f.has .bus = true) :
    (State.alertEdge s (s.confine f u)).bus = u.bus := by rw [alertEdge_bus]; simp [State.confine, h]

theorem bus_done_out (f : Footprint) (s u : State) (h : f.has .bus = false) :
    (State.alertEdge s (s.confine f u)).bus = s.bus := by rw [alertEdge_bus]; simp [State.confine, h]

theorem flash_done_in (f : Footprint) (s u : State) (h : f.has .flash = true) :
    (State.alertEdge s (s.confine f u)).flash = u.flash := by rw [alertEdge_flash]; simp [State.confine, h]

theorem flash_done_out (f : Footprint) (s u : State) (h : f.has .flash = false) :
    (State.alertEdge s (s.confine f u)).flash = s.flash := by rw [alertEdge_flash]; simp [State.confine, h]

theorem psp_done_in (f : Footprint) (s u : State) (h : f.has .psp = true) :
    (State.alertEdge s (s.confine f u)).psp = u.psp := by rw [alertEdge_psp]; simp [State.confine, h]

theorem psp_done_out (f : Footprint) (s u : State) (h : f.has .psp = false) :
    (State.alertEdge s (s.confine f u)).psp = s.psp := by rw [alertEdge_psp]; simp [State.confine, h]

theorem hsp_done_in (f : Footprint) (s u : State) (h : f.has .hsp = true) :
    (State.alertEdge s (s.confine f u)).hsp = u.hsp := by rw [alertEdge_hsp]; simp [State.confine, h]

theorem hsp_done_out (f : Footprint) (s u : State) (h : f.has .hsp = false) :
    (State.alertEdge s (s.confine f u)).hsp = s.hsp := by rw [alertEdge_hsp]; simp [State.confine, h]

theorem tally_done_in (f : Footprint) (s u : State) (h : f.has .tally = true) :
    (State.alertEdge s (s.confine f u)).tally = u.tally := by rw [alertEdge_tally]; simp [State.confine, h]

theorem tally_done_out (f : Footprint) (s u : State) (h : f.has .tally = false) :
    (State.alertEdge s (s.confine f u)).tally = s.tally := by rw [alertEdge_tally]; simp [State.confine, h]

theorem cmp_done_in (f : Footprint) (s u : State) (h : f.has .cmp = true) :
    (State.alertEdge s (s.confine f u)).cmp = u.cmp := by rw [alertEdge_cmp]; simp [State.confine, h]

theorem cmp_done_out (f : Footprint) (s u : State) (h : f.has .cmp = false) :
    (State.alertEdge s (s.confine f u)).cmp = s.cmp := by rw [alertEdge_cmp]; simp [State.confine, h]

theorem wram_done_in (f : Footprint) (s u : State) (h : f.has .wram = true) :
    (State.alertEdge s (s.confine f u)).wram = u.wram := by rw [alertEdge_wram]; simp [State.confine, h]

theorem wram_done_out (f : Footprint) (s u : State) (h : f.has .wram = false) :
    (State.alertEdge s (s.confine f u)).wram = s.wram := by rw [alertEdge_wram]; simp [State.confine, h]

theorem landing_done_in (f : Footprint) (s u : State) (h : f.has .landing = true) :
    (State.alertEdge s (s.confine f u)).landing = u.landing := by rw [alertEdge_landing]; simp [State.confine, h]

theorem landing_done_out (f : Footprint) (s u : State) (h : f.has .landing = false) :
    (State.alertEdge s (s.confine f u)).landing = s.landing := by rw [alertEdge_landing]; simp [State.confine, h]

theorem fab_done_in (f : Footprint) (s u : State) (h : f.has .fab = true) :
    (State.alertEdge s (s.confine f u)).fab = u.fab := by rw [alertEdge_fab]; simp [State.confine, h]

theorem fab_done_out (f : Footprint) (s u : State) (h : f.has .fab = false) :
    (State.alertEdge s (s.confine f u)).fab = s.fab := by rw [alertEdge_fab]; simp [State.confine, h]

theorem age_done_in (f : Footprint) (s u : State) (h : f.has .age = true) :
    (State.alertEdge s (s.confine f u)).age = u.age := by rw [alertEdge_age]; simp [State.confine, h]

theorem age_done_out (f : Footprint) (s u : State) (h : f.has .age = false) :
    (State.alertEdge s (s.confine f u)).age = s.age := by rw [alertEdge_age]; simp [State.confine, h]

theorem svc_done_in (f : Footprint) (s u : State) (h : f.has .svc = true) :
    (State.alertEdge s (s.confine f u)).svc = u.svc := by rw [alertEdge_svc]; simp [State.confine, h]

theorem svc_done_out (f : Footprint) (s u : State) (h : f.has .svc = false) :
    (State.alertEdge s (s.confine f u)).svc = s.svc := by rw [alertEdge_svc]; simp [State.confine, h]

theorem fuses_done_in (f : Footprint) (s u : State) (h : f.has .fuses = true) :
    (State.alertEdge s (s.confine f u)).fuses = u.fuses := by rw [alertEdge_fuses]; simp [State.confine, h]

theorem fuses_done_out (f : Footprint) (s u : State) (h : f.has .fuses = false) :
    (State.alertEdge s (s.confine f u)).fuses = s.fuses := by rw [alertEdge_fuses]; simp [State.confine, h]

theorem jtag_done_in (f : Footprint) (s u : State) (h : f.has .jtag = true) :
    (State.alertEdge s (s.confine f u)).jtag = u.jtag := by rw [alertEdge_jtag]; simp [State.confine, h]

theorem jtag_done_out (f : Footprint) (s u : State) (h : f.has .jtag = false) :
    (State.alertEdge s (s.confine f u)).jtag = s.jtag := by rw [alertEdge_jtag]; simp [State.confine, h]

theorem freeCtr_done_in (f : Footprint) (s u : State) (h : f.has .freeCtr = true) :
    (State.alertEdge s (s.confine f u)).freeCtr = u.freeCtr := by rw [alertEdge_freeCtr]; simp [State.confine, h]

theorem freeCtr_done_out (f : Footprint) (s u : State) (h : f.has .freeCtr = false) :
    (State.alertEdge s (s.confine f u)).freeCtr = s.freeCtr := by rw [alertEdge_freeCtr]; simp [State.confine, h]

end Sys2Proof.Laws
end

