-- ==== Sys2Proof/Laws/Memory.lean ====
section
/-! SUPPORT. Every operation over a memory (working RAM, landing buffers, flash, tally store) keeps its canonical form. -/

namespace Sys2Proof.Laws
open Sys2Proof Sys2Proof.Machine

/-- Writing a run of cells keeps the form. -/
theorem cellsWf_putAll {α : Type} [DecidableEq α] (d : Nat → α) (vs : List α) :
    ∀ (l : List (Nat × α)) (k : Nat), cellsWf d 0 l = true → cellsWf d 0 (cellsPutAll d l k vs) = true := by
  induction vs with
  | nil => intro l k h; exact h
  | cons v vs ih => intro l k h; exact ih _ _ (cellsWf_put d l k v 0 (Nat.zero_le k) h)

/-- A write into a memory of words keeps the form (program port of the compressor, working RAM). -/
theorem cellsWf_wordMem_putAll (m : WordMem) (a : Nat) (ws : List Word) (h : cellsWf wordBlank 0 m.cells = true) :
    cellsWf wordBlank 0 (m.putAll a ws).cells = true := cellsWf_putAll wordBlank ws m.cells a h

/-- A pulse of the tally store keeps the form, whole or torn. -/
theorem cellsWf_pulseApply (m : List (Nat × Byte)) (p : Pulse) (h : cellsWf tallyBlank 0 m = true) :
    cellsWf tallyBlank 0 (pulseApply m p) = true := by
  unfold pulseApply
  generalize p.bytes = bs
  induction bs generalizing m with
  | nil => exact h
  | cons b bs ih => exact ih _ (cellsWf_put tallyBlank m _ b.2 0 (Nat.zero_le _) h)

/-- An erase of a block of flash, all of whose bytes then read 0xFF, keeps the form. -/
theorem cellsWf_erase (l : List (Nat × Byte)) (a n : Nat) (h : cellsWf flashBlank 0 l = true) :
    cellsWf flashBlank 0 (l.filter (fun x => Nat.blt x.1 a || Nat.ble (a + n) x.1)) = true :=
  cellsWf_filter flashBlank _ l 0 h

end Sys2Proof.Laws
end

