-- ==== Sys2Proof/Machine/Flags.lean ====
section
/-! DEFINITION. What the balls show of the state (Tables 3-1 and 3-4): their Reset states, the levels that they hold in function,
what the console forces on them, and the boundary scan. What a ball carries in time for a protocol is in the state of its
unit. -/

namespace Sys2Proof.Machine
open Sys2Proof

/-- What a ball does. -/
inductive Drive where
  | low
  | high
  /-- High impedance, with no pull, a weak pull-down or a weak pull-up. An open-drain ball that is released is `z`. -/
  | z
  | zDown
  | zUp
  /-- Switching in every PWM period, at a modulation of `d` / 65,536 (R299). -/
  | pwm (d : Nat)
  /-- Switching in every PWM period as a sine of amplitude `d` at an electrical angle in 1/5,625,000,000 of a turn (R297). -/
  | sine (d ang : Nat)
  /-- An analog output at a code (R314). -/
  | analog (code : Nat)
  /-- A crosspoint pin in its roles (R271); with none it is off. -/
  | pins (roles : List PinRole)
  /-- In function, carrying what its unit sends, receives or measures. -/
  | fn
  /-- Under the boundary register; which cell is whose the spec does not say (R393). -/
  | scan
  deriving DecidableEq, Repr

def Drive.ofBool (b : Bool) : Drive := if b then .high else .low

/-- An open-drain output: low while asserted. -/
def Drive.openDrain (asserted : Bool) : Drive := if asserted then .low else .z

/-! ### The ball map (Tables 3-1 and 3-4) -/

/-- The signal of a ball. -/
inductive Sig where
  | hrx (n : Nat)
  /-- Lane 0 to 3, or the clock, 4. -/
  | ctx (lane : Nat)
  | sync (n : Nat)
  | hrst (n : Nat)
  | crystal
  /-- A digital input, with its pull. -/
  | input (pull : Drive)
  | live
  | alert
  | sysoff
  | fclk
  | fcs (i : Nat)
  | fio
  | pspOut
  | pcs (k : Nat)
  | hso
  | hirq
  | svcTx
  | tdo
  | busTx (p : Nat)
  | busDe (p : Nat)
  | gpio (g : Nat)
  | ain (pin : Nat)
  | dac (d : Nat)
  | testmon
  | vg (v : Nat)
  | hsw (g : Nat)
  | fanPh (c ph : Nat)
  | fanEn (c : Nat)
  /-- VS, BEMF and ISNS: analog and comparator inputs. -/
  | sense
  deriving DecidableEq, Repr

/-- Signals `f 0`, `f 1`, … on the given columns of a row. -/
def ballRow (row : Nat) (cols : List Nat) (f : Nat → Sig) : List (Nat × Sig) :=
  (List.range cols.length).map (fun i => (ballNo row (cols.getD i 0), f i))

/-- Rows A to D. -/
def ballsAD : List (Nat × Sig) :=
  [1, 2, 3, 5, 6, 7, 9, 10, 11, 13, 14, 15].map (fun col => (ballNo 0 col, .hrx (col / 4))) ++
  [1, 2, 3, 5, 6, 7, 9, 10, 11, 13, 14, 15].map (fun col => (ballNo 1 col, .hrx (col / 4))) ++
  ballRow 2 [1, 5, 9, 13] .sync ++ ballRow 2 [2, 6, 10, 14] .hrst ++ ballRow 3 [1, 2] .ain ++
  ballRow 3 [4, 5] (fun _ => .crystal) ++ ballRow 3 [6, 7] (fun _ => .input .zDown) ++
  [(ballNo 3 8, .live), (ballNo 3 9, .alert), (ballNo 3 10, .sysoff), (ballNo 3 11, .svcTx), (ballNo 3 12, .input .zUp),
   (ballNo 3 13, .pcs 5), (ballNo 3 15, .ctx 0), (ballNo 3 16, .ctx 0)]

/-- Rows E to K. -/
def ballsEK : List (Nat × Sig) :=
  ballRow 4 [1, 2] (fun i => .ain (2 + i)) ++ ballRow 5 [1, 2] (fun i => .ain (4 + i)) ++
  ballRow 6 [1, 2] (fun i => .ain (6 + i)) ++ ballRow 7 [1, 2] (fun i => .ain (8 + i)) ++
  ballRow 8 [1, 2] (fun i => .ain (10 + i)) ++ ballRow 9 [1, 2] (fun i => .ain (12 + i)) ++
  [4, 5, 6, 7, 8].map (fun row => (ballNo row 4, .input .zDown)) ++
  [(ballNo 9 4, .input .zUp), (ballNo 4 13, .pspOut), (ballNo 5 13, .pspOut), (ballNo 6 13, .input .zDown),
   (ballNo 7 13, .pcs 0), (ballNo 8 13, .pcs 1), (ballNo 9 13, .pcs 2), (ballNo 4 15, .ctx 1), (ballNo 4 16, .ctx 1),
   (ballNo 5 15, .ctx 4), (ballNo 5 16, .ctx 4), (ballNo 6 15, .ctx 2), (ballNo 6 16, .ctx 2), (ballNo 7 15, .ctx 3),
   (ballNo 7 16, .ctx 3), (ballNo 8 15, .input .zUp), (ballNo 8 16, .input .zDown), (ballNo 9 14, .hirq),
   (ballNo 9 15, .hso), (ballNo 9 16, .input .zDown)]

/-- Rows L to U. -/
def ballsLU : List (Nat × Sig) :=
  ballRow 10 [1, 2] .dac ++ ballRow 11 [1, 2] (fun i => .dac (2 + i)) ++ ballRow 12 [1, 2] (fun i => .dac (4 + i)) ++
  [(ballNo 10 4, .input .zUp), (ballNo 10 13, .pcs 3), (ballNo 10 14, .fcs 1), (ballNo 10 15, .fcs 0), (ballNo 10 16, .fclk),
   (ballNo 11 3, .testmon), (ballNo 11 4, .tdo), (ballNo 11 13, .pcs 4), (ballNo 11 15, .fio), (ballNo 11 16, .fio),
   (ballNo 12 4, .crystal), (ballNo 12 5, .crystal), (ballNo 12 6, .busTx 0), (ballNo 12 7, .input .zUp),
   (ballNo 12 8, .busDe 0), (ballNo 12 9, .busTx 1), (ballNo 12 10, .input .zUp), (ballNo 12 11, .busDe 1),
   (ballNo 12 12, .gpio 3), (ballNo 12 13, .input .zDown), (ballNo 12 15, .fio), (ballNo 12 16, .fio)] ++
  ballRow 13 [1, 2, 3] (fun _ => .input .z) ++ [(ballNo 13 4, .gpio 0)] ++
  ballRow 13 [5, 6, 7, 8, 9, 10, 11, 12] (fun _ => .sense) ++ ballRow 13 [13, 14] .hsw ++
  ballRow 13 [15, 16] (fun i => .gpio (1 + i)) ++ ballRow 14 [1, 2, 3, 4, 5, 6, 7, 8, 9, 10, 11, 12] (fun _ => .sense) ++
  ballRow 14 [13, 14, 15, 16] (fun i => .vg (4 + i)) ++
  ballRow 15 [1, 2, 3, 4, 5, 6, 7, 8, 9, 10, 11, 12] (fun i => if i % 4 = 3 then .fanEn (i / 4) else .fanPh (i / 4) (i % 4)) ++
  ballRow 15 [13, 14, 15, 16] .vg

/-- The 159 signal balls (Table 3-1). -/
def ballMap : List (Nat × Sig) := ballsAD ++ ballsEK ++ ballsLU

/-- The signal of a ball; none for a supply or ground ball. -/
def sigOf (b : Nat) : Option Sig := (ballMap.find? (fun x => x.1 == b)).map (·.2)

/-- The Reset column of Table 3-4, but for LIVE (R20) and SYSOFF_N, which a latched assertion holds while only PGOOD is low
(R71, notes/assumptions/117). -/
def Sig.reset : Sig → Drive
  | .hrx _ | .ctx _ | .hrst _ | .sysoff | .hso | .hirq | .tdo | .ain _ | .dac _ | .testmon | .sense => .z
  | .sync _ | .fclk | .pspOut | .busDe _ | .gpio _ | .vg _ | .hsw _ | .fanPh _ _ | .fanEn _ => .zDown
  | .fcs _ | .fio | .pcs _ | .svcTx | .busTx _ => .zUp
  | .input pull => pull
  | .crystal => .fn
  | .live | .alert => .low

/-- The digital signal balls, which the boundary register covers (R393). -/
def Sig.digitalOut : Sig → Bool
  | .sync _ | .hrst _ | .live | .alert | .sysoff | .fclk | .fcs _ | .fio | .pspOut | .pcs _ | .hso | .hirq | .svcTx | .busTx _
  | .busDe _ | .gpio _ | .vg _ | .hsw _ | .fanPh _ _ | .fanEn _ => true
  | .hrx _ | .ctx _ | .crystal | .input _ | .tdo | .ain _ | .dac _ | .testmon | .sense => false

/-! ### Balls in function -/

/-- RESET_N or PGOOD is low (R61). -/
def State.inReset (s : State) : Bool := !(s.balls.resetN && s.balls.pgood)

/-- The device has started with BOOTSEL = 0b11: its balls keep their Reset state (R64). The balls of the console, of the HSP and
of the flash, which stay in service then (R115), are in function (notes/assumptions/117). -/
def State.serviceOnly (s : State) : Bool := s.stage == BStage.SERVICE_ONLY

/-- HIRQ_N is low while an enabled bit of HSP_IRQ is set (R353); released in reset. -/
def State.hirq (s : State) : Bool :=
  !s.inReset && !s.serviceOnly && (s.liveWord 0x2006 &&& s.rdKey 0x2007) != 0

/-- SYNCn: its pulse at the level of SYNCPOL while the head is in service, and from the first FT edge after a negotiation's
programming on (R140); else its Reset state (R134). -/
def State.syncDrive (s : State) (h : Nat) : Option Drive :=
  let x := s.head h
  if x.svc ∨ (x.neg = some .waitFs ∧ 1 ≤ x.negFt) then
    some (.ofBool (memSync s.balls.sync h == s.rdB (Reg.HEAD_CTRL_SYNCPOL h)))
  else none
where
  memSync (v : Vector Bool 4) (h : Nat) : Bool := if hh : h < 4 then v[h] else false

/-- HRST_Nn: driven from the first negotiation until its domain goes OFF (R135). -/
def State.hrstDrive (s : State) (h : Nat) : Option Drive := (s.head h).hrst.map Drive.ofBool

/-- The lanes of a port receive once its engine is up; those of an odd port bonded to the even one below, with that one
(R131). -/
def State.hrxOn (s : State) (n : Nat) : Bool :=
  s.blk (.head (Fin.ofNat 4 n)) != stDown ||
  (n % 2 == 1 && s.rdB (Reg.HEAD_LINKCFG_BOND (n - 1)) && s.blk (.head (Fin.ofNat 4 (n - 1))) != stDown)

/-- A lane of the transmitter in use: the clock and the lanes of CTX_LINK. -/
def State.ctxOn (s : State) (lane : Nat) : Bool :=
  s.blk .ctx != stDown && (lane == 4 || Nat.blt lane (2 ^ s.rd Reg.CTX_LINK_LANES))

/-- The actuator bank holds its channels: a section configures it, and its domain is not OFF (R75, R294). -/
def State.actUp (s : State) : Bool := s.blk .vlv != stDown

/-- A valve gate of a channel in use (R307). -/
def State.vgDrive (s : State) (v : Nat) : Option Drive :=
  if s.actUp && s.rdB (Reg.VLV_CFG_EN v) then some (.ofBool (s.valve v).vg) else none

/-- A high-side switch with a member in use (R309). -/
def State.hswDrive (s : State) (g : Nat) : Option Drive :=
  if s.actUp && (members g).any (fun v => s.rdB (Reg.VLV_CFG_EN v)) then some (.ofBool (s.hsw g).high) else none

/-- An analog output in use; its Reset state while D27 is OFF (R314). -/
def State.dacDrive (s : State) (d : Nat) : Option Drive :=
  if s.actUp && s.rdB (Reg.DAC_CFG_EN d) && s.domOn 27 then some (.analog (s.rd (Reg.DAC_VAL d))) else none

/-- A GPIO output drives the level of its STAT; an input is in function (R315). -/
def State.gpioDrive (s : State) (g : Nat) : Option Drive :=
  if s.rdB (Reg.GPIO_CFG_EN g) && s.blk .gpio != stDown then
    some (if s.rdB (Reg.GPIO_CFG_DIR g) then .ofBool (s.rdB (Reg.GPIO_STAT_LEVEL g)) else .fn)
  else none

/-- Are the half-bridges of a fan enabled? Not in FAULT, in WAIT and while CATCH observes; in STOPPED only to brake as a safe
state (Table 14-3, R293, R302). -/
def State.fanEnabled (s : State) (c : Nat) : Bool :=
  let st := s.fstate c
  st == FState.STARTING || st == FState.RUN || (st == FState.CATCH && (s.fan c).braking) ||
  (st == FState.STOPPED && decide ((s.fan c).cmd = .safe) && s.rdB (Reg.FAN_CFG_SAFEBRK c))

/-- The phase that a six-step vector switches at D (PRESUMED, notes/assumptions/105): A, A, B, B, C, C. The others are low, one of
them floated with its PH low (R297). -/
def sixStepPhase (step : Nat) : Nat := step / 2 % 3

/-- A phase of a fan (R296, R297, R300): low while braking, while off and for the rest of a period that the current limit has
cut; in a start and in six-step commutation the vector in force; in sinusoidal commutation a third of a turn behind the phase
before it, and low for 15 electrical degrees around its expected crossing where crossings are observed. -/
def State.fanPhase (s : State) (c ph : Nat) : Drive :=
  let f := s.fan c
  let st := s.fstate c
  if f.cut ∨ !(st == FState.STARTING || st == FState.RUN) then .low
  else if st = FState.RUN ∧ s.rdB (Reg.FAN_CFG_COMM c) then
    let ang := (f.ang + fanTurn - ph * (fanTurn / 3)) % fanTurn
    let half := ang % (fanTurn / 2)
    let near := half ≤ fanTurn / 48 ∨ fanTurn / 2 - fanTurn / 48 ≤ half
    if near ∧ s.rd (Reg.FAN_CFG_FGSRC c) ≠ 2 then .low else .sine f.d ang
  else if sixStepPhase f.step = ph then .pwm f.d
  else .low

def State.fanDriven (s : State) (c : Nat) : Bool := s.actUp && s.rdB (Reg.FAN_CFG_EN c)

/-- The running PSP transaction asserts select `k` (R345). -/
def State.pspSelects (s : State) (k : Nat) : Bool :=
  match s.psp.running with
  | some (.host sel _) => sel == k
  | some (.setting h) | some (.head h) => s.rd (Reg.HEAD_CTRL_PCS h) == k
  | none => false

/-- What a signal does in function; none where its ball keeps its Reset state: its block is DOWN or its function is not used
(R61, R75). A serial port's outputs show their idle levels between transfers. -/
def State.sigFn (s : State) (x : Sig) : Option Drive :=
  match x with
  | .hrx n => if s.hrxOn n then some .fn else none
  | .ctx lane => if s.ctxOn lane then some .fn else none
  | .sync n => s.syncDrive n
  | .hrst n => s.hrstDrive n
  | .live => some (.ofBool s.balls.live)
  | .alert => some (.openDrain s.alert)
  | .sysoff => some (.openDrain s.balls.sysoff)
  | .fclk => if s.blk .flw = stDown then none else some (if s.flash.running.isSome then .fn else .low)
  | .fcs i =>
    if s.blk .flw = stDown ∨ s.rd (Reg.FLW_CHIP_NSTAT i) = Status.HOLE then none
    else some (if s.flash.running.isSome then .fn else .high)
  | .fio => if s.blk .flw = stDown then none else some .fn
  | .pspOut => if s.blk .psp = stDown then none else some .fn
  | .pcs k => if s.blk .psp = stDown then none else some (if s.pspSelects k then .low else .high)
  | .hso => if s.blk .hsp = stDown ∨ s.hsp.xfer = .none then none else some .fn
  | .hirq => some (.openDrain s.hirq)
  | .svcTx => some .fn
  | .busTx p => if s.blk (.bus (Fin.ofNat 2 p)) = stDown then none else some .high
  | .busDe p => if s.blk (.bus (Fin.ofNat 2 p)) = stDown then none else some .low
  | .gpio g => s.gpioDrive g
  | .ain pin => match s.pinRoles pin with | [] => none | rs => some (.pins rs)
  | .dac d => s.dacDrive d
  | .testmon => if s.rd Reg.SVC_MON = 0 then none else some .fn
  | .vg v => s.vgDrive v
  | .hsw g => s.hswDrive g
  | .fanPh c ph => if s.fanDriven c then some (s.fanPhase c ph) else none
  | .fanEn c => if s.fanDriven c then some (.ofBool (s.fanEnabled c)) else none
  | .crystal | .input _ | .tdo | .sense => none

/-- In reset every ball takes its Reset state; LIVE is low while RESET_N is low and keeps its level while only PGOOD is, and
SYSOFF_N keeps what a comparator has latched (R20, R61, R71). -/
def State.sigReset (s : State) (x : Sig) : Drive :=
  match x with
  | .live => if s.balls.resetN then .ofBool s.balls.live else .low
  | .sysoff => .openDrain s.balls.sysoff
  | x => x.reset

/-- A ball with BOOTSEL = 0b11 that is not kept in its Reset state (R64, R115). -/
def Sig.inServiceOnly : Sig → Bool
  | .svcTx | .hso | .fclk | .fcs _ | .fio | .live | .alert | .sysoff => true
  | _ => false

/-- What a signal ball does out of reset, before any force. -/
def State.sigDrive (s : State) (x : Sig) : Drive :=
  if s.serviceOnly && !x.inServiceOnly then x.reset
  else (s.sigFn x).getD x.reset

def Drive.forced : BallForce → Drive
  | .high => .high
  | .low => .low
  | .z => .z

/-- What a ball does; none for a supply or ground ball. Unpowered, or fused off, nothing (Table 3-4, R76); in reset its Reset state
(R62); in EXTEST and HIGHZ, while the device is in SERVICE, what the boundary scan makes of it (R393); else what the console forces it to or a protection resets it to (R65), else its own. -/
def State.ballDrive (s : State) (b : Nat) : Option Drive :=
  (sigOf b).map (fun x =>
    if !s.power.aon || s.ballFused b then .z
    else if s.inReset then s.sigReset x
    else if s.service && x.digitalOut && decide (s.jtag.reg = .highz) then .z
    else if s.service && x.digitalOut && decide (s.jtag.reg = .extest) then .scan
    else match s.balls.forced.find? (fun f => f.1 == b) with
      | some f => .forced f.2
      | none => if memNat b s.balls.resets then x.reset else s.sigDrive x)

end Sys2Proof.Machine
end

