-- ==== Sys2Proof/Tests/Slice0.lean ====
section
/-! SUPPORT. Ill-formed commands, worked examples of the spec, and for every statement with hypotheses a state and operands that
meet them (witness_<statement>). -/

namespace Sys2Proof.Tests
open Sys2Proof Sys2Proof.Machine Sys2Proof.Safety

set_option Elab.async false

/-- The state after reset with the rails good and RESET_N high. -/
def live : State :=
  { State.reset with balls := { Balls.init with resetN := true, pgood := true }, power := { Power.init with aon := true } }

/-- The same with blocks in service and unlocked. -/
def ready (bs : List Blk) : State :=
  bs.foldl (fun s b => (s.wr b.stateFld stInService).wrB b.unlockedFld true) live

/-- A state with some fields of registers set. -/
def put (l : List (Fld × Nat)) (s : State) : State := l.foldl (fun s f => s.wr f.1 f.2) s

/-- The same, in SERVICE. -/
def serviced (s : State) : State := s.wrB Reg.SVC_STAT_SVC true

/-- A state with one point. -/
def withPoint (n : Nat) (q : Quality) (age : Nat) (src : PSrc) (shadow : Option PVal) (s : State) : State :=
  { s with points := [(n, { v := { value := 5#18, quality := q, age := age }, format := .frac, source := src, hold := 10,
                            shadow := shadow })] }

/-- A state with some domains ON. -/
def powered (l : List Nat) (s : State) : State := l.foldl (fun s d => s.setDom d { st := .on, pend := none }) s

/-- A state in which sections of the given types and units have been loaded. -/
def loaded (l : List (Nat × Nat)) (s : State) : State :=
  { s with boot := { s.boot with secFrom := l.map (fun x => (x.1, x.2, .copyA)) } }

/-- The port is alive, with a transfer under way. -/
def transfer (x : HspXfer) (s : State) : State := { powered [3] s with hsp := { HspSt.init with xfer := x } }

/-! ### Ill-formed commands: one for each check of `Instr.WellFormed` -/

theorem test_wf_image_line : ¬ Instr.WellFormed (.imageLine 0 0 false (List.replicate 37458 0) true true) := by
  simp only [Instr.WellFormed, List.length_replicate]; omega

theorem test_wf_telemetry_type : ¬ Instr.WellFormed (.telemetryPacket 0 0 64 [] true) := by simp [Instr.WellFormed]

theorem test_wf_telemetry_length : ¬ Instr.WellFormed (.telemetryPacket 0 0 0x12 (List.replicate 65536 0) true) := by
  simp only [Instr.WellFormed, List.length_replicate]; omega

/-- A descriptor that is not 64 bytes long is refused (R138). -/
theorem test_wf_descriptor : ¬ Instr.WellFormed (.descriptorReadDone 0 [] []) := by simp [Instr.WellFormed]

theorem test_wf_head_set_write : ¬ Instr.WellFormed (.headSetWrite 0 0x3F0 0) := by
  show ¬ (findRow 0x3F0 rowsHEAD).isSome; decide +kernel

theorem test_wf_burst_end : ¬ Instr.WellFormed (.burstEnd [7, 7] 0) := by show ¬ [7, 7].Nodup; decide

theorem test_wf_pixel_window : ¬ Instr.WellFormed (.pixelWindowWrite (2 ^ 29) 0) := by simp [Instr.WellFormed]

theorem test_wf_statistics : ¬ Instr.WellFormed (.statisticsPassEnd [7, 7]) := by show ¬ [7, 7].Nodup; decide

/-- A station address is an octet, and the length field has 16 bits. -/
def mstpFrame (dst src len : Nat) : MstpFrame :=
  { ftype := .token, dst := dst, src := src, len := len, hdrOk := true, dataOk := true }

theorem test_wf_mstp_frame : ¬ Instr.WellFormed (.mstpFrameReceived 0 (mstpFrame 256 0 0)) ∧
    ¬ Instr.WellFormed (.mstpFrameReceived 0 (mstpFrame 0 256 0)) ∧
    ¬ Instr.WellFormed (.mstpFrameReceived 0 (mstpFrame 0 0 65536)) := by
  refine ⟨?_, ?_, ?_⟩ <;> (simp only [Instr.WellFormed]; decide)

theorem test_wf_who_is : ¬ Instr.WellFormed (.whoIs 0 (some (0, 4194304))) := by simp [Instr.WellFormed, maxInstance]

/-- A requester on the port's own segment. -/
def near (mac : Nat) : BAddr := { mac := mac, route := none }

/-- One behind a router whose network number is the broadcast number. -/
theorem test_wf_route : ¬ Instr.WellFormed (.unrecognizedService 0 { mac := 1, route := some (65535, []) } true) := by
  simp only [Instr.WellFormed]; decide

theorem test_wf_read_property : ¬ Instr.WellFormed (.readProperty 0 (near 255) (.device 0) .presentValue none) ∧
    ¬ Instr.WellFormed (.readProperty 0 (near 0) (.obj .bv 4194304) .presentValue none) := by
  constructor <;> (simp only [Instr.WellFormed]; decide)

theorem test_wf_read_property_multiple : ¬ Instr.WellFormed (.readPropertyMultiple 0 (near 255) []) ∧
    ¬ Instr.WellFormed (.readPropertyMultiple 0 (near 0) [(.device 4194304, [])]) := by
  constructor <;> (simp only [Instr.WellFormed]; decide)

theorem test_wf_write_property : ¬ Instr.WellFormed (.writeProperty 0 (near 255) (.device 0) .presentValue .null none) ∧
    ¬ Instr.WellFormed (.writeProperty 0 (near 0) (.unsupported 0 4194304) .presentValue .null none) := by
  constructor <;> (simp only [Instr.WellFormed]; decide)

theorem test_wf_subscribe : ¬ Instr.WellFormed (.subscribeCov 0 (near 0) (2 ^ 32) (.device 0) false false 0) ∧
    ¬ Instr.WellFormed (.subscribeCov 0 (near 0) 0 (.device 0) false false (2 ^ 32)) ∧
    ¬ Instr.WellFormed (.subscribeCov 0 (near 255) 0 (.device 0) false false 0) := by
  refine ⟨?_, ?_, ?_⟩ <;> (simp only [Instr.WellFormed]; decide)

theorem test_wf_unrecognized : ¬ Instr.WellFormed (.unrecognizedService 0 (near 255) true) := by
  simp only [Instr.WellFormed]; decide

theorem test_wf_modbus : ¬ Instr.WellFormed (.modbusResponse 0 (List.replicate 257 0) true) := by
  simp only [Instr.WellFormed, List.length_replicate]; omega

theorem test_wf_flash_window : ¬ Instr.WellFormed (.flashWindowWrite 1 0) ∧ ¬ Instr.WellFormed (.flashWindowWrite (2 ^ 30) 0) := by
  simp [Instr.WellFormed]

theorem test_wf_psp : ¬ Instr.WellFormed (.pspTransactionDone (List.replicate 65 0)) := by
  simp only [Instr.WellFormed, List.length_replicate]; omega

theorem test_wf_tally_window : ¬ Instr.WellFormed (.tallyWindowWrite 1 0) ∧ ¬ Instr.WellFormed (.tallyWindowWrite (2 ^ 30) 0) := by
  simp [Instr.WellFormed]

theorem test_wf_console_line : ¬ Instr.WellFormed (.consoleLine [0x41, 0x0D]) := by
  show ¬ ([0x41#8, 0x0D#8].all (fun c => c != 0x0D) = true); decide

theorem test_wf_jtag_sample : ¬ Instr.WellFormed (.jtagSamplePreload [true] []) := by simp [Instr.WellFormed]

theorem test_wf_jtag_factory : ¬ Instr.WellFormed (.jtagFactory 0x7F) ∧ ¬ Instr.WellFormed (.jtagFactory 0xFF) := by
  simp [Instr.WellFormed]

/-! ### The spec's worked examples -/

/-- R33, the example of a coherent frame-number read: FRAME is 1,000,000, so SYS_FRAME0 reads 0x3_4240 and captures 3. -/
theorem test_frame_number :
    let s : State := { loaded [(0x01, 0)] State.reset with tick := { Tick.init with frame := 1000000 } }
    (s.hostRead false 0x0023).1.word = 0x34240 ∧ ((s.hostRead false 0x0023).2.hostRead false 0x0024).1.word = 3 := by
  decide +kernel

/-- The example below R18: the default STINC is 337,769,972. -/
theorem test_stinc : State.reset.stinc = 337769972 := by decide +kernel

/-- R393: the IDCODE of an SLZ4860, but for the bits of its revision. -/
theorem test_idcode : State.reset.idcode % 2 ^ 28 = 0x048605A7 := by
  have h : State.reset.variant = .slz4860 := by decide +kernel
  simp only [State.idcode, h]
  omega

/-- Table 12-2: the first steps of a 1 K ramp. A, V and the distance moved, in units of 2^17, after steps 1, 2, 3 and 8. -/
theorem test_ramp :
    let p0 : Int := 150000 * 2 ^ 24
    let next := fun (o : PrfOut) => prfStep o.p o.v o.a (150512 * 2 ^ 24) (256 * 2 ^ 16) (4096 * 2 ^ 8) 131072
    let st : Nat → PrfOut := fun n => (List.range n).foldl (fun o _ => next o) ⟨p0, 0, 0, none⟩
    let row := fun n => ((st n).a / 2 ^ 17, (st n).v / 2 ^ 17, ((st n).p - p0) / 2 ^ 17, prfOutput (st n).p false)
    row 1 = (1, 1, 1, 150000) ∧ row 2 = (2, 3, 4, 150000) ∧ row 3 = (3, 6, 10, 150000) ∧ row 7 = (7, 28, 84, 150001) ∧
      row 8 = (8, 36, 120, 150001) := by
  decide +kernel

/-- Table 11-6: the fan loop from MANUAL to AUTO and into its limit: I and u at n1 to n6, in class ACT and in class CAS. -/
theorem test_fan_loop :
    let c (act : Bool) : Coef := { b0 := 65536, b1 := 0, b2 := 0, a1 := 0, a2 := 0, c0 := 65554, c1 := -65536, d1 := 0, eb := 1, ef := 2, olo := 0,
                                   ohi := 98304, int := true, act := act }
    let h0 : Hist := { i := 0, e1 := 0, e2 := 0, w1 := 0, w2 := 0, x1 := 0, y1 := 0 }
    let run := fun (act : Bool) =>
      let n1 := (lawPreset (c act) (lawManual (c act) h0 (some 16384) 0 52429).1 16384 0 52429).1
      let next := fun (o : LawOut) (e : Int) => lawStep (c act) o.hist e 0 o.sat o.satHi
      let n2 := next n1 16384
      let n3 := next n2 32768
      let n4 := next n3 49152
      let n5 := next n4 49152
      let n6 := next n5 32768
      [n1, n2, n3, n4, n5, n6].map (fun o => (o.hist.i, o.u))
    run true = [(6871973888, 52429), (6873153536, 52438), (11170480128, 85224), (15468986368, 98304), (15468986368, 98304),
      (11176378368, 85269)] ∧
    run false = [(6871973888, 52429), (6873153536, 52438), (11170480128, 85224), (12884901888, 98304), (12884901888, 98304),
      (8592293888, 65554)] := by
  decide +kernel

/-- Table 8-8, stages 3, 4 and 7: c_d of the pixel, and its TMP in the still and in the moved scene. -/
theorem test_pixel :
    let d := driftOffset 30000 (-12800) 16384 896
    let cx : BurstCtx := { width := 1280, height := 1024, frame := 0, d := List.replicate 64 d, gt := List.replicate 64 64512
                           refine := true, rgate := 40, rdead := 4, rflat := 200, alpha256 := false, mlo := 128, mhi := 1024, alo := 32,
                           cvo := 13811, wlo := 5262, wscl := 841, lut := [], pair := [] }
    let p : Px := { tmp := 151250, bkg := 150784, gn := 69632, ofs := 7938, map := BitVec.ofNat 18 (17 * 1024 + 37) }
    p.dcls = 17 ∧ p.stand = 37 ∧ d = 29979 ∧ stage34 cx p 9412 = ⟨33062, false, false⟩ ∧ stage7 cx 151250 151320 = 151259 ∧
      stage7 cx 151250 152000 = 151798 := by
  decide +kernel

/-- R181: the new OFS of a pixel whose sixteen deviations sum to −3,780, at L = 9,650. -/
theorem test_finalize :
    (finalizePx 9650 16 [{ tmp := 0, bkg := 0, gn := 0, ofs := BitVec.ofInt 18 (-3780), map := 0 }] []).map (·.ofs) = [9414] := by
  decide +kernel

/-- Table 9-5: the correction pair of the stand, and stage 6 of the pixel. -/
theorem test_kelvin :
    let c : Curve := { cvb := 91392, cvr := 2400000, cvf := 65536, cvo := 13811, tlo := 119373, thi := 216576 }
    let lut := List.replicate 720 0#18 ++ [151320, 151352]
    corrPair c 124535 150093 = (4311, 924) ∧ stage6 13811 5262 841 lut 4311 924 33062 = (151320, false) := by
  decide +kernel

/-- Table 9-5: the limits of the conversion table and its entries 720 and 721. -/
theorem test_table :
    let c : Curve := { cvb := 91392, cvr := 2400000, cvf := 65536, cvo := 13811, tlo := 119373, thi := 216576 }
    (c.w (.ofInt 119373)).floor = 5262 ∧ 2 ^ 14 * 4095 / ((c.w (.ofInt 216576)).floor - 5262).toNat = 841 ∧
      lutEntry c (lutW 5262 841 720) = 151320 ∧ lutEntry c (lutW 5262 841 721) = 151352 := by
  decide +kernel

/-- Table 17-6: the 4 × 2 plane is coded in 42 bytes, k = 3 on line 0 and k = 2 on line 1, and decodes to itself. -/
theorem test_plane :
    let p : Plane := { kind := 0, width := 4, height := 2, bits := 18, signed := false, pred := 2, blklines := 2, head := 0, set := 0, frame := 0,
                       samples := [150000, 150010, 150020, 150030, 150005, 150012, 150019, 150033] }
    (encodePlane p []).1.length = 42 ∧ bestK 18 [224287, 20, 20, 20] = 3 ∧ bestK 18 [10, 4, 1, 8] = 2 ∧
      (match decodePlane (encodePlane p []).1 with
       | .ok (q, _, rest) => decide (q.samples = p.samples) && rest.isEmpty
       | .error _ => false) = true := by
  decide +kernel

/-! ### Witnesses of the statements' hypotheses -/

theorem witness_StepTakesFrontCommand :
    ({ live with pending := [.stEdge, .ftEdge] }).pending = Instr.stEdge :: [.ftEdge] := rfl

theorem witness_SampleEdge :
    live.d0Up = true ∧ live.tick.running = true ∧ live.tick.ftDue = false ∧ 0 < live.stinc := by decide +kernel

theorem witness_FrameEdgeAndLive :
    let s : State := { live with tick := { Tick.init with ftDue := true, liveDue := true } }
    let t : State := { s with tick := { s.tick with pend := some (43980466, 16) } }
    s.up = true ∧ s.d0Up = true ∧ t.d0Up = true ∧ s.tick.running = true ∧ s.tick.ftDue = true ∧ s.tick.pend = none ∧ s.tick.liveDue = true ∧ t.tick.running = true ∧
      t.tick.ftDue = true ∧ t.tick.pend ≠ none := by decide +kernel

/-- The clauses on allowed writes in SERVICE with a staged low part at the least increment, outside it with nothing changed; a
commit out of range, and one beyond capacity (more pixels than the store holds). -/
theorem witness_TickRegisterWrites :
    let s := serviced (ready [.sys])
    let u : State := { s with tick := { s.tick with staged := some (BitVec.ofNat 18 (43980466 % 2 ^ 18)) } }
    let w := put [(Reg.SYS_STINC0, 43980466 % 2 ^ 18), (Reg.SYS_STINC1, 43980466 / 2 ^ 18), (Reg.SYS_FTDIV, 16)] s
    let x := put [(Reg.HEAD_WIDTH 0, 4095), (Reg.HEAD_HEIGHT 0, 4095)] w
    Accepts s .sys ∧ s.service = true ∧ s.unlocked .sys = true ∧
      Accepts (ready [.sys]) .sys ∧ (ready [.sys]).service = false ∧
      u.stincWith (43980466 / 2 ^ 18) = 43980466 ∧ 16 ≤ u.ftdiv ∧ u.ftdiv ≤ 4096 ∧ u.capacity 43980466 u.ftdiv = 0 ∧
      w.stinc = 43980466 ∧ w.capacity w.stinc 16 = 0 ∧ w.capacity w.stinc 4096 = 0 ∧ s.stincWith 0 < 43980466 ∧ x.stinc = 43980466 ∧ x.capacity x.stinc 16 ≠ 0 ∧ Accepts x .sys := by
  unfold Accepts; decide +kernel

theorem witness_FrameNumberRead :
    let s : State := { live with boot := { BootState.init with secFrom := [(0x01, 0, .copyA)] } }
    s.up = true ∧ s.engineLoaded .tick = true ∧ s.rdKey (latchKey 0x0024) = 0 := by decide +kernel

theorem witness_PointQuality :
    let held := withPoint 4095 .held 11 .host none live
    let old := withPoint 0 .fresh 65535 (.thm 0) none live
    let forced := withPoint 0 .forced 0 .host (some { value := 0#18, quality := .fresh, age := 65535 }) live
    (held.up = true ∧ old.up = true ∧ forced.up = true) ∧ (∃ p, held.point 4095 = some p ∧ p.shadow = none ∧ p.v.quality = .held ∧ p.hold < p.v.age) ∧
      (∃ p i, old.point 0 = some p ∧ p.shadow = none ∧ old.interval p.source = some i ∧ overdue p.v.age i = true ∧
        p.v.quality = .fresh) ∧
      (∃ p sh, forced.point 0 = some p ∧ p.v.quality = .forced ∧ p.shadow = some sh) :=
  ⟨by decide +kernel, ⟨_, rfl, rfl, rfl, by decide⟩, ⟨_, _, rfl, rfl, rfl, by decide, rfl⟩, ⟨_, _, rfl, rfl, rfl⟩⟩

theorem witness_PointCommandOutcomes :
    let s := put [(Reg.POINT_FNUM, 4095)] (withPoint 4095 .fresh 0 .host none (ready [.point]))
    let f := put [(Reg.POINT_FNUM, 4095)]
      (withPoint 4095 .forced 0 .host (some { value := 0#18, quality := .fresh, age := 1 }) (ready [.point]))
    let t := withPoint 4095 .fresh 0 (.gpio 0) none (ready [.point])
    let d : State := { t with therm := { t.therm with tripped := true } }
    (s.up = true ∧ s.therm.tripped = false ∧ t.up = true ∧ t.therm.tripped = false ∧ d.up = true ∧ d.therm.tripped = true) ∧
      Accepts s .point ∧ s.unlocked .point = true ∧ (∃ p, s.point (s.rd Reg.POINT_FNUM) = some p ∧ p.source = .host) ∧
      Accepts f .point ∧ (∃ p sh, f.point (f.rd Reg.POINT_FNUM) = some p ∧ p.source = .host ∧ p.shadow = some sh) ∧
      (f.points.map (fun c => c.1)).Nodup ∧ (∀ p, t.point 4095 = some p → p.source ≠ .host) ∧
      Accepts t .point ∧ t.unlocked .point = true ∧ t.point (t.rd Reg.POINT_FNUM) = none ∧
      Accepts (put [(Blk.point.unlockedFld, 0)] s) .point ∧ (put [(Blk.point.unlockedFld, 0)] s).unlocked .point = false := by
  refine ⟨by decide +kernel, by unfold Accepts; decide +kernel, by decide +kernel, ⟨_, rfl, rfl⟩, by unfold Accepts; decide +kernel,
    ⟨_, _, rfl, rfl, rfl⟩, by decide +kernel, ?_, by unfold Accepts; decide +kernel, by decide +kernel,
    by decide +kernel, by unfold Accepts; decide +kernel, by decide +kernel⟩
  intro p h
  have : p = ⟨⟨5#18, .fresh, 0⟩, .frac, .gpio 0, 10, none⟩ := by
    simpa [State.point, withPoint, assocGet] using h.symm
  simp [this]

theorem witness_LocksAndService :
    let s := ready [.svc, .sys]
    let v := serviced s
    let f : State := { s with balls := { Balls.init with forced := [(vgBall 7, .high)] } }
    let d := put [(Blk.fab.stateFld, stDrain)] s
    (s.up = true ∧ f.up = true ∧ v.up = true ∧ d.up = true ∧ d.therm.tripped = false ∧ live.up = true) ∧
      (s.therm.tripped = false ∧ s.blkPresent .sys = true ∧ s.blk .sys ≠ stDrain ∧ s.blk .sys ≠ stLoading) ∧
      (Accepts s .svc ∧ s.unlocked .svc = true ∧ s.service = false ∧ (∀ e : Engine, s.eng e ≠ stDrain ∧ s.eng e ≠ stLoading)) ∧
      (Accepts v .svc ∧ v.unlocked .svc = true ∧ v.service = true ∧ v.rd Reg.BOOT_STAT_STAGE ≠ 8 ∧
        v.rd Reg.BOOT_STAT_STAGE ≠ 9) ∧
      (f.balls.forced.any fun x => x.1 == vgBall 7 && decide (x.2 = .high)) = true ∧
      live.unlocked .svc = false ∧ d.eng .fab = stDrain := by
  refine ⟨by decide +kernel, by decide +kernel, ⟨by unfold Accepts; decide +kernel, by decide +kernel, by decide +kernel, ?_⟩,
    by unfold Accepts; decide +kernel, by decide +kernel, by decide +kernel, by decide +kernel⟩
  intro e
  cases e <;> first | decide +kernel | (rename_i k; revert k; decide +kernel)

theorem witness_HspReads :
    (powered [3] live).hspAlive = true ∧
      (let s := transfer (.active false true 0x03FF false) live
       s.hspAlive = true ∧ s.hsp.xfer = .active false true 0x03FF false) ∧
      (let s := transfer (.active false true 0xBFFF true) live
       s.hspAlive = true ∧ s.hsp.xfer = .active false true 0xBFFF true) := by decide +kernel

theorem witness_HspWritesAndEnds :
    let s := transfer (.active true true 0xFFFF false) (ready [.hsp])
    let n := transfer .none live
    s.hspAlive = true ∧ s.hsp.xfer = .active true true 0xFFFF false ∧ s.therm.tripped = false ∧
      onesBelow (0x200001#24).toNat 22 % 2 = 0 ∧ onesBelow (0x200000#24).toNat 22 % 2 = 1 ∧ Accepts s .hsp ∧
      n.hspAlive = true ∧ n.hsp.xfer = .none := by
  unfold Accepts; decide +kernel

/-- A DIRECT section of 129 bytes, of which block 1 has a single one. -/
def direct : SecRec :=
  { type := 0x20, unit := 0, cls := 1, coding := 0, offset := 4096, length := 129, outlen := 129, digest := [] }

theorem witness_WindowsAndReadEffects :
    let s : State := { live with hsp := { HspSt.init with wins := HspSt.init.wins.set 3 { Win.init with fetch := [7] } } }
    let d : State := { live with boot := { BootState.init with
      inForce := some (.copyA, { seq := 0, privlock := false, total := 8192, planlen := 0, secs := [direct] }), directSeen := [0] } }
    let r := loaded [(0x01, 0), (0x07, 0)] live
    let p : State := { live with flash := { FlashSt.init with running := some (.program 0 0 []) }
                                 hsp := { HspSt.init with wins := HspSt.init.wins.set 2 { Win.init with fetch := [7] } } }
    (s.up = true ∧ d.up = true ∧ d.chipBusy 0 = false ∧ r.up = true ∧ (p.win 2).fetch = 7 :: [] ∧
        p.chipBusy (64 * 7 / 2 ^ 27) = true) ∧ (s.win 3).fetch = 7 :: [] ∧
      (∃ h, d.boot.inForce = some (.copyA, h) ∧ h.secs.find? (fun r => r.type == 0x20 && r.unit == 0) = some direct) ∧
      128 * 1 < direct.length ∧ memNat 0 d.boot.directSeen = true ∧
      r.regKey 0x0023 = some (.sys, 0x23) ∧ r.engineLoaded Blk.sys.engine = true ∧ 0x24 ∈ capturesOf 0x0023 ∧
      r.regKey 0x6605 = some (.ctl 0, 0x6605) ∧ r.engineLoaded (Blk.ctl 0).engine = true ∧
      (∃ f, rcFields 0x6605 = [f] ∧ f.lo ≤ f.hi ∧ f.hi < 18) :=
  ⟨by decide +kernel, by decide +kernel, ⟨_, rfl, by decide +kernel⟩, by decide +kernel, by decide +kernel, by decide +kernel, by decide +kernel,
    by decide +kernel, by decide +kernel, by decide +kernel, ⟨_, rfl, by decide, by decide⟩⟩

/-- With every slice ON no word's own slice answers DOWN, whichever it is. -/
theorem slices_on (s : State) (h : ∀ i : Fin 8, s.domOn (14 + i.val) = true) (ks : List Nat) : s.sliceDown ks = none := by
  simp only [State.sliceDown, List.find?_eq_none, List.mem_map]
  rintro _ ⟨k, -, rfl⟩
  simp [h]

/-- Where the pixel store's words stand is open: where word 0 is a map word of head 0, a state with one pixel, every slice ON and
the port DOWN meets the premises of the last clause of the windows. -/
theorem witness_PixelWindow (h : (powered [14, 15, 16, 17, 18, 19, 20, 21] { live with
      heads := live.heads.set 0 { HeadSt.init with px := [Px.fresh] } }).place 0 = .map 0 0) :
    let s := powered [14, 15, 16, 17, 18, 19, 20, 21]
      { live with heads := live.heads.set 0 { HeadSt.init with px := [Px.fresh] } }
    s.up = true ∧ s.therm.tripped = false ∧ s.place 0 = .map 0 0 ∧ 0 < pixelStoreWords ∧ s.sliceDown [0] = none ∧ s.headState 0 = stDown ∧
      (s.head 0).px[0]? = some Px.fresh :=
  ⟨by decide +kernel, by decide +kernel, h, by decide, slices_on _ (by decide +kernel) _, by decide +kernel, by decide +kernel⟩

/-- A locked limit of a profile generator, a reserved command code, and a limit that may be written. -/
theorem witness_RegisterWrites :
    let l := put [(Blk.prf.unlockedFld, 0)] (ready [.prf])
    let s := ready [.prf]
    (l.regKey 0x6C04 = some (.prf, 0x6C04) ∧ l.route .prf (0x6C04 % 0x400) 1 = none ∧ Accepts l .prf ∧
      ∃ f ∈ l.fieldsOf 0x6C04, f.acc.lockable = true ∧
        bitsOf (1#18).toNat f.hi f.lo ≠ bitsOf (l.rdKey 0x6C04) f.hi f.lo ∧ l.fieldOpen .prf 0x6C04 f.acc = false) ∧
      (s.regKey 0x6E01 = some (.prf, 0x6E01) ∧ (s.route .prf (0x6E01 % 0x400) 0x30000).isNone = true ∧ Accepts s .prf ∧
        (∀ f ∈ s.fieldsOf 0x6E01, f.acc.lockable = true →
          bitsOf (0x30000#18).toNat f.hi f.lo ≠ bitsOf (s.rdKey 0x6E01) f.hi f.lo → s.fieldOpen .prf 0x6E01 f.acc = true) ∧
        s.badArg .prf 0x6E01 0x30000 = true) ∧
      (s.regKey 0x6C04 = some (.prf, 0x6C04) ∧ s.route .prf (0x6C04 % 0x400) 0x3FFFF = none ∧
        (∀ f ∈ s.fieldsOf 0x6C04, f.acc.lockable = true →
          bitsOf (0x3FFFF#18).toNat f.hi f.lo ≠ bitsOf (s.rdKey 0x6C04) f.hi f.lo → s.fieldOpen .prf 0x6C04 f.acc = true) ∧
        s.badArg .prf 0x6C04 0x3FFFF = false) := by
  unfold Accepts
  refine ⟨⟨by decide +kernel, rfl, by decide +kernel, by decide +kernel⟩, ⟨by decide +kernel, by decide +kernel, by decide +kernel, by decide +kernel, by decide +kernel⟩,
    by decide +kernel, rfl, by decide +kernel, by decide +kernel⟩

/-- A frame closed with a result. -/
def res0 : FrameRes := { frame := 65535, set := 0, gen := 0, fpa := 0, sht := 0, status := 0 }

/-- A frame for the transmitter. -/
def req0 (h : Nat) (r : Bool) : CtxReq := { head := h, res := res0, frozen := false, repeated := r, noLines := false }

def out0 : CtxOut := { fs := 1, vc := 0, header := [], image := [], stats := [], occ := [], cut := false }

theorem witness_LinkAndTransmitter :
    let s : State := { ready [.ctx] with ctx := { CtxSt.init with waiting := [req0 3 false] } }
    let r : State := { ready [.ctx] with ctx := { CtxSt.init with sending := some (req0 0 false), repeats := [req0 1 true] } }
    let d : State := { ready [.ctx] with ctx := { CtxSt.init with sending := some (req0 0 false), out := some out0 } }
    Accepts s .ctx ∧ s.unlocked .ctx = true ∧ s.badArg .ctx 0x5C00 (250#18).toNat = false ∧ s.up = true ∧ s.works .ctx = true ∧
      s.ctx.sending = none ∧ s.ctx.waiting = [req0 3 false] ∧ (req0 3 false).head < 4 ∧
      r.up = true ∧ r.works .ctx = true ∧ r.ctx.sending = some (req0 0 false) ∧
      d.up = true ∧ d.works .ctx = true ∧ d.ctx.sending = some (req0 0 false) ∧ d.ctx.out = some out0 ∧ d.ctx.waiting = [] := by
  unfold Accepts; decide +kernel

/-- A repeat whose read-out does not fit before the next FT (R219). -/
theorem test_repeat_does_not_fit :
    let s := put [(Reg.HEAD_WIDTH 3, 1280), (Reg.HEAD_HEIGHT 3, 1024), (Reg.CTX_HCFG_EXPIMG 3, 1)] (ready [.ctx])
    (s.readOut 3 true).le (s.toNextFt 33000000) = false := by decide +kernel

/-- Domain 29 (last of all) and 23 (with retention); the slice of one that is ON is not let go. -/
theorem witness_PowerDomains :
    let s := put [(Reg.PWR_DSEL, 29)] (ready [.pwr])
    let r := put [(Reg.PWR_DSEL, 23)] (powered [23] (ready [.pwr]))
    let b := put [(Reg.PWR_DSEL, 31)] (ready [.pwr])
    let p := s.setDom 29 { st := .off, pend := some .on }
    let n := put [(Reg.PWR_DSEL, 14)] (powered [23] (ready [.pwr]))
    let u := (powered [0, 4, 22] s).setDom 29 { st := .off, pend := some .on }
    let w := (powered [29] s).setDom 29 { st := .on, pend := some .off }
    let d := put [(Blk.ctx.stateFld, stDrain)] live
    let m := (powered (22 :: slices) s).setDom 23 { st := .on, pend := some .ret }
    let l : State := { d with boot := { BootState.init with reload := some (0x16, 0, .copyA) } }
    (29 = s.rd Reg.PWR_DSEL ∧ Accepts s .pwr ∧ s.unlocked .pwr = true ∧ s.domFused 29 = false ∧ (s.dom 29).pend = none ∧
      (∀ e ∈ domEngines 29, s.reloading e = false)) ∧
    (23 = r.rd Reg.PWR_DSEL ∧ Accepts r .pwr ∧ r.unlocked .pwr = true ∧ r.domFused 23 = false ∧ (r.dom 23).pend = none ∧
      (∀ e ∈ domEngines 23, r.reloading e = false) ∧ r.domBlocker 23 = none ∧
      (∀ e ∈ domEngines 23, r.eng e ≠ stDrain ∧ r.eng e ≠ stLoading) ∧ (r.dom 23).st = .on ∧ domRets 23 = true) ∧
    (31 = b.rd Reg.PWR_DSEL ∧ Accepts b .pwr ∧ b.unlocked .pwr = true) ∧
    (29 = p.rd Reg.PWR_DSEL ∧ Accepts p .pwr ∧ p.unlocked .pwr = true ∧ p.domFused 29 = false ∧ (p.dom 29).pend ≠ none) ∧
    (14 = n.rd Reg.PWR_DSEL ∧ Accepts n .pwr ∧ n.unlocked .pwr = true ∧ n.domFused 14 = false ∧ domRets 14 = true ∧
      (n.dom 14).pend = none ∧ (∀ e ∈ domEngines 14, n.reloading e = false) ∧ n.domBlocker 14 = some 23) ∧
    ((u.dom 29).pend = some .on ∧ (∀ e ∈ domRequires 29, u.domOn e = true)) ∧
    (w.up = true ∧ (w.dom 29).pend = some .off ∧ (∀ e ∈ domEngines 29, w.eng e ≠ stDrain) ∧
      (∀ e : Fin 30, 29 ∈ domRequires e.val → (w.dom e.val).st = .off)) ∧
    (m.up = true ∧ (m.dom 23).pend = some .ret ∧ (∀ e ∈ domEngines 23, m.eng e ≠ stDrain) ∧
      (∀ e ∈ domRequires 23, m.domOn e = true)) ∧ u.up = true ∧ d.up = true ∧ l.up = true ∧
    (d.eng .ctx = stDrain ∧ d.drained .ctx = true ∧ d.reloading .ctx = false) ∧
    (l.eng .ctx = stDrain ∧ l.drained .ctx = true ∧ l.reloading .ctx = true ∧
      (∀ k : Fin 30, .ctx ∈ domEngines k.val → (l.dom k.val).pend = none)) := by
  unfold Accepts; intros; and_intros <;> decide +kernel +revert

theorem witness_PowerFailures :
    let s := live
    let r : State := { s with balls := { s.balls with resetN := false, pgood := false } }
    let m : State := { s with balls := { s.balls with resetN := false } }
    let a : State := { s with power := { s.power with aon := false } }
    let t : State := { s with power := { s.power with railTrip := true } }
    (s.balls.resetN = true ∧ s.balls.pgood = true ∧ s.power.aon = true ∧ s.power.railTrip = false) ∧
      ((r.balls.resetN && r.balls.pgood) = false ∧ r.balls.resetN = false ∧ r.balls.pgood = false ∧ r.power.aon = true) ∧
      (m.balls.resetN = false ∧ m.balls.pgood = true ∧ m.power.aon = true) ∧
      a.power.aon = false ∧ t.power.railTrip = true ∧ t.balls.pgood = true := by decide +kernel

theorem witness_TripSequence :
    let c : State := { live with therm := { Therm.init with causes := [.thermal, .tsFail] } }
    let t : State := powered [2] { live with therm := { Therm.init with tripped := true } }
    let o : State := { t with therm := { t.therm with recorded := true } }
    let w : State := { put [(Reg.THM_AUTORESTART_EN, 1), (Reg.THM_AUTORESTART_NAUTO, 2)] live with therm :=
      { Therm.init with tripped := true, shutdown := true, coolSince := some 0, time := sec10 } }
    let n := put [(Reg.THM_AUTORESTART_NAUTO, 3)] w
    let x := put [(Reg.THM_TRIP_CAUSE, 2)] w
    (c.up = true ∧ c.therm.causes = [.thermal, .tsFail] ∧ c.therm.tripped = false) ∧
      (t.up = true ∧ t.therm.tripped = true ∧ t.therm.recorded = false ∧ t.tally.running = none ∧ t.tally.waiting = [] ∧
        t.tally.events = [] ∧ t.domOn 2 = true) ∧
      (o.therm.tripped = true ∧ o.therm.shutdown = false ∧ o.tally.running = none ∧
        (o.domOn 2 = true → o.therm.recorded = true)) ∧
      (w.therm.shutdown = true ∧ w.rd Reg.THM_TRIP_CAUSE ≠ 2 ∧ w.therm.coolSince = some 0 ∧ 0 + sec10 ≤ w.therm.time ∧
        w.therm.judged = false ∧ w.rd Reg.THM_AUTORESTART_EN = 1 ∧ w.rd Reg.THM_AUTORESTART_NAUTO < 3) ∧
      (n.therm.shutdown = true ∧ n.rd Reg.THM_TRIP_CAUSE ≠ 2 ∧ n.therm.coolSince = some 0 ∧ 0 + sec10 ≤ n.therm.time ∧
        n.therm.judged = false ∧ n.rd Reg.THM_AUTORESTART_NAUTO = 3) ∧
      (x.therm.shutdown = true ∧ x.rd Reg.THM_TRIP_CAUSE = 2 ∧ x.clock.xin = true) ∧
      live.up = true ∧ live.therm.tripped = false := by decide +kernel

theorem witness_Clocks :
    let s := put [(Reg.CLK_STAT_XTALOK, 1), (Reg.CLK_STAT_PLLMLK, 1), (Reg.CLK_STAT_PLLBLK, 1), (Reg.CLK_STAT_RTCOK, 1)]
      (powered [4] live)
    let z := put [(Reg.CLK_HOLD, 1)] s
    let h : State := { put [(Reg.CLK_STAT_XHOLD, 1)] s with clock := { s.clock with xin := false } }
    let t : State := { put [(Reg.THM_TRIP_CAUSE, 2)] h with therm := { Therm.init with tripped := true } }
    (live.d0Up = true ∧ live.rd Reg.CLK_STAT_XTALOK = 0) ∧
      (s.up = true ∧ s.d0Up = true ∧ s.rd Reg.CLK_STAT_XTALOK = 1 ∧ s.clock.xin = true ∧ s.rd Reg.CLK_STAT_XHOLD = 0 ∧
        (put [(Reg.CLK_HOLD, 0)] s).rd Reg.CLK_HOLD = 0 ∧ z.rd Reg.CLK_HOLD ≠ 0 ∧ s.therm.tripped = false) ∧
      (h.d0Up = true ∧ h.rd Reg.CLK_STAT_XHOLD = 1 ∧ h.clock.xin = false ∧ h.therm.tripped = false) ∧
      (t.d0Up = true ∧ t.clock.xin = false ∧ t.therm.tripped = true ∧ t.rd Reg.THM_TRIP_CAUSE = 2) ∧
      (s.rd Reg.CLK_STAT_PLLMLK = 1 ∧ s.rd Reg.CLK_STAT_PLLBLK = 1 ∧ s.bursts.running = none ∧ s.clock.pendFbk = none ∧
        s.domOn 4 = true ∧ s.clock.rtcJudged = false ∧ s.power.aon = true ∧ s.rd Reg.CLK_STAT_RTCOK = 1) := by decide +kernel

theorem witness_ThermalSensors :
    let s : State := { put [(Reg.THM_TS_FAILED 15, 1)] (ready [.thm]) with therm :=
      { Therm.init with time := sec10, sensors := Therm.init.sensors.set 15 { Sensor.init with lastBad := some 0 } } }
    let e : State := { s with therm := { s.therm with time := sec10 - 1 } }
    Accepts s .thm ∧ s.unlocked .thm = true ∧ s.tsFailed 15 = true ∧
      (∀ u, (s.sensor 15).lastBad = some u → u + sec10 ≤ s.therm.time) ∧
      e.up = true ∧ live.up = true ∧ s.d0Up = true ∧ e.therm.tripped = false ∧ e.tsFailed 15 = true ∧ (∃ u, (e.sensor 15).lastBad = some u ∧ e.therm.time < u + sec10) ∧
      live.unlocked .thm = false := by
  refine ⟨by unfold Accepts; decide +kernel, by decide +kernel, by decide +kernel, ?_, by decide +kernel, by decide +kernel, by decide +kernel,
    by decide +kernel, by decide +kernel, ⟨0, by decide +kernel, by decide +kernel⟩, by decide +kernel⟩
  intro u h
  obtain rfl : 0 = u := Option.some.inj h
  decide +kernel

/-- A sequencer that converts a slot. -/
def converting (c : Conv) (s : State) : State :=
  { s with afe := { AfeSt.init with seqs := AfeSt.init.seqs.set 0 { SeqSt.init with conv := some c } } }

def conv0 (u v : Bool) : Conv := { slot := 31, urgent := u, pins := live.slotPins 31, posHalf := none, void := v }

theorem witness_AdcResultsAndQueue :
    let s := converting (conv0 false false)
      (put [(Reg.AFE_OUTPT_OUTEN 31, 1), (Reg.AFE_OUTPT_POINT 31, 7)] (withPoint 7 .fresh 0 (.afe 31) none live))
    let a := converting (conv0 false false) (put [(Reg.AFE_SLOTCFG0_ALT 31, 1)] live)
    let v := converting (conv0 false true) live
    let q : State := { live with afe := { AfeSt.init with
      seqs := AfeSt.init.seqs.set 1 { SeqSt.init with queue := [{ value := 0x3FFFF, tag := 511, st := 3 }] } } }
    (s.up = true ∧ (s.seq 0).conv = some (conv0 false false) ∧ s.rd (Reg.AFE_SLOTCFG0_ALT 31) = 0 ∧ s.adcCalRuns 0 = false ∧
      (s.aslot 31).settling = false ∧ s.rd (Reg.AFE_OUTPT_OUTEN 31) = 1 ∧
      ∃ p, s.point (s.rd (Reg.AFE_OUTPT_POINT 31)) = some p ∧ p.source = .afe 31) ∧
    (a.up = true ∧ (a.seq 0).conv = some (conv0 false false) ∧ a.rd (Reg.AFE_SLOTCFG0_ALT 31) = 1 ∧ a.adcCalRuns 0 = false) ∧
    (v.up = true ∧ (v.seq 0).conv = some (conv0 false true) ∧ v.adcCalRuns 0 = false) ∧
    q.up = true ∧ (q.seq 0).queue = [] ∧ (q.seq 1).queue = [{ value := 0x3FFFF, tag := 511, st := 3 }] :=
  ⟨⟨by decide +kernel, by decide +kernel, by decide +kernel, by decide +kernel, by decide +kernel, by decide +kernel,
    ⟨_, rfl, rfl⟩⟩, by decide +kernel, by decide +kernel, by decide +kernel, by decide +kernel, by decide +kernel⟩

/-- A converter's calibration in a stage, on slot 31, which belongs to it. -/
def calibrating (stage : Nat) : State :=
  { put [(Reg.ADC_CALCTLA_CSTAGE, stage), (Reg.AFE_SLOTCFG0_EN 31, 1)] (ready [.adc]) with
    afe := { AfeSt.init with seqs := AfeSt.init.seqs.set 0 { SeqSt.init with cal := some { slot := 31, sum := 0, done := 0, z := none } } } }

theorem witness_UrgentAndCalibration :
    let r := put [(Reg.AFE_SLOTCFG0_EN 31, 1), (Reg.AFE_SLOTCFG0_URG 31, 1), (Reg.AFE_URGCFG_UTIM 31, 1)] (ready [.adc, .afe])
    let s := converting (conv0 false false) r
    let u := converting (conv0 true false) r
    let t : State := { r with afe := { AfeSt.init with seqs := AfeSt.init.seqs.set 0 { SeqSt.init with test := true } } }
    (s.works .conv = true ∧ Accepts s .adc ∧ (s.seq (s.seqOf 31)).test = false ∧ s.urgentSlot 31 = true ∧
      s.adcCalRuns (s.seqOf 31) = false ∧ 31 ∉ (s.seq (s.seqOf 31)).urgent ∧
      (s.seq (s.seqOf 31)).conv = some (conv0 false false) ∧ s.timedDue = [31] ∧ (s.seq (s.seqOf 31)).urgent = []) ∧
    (u.works .conv = true ∧ Accepts u .adc ∧ u.urgentSlot 31 = true ∧ (u.seq (u.seqOf 31)).conv = some (conv0 true false) ∧
      31 ∉ (u.seq (u.seqOf 31)).urgent ∧ (conv0 true false).urgent = true) ∧
    (Accepts (ready [.adc]) .adc ∧ (ready [.adc]).urgentSlot 31 = false) ∧
    (Accepts t .adc ∧ t.urgentSlot 31 = true ∧ (t.seq (t.seqOf 31)).test = true) ∧
    (Accepts (calibrating 0) .adc ∧ (calibrating 0).unlocked .adc = true ∧ ((calibrating 0).seq 0).test = false ∧
      (calibrating 0).rd (Reg.AFE_SLOTCFG0_EN 31) = 1 ∧ (calibrating 0).seqOf 31 = 0 ∧ (calibrating 0).calStage 0 = 0) ∧
    (Accepts (calibrating 2) .adc ∧ (calibrating 2).unlocked .adc = true ∧ (calibrating 2).calStage 0 = 2 ∧
      ((calibrating 2).seq 0).cal = some { slot := 31, sum := 0, done := 0, z := none }) ∧
    (calibrating 2).up = true ∧ live.up = true ∧ live.therm.tripped = false ∧ live.unlocked .adc = false := by
  unfold Accepts; intros; and_intros <;> decide +kernel +revert

def burst0 : Burst :=
  { head := 3, res := res0, slot0 := 0, cal := 0, late := false, ctx := some { cells := [], seenHsp := [], seenCon := [] },
    raw := [], frst := false, first := false }

theorem witness_Bursts :
    let s : State := { put [(Reg.CLK_STAT_PLLBLK, 1)] (ready [.pe 0]) with bursts := { BurstQ.init with waiting := [burst0] } }
    let n := put [(Reg.HEAD_HEIGHT 3, 1)] s
    let r : State := { s with bursts := { BurstQ.init with running := some burst0 } }
    (s.up = true ∧ r.up = true ∧ s.bursts.running = none ∧ s.bursts.waiting = [burst0] ∧ burst0.head < 4 ∧ s.anyPe = true ∧
      s.rd Reg.CLK_STAT_PLLBLK = 1 ∧ s.stat.running = none ∧ (s.ringLines 3 burst0.res.frame 0).isSome = true ∧
      (n.ringLines 3 burst0.res.frame 0).isNone = true) ∧
      (r.bursts.running = some burst0 ∧ burst0.ctx.isSome = true ∧ burst0.res.set < 4 ∧ burst0.res.status < 32) := by
  decide +kernel

def pass0 : Pass := { head := 3, res := res0, ctx := some { cells := [], seenHsp := [], seenCon := [] }, seed := false, clear := false,
                      lapsed := false }

theorem witness_PixelEngines :
    let s : State := { ready [.pe 3, .stand] with stat := { StatSt.init with waiting := [pass0] } }
    let r : State := { s with stat := { StatSt.init with running := some pass0 } }
    (s.up = true ∧ r.up = true ∧ live.up = true ∧ s.bursts.running = none ∧ s.bursts.waiting = [] ∧ s.peWorks 3 = true ∧ Accepts s (.pe 3) ∧ s.unlocked (.pe 3) = true) ∧
      (s.stat.running = none ∧ s.stat.waiting = [pass0] ∧ pass0.lapsed = false ∧ pass0.head < 4 ∧ s.works .stat = true) ∧
      (r.stat.running = some pass0 ∧ pass0.ctx.isSome = true) ∧ live.stat.running = none := by
  unfold Accepts; intros; and_intros <;> decide +kernel +revert

def blob0 : Blob :=
  { area := 1, cx := 0, cy := 0, meant := 0, x0 := 0, y0 := 0, x1 := 0, y1 := 0, stand := 0, nocc := 0, track := none }

theorem witness_StandCommands :
    let s : State := { put [(Reg.STAND_SCFG0_EN 1023, 1)] (ready [.stand, .occ]) with
      stat := { StatSt.init with records := [(1023, [1#18])]
                                 heads := StatSt.init.heads.set 3 { OccHead.init with lastFrame := some 9, blobs := [blob0] } } }
    let n : State := { s with stat := StatSt.init }
    (Accepts s .stand ∧ (0x3FFFF#18).toNat % 1024 ≠ 0 ∧ s.rd (Reg.STAND_SCFG0_EN 1023) = 1 ∧
      assocGet s.stat.records 1023 = some [1#18] ∧ assocGet n.stat.records 1023 = none ∧
      (0x400#18).toNat % 1024 = 0 ∧ s.rd (Reg.STAND_SCFG0_EN 1) = 0) ∧
    (Accepts s .occ ∧ s.unlocked .occ = true ∧ 3 = (0x300#18).toNat / 256 % 4 ∧ s.headPresent 3 = true ∧
      (s.occHead 3).lastFrame = some 9 ∧ (s.occHead 3).blobs[(0x300#18).toNat % 256]? = some blob0 ∧
      (s.occHead 3).blobs[(0x3FF#18).toNat % 256]? = none ∧ (n.occHead 3).lastFrame = none) := by
  unfold Accepts; intros; and_intros <;> decide +kernel +revert

theorem witness_AgeingAndFabric :
    let cool := put ((List.range 16).map (fun i => (Reg.THM_TS_TEMP i, 400)) ++ [(Reg.AGE_CFG_EN, 1)]) (ready [.age, .fab])
    let due := put [(Reg.AGE_STAT_DUE, 1)] cool
    let run : State := { due with age := { running := true, pend := some 19 } }
    let hot : State := { put [(Reg.THM_STAT_LEVEL, 1)] due with age := { running := true, pend := none } }
    let b : State := { live with bursts := { BurstQ.init with running := some burst0 } }
    let q : State := { cool with fab := { c3Taken := 0, out := [{ requester := .age, part := .fab, tag := 63 },
      { requester := .age, part := .bus 1, tag := 0 }] } }
    (cool.up = true ∧ due.up = true ∧ run.up = true ∧ hot.up = true ∧ cool.works .age = true ∧ cool.ageSlot = true ∧ cool.rd Reg.AGE_CFG_EN = 1 ∧ cool.rd Reg.AGE_STAT_DUE = 0 ∧ Accepts cool .age ∧
      cool.unlocked .age = true) ∧
    (Accepts due .age ∧ due.unlocked .age = true ∧ due.rd Reg.AGE_STAT_DUE = 1 ∧ due.age.running = false) ∧
    (run.age.running = true ∧ run.ageCool = true ∧ run.age.pend = some 19) ∧
    (hot.age.running = true ∧ hot.ageCool = false) ∧
    (b.bursts.running.isSome = true ∧ live.bursts.running = none ∧
      live.fab.c3Taken + 1 ≤ live.c3Room) ∧
    (b.up = true ∧ live.up = true ∧ q.up = true ∧ q.blk .age = stInService ∧ q.blk .fab = stInService ∧ q.blk (.bus 1) = stDown ∧
      q.fab.out.filter (fun r => !(r.requester == .age && r.part == .fab && memNat r.tag [63])) =
        [{ requester := .age, part := .bus 1, tag := 0 }]) := by
  unfold Accepts; intros; and_intros <;> decide +kernel +revert

/-- A port that runs MS/TP at MAC 5. -/
def mstp (b : BusSt) (l : List (Fld × Nat) := []) : State :=
  { put ([(Reg.BUS_CFG_PROTO 1, 1), (Reg.BUS_LSTAT_LSTATE 1, lsRun), (Reg.BUS_MSTP_MAC 1, 5)] ++ l) (ready [.bus 1]) with
    bus := live.bus.set 1 b }

theorem witness_MstpNode :
    let s := mstp { BusSt.init with iAmDue := true }
    let p := mstp { BusSt.init with node := .pollForMaster, next := 7 }
    let o := mstp { BusSt.init with node := .pollForMaster, next := 5, poll := 4 }
    let k := mstp { BusSt.init with node := .passToken, retries := 1 }
    let f : MstpFrame := { ftype := .token, dst := 5, src := 0, len := 501, hdrOk := true, dataOk := true }
    let d (n : Nat) := mstp { BusSt.init with goodRun := n } [(Reg.BUS_LSTAT_LSTATE 1, lsDetect)]
    (({ f with hdrOk := false }).hdrOk = false ∧ 501 < ({ f with len := 502 }).len ∧ s.rd (Reg.BUS_LSTAT_LSTATE 1) ≠ lsDetect ∧
      (d 1).up = true ∧ (d 1).busProto 1 1 = true ∧ (d 1).rd (Reg.BUS_LSTAT_LSTATE 1) = lsDetect ∧ ((d 1).port 1).goodRun = 1 ∧
      (d 0).up = true ∧ (d 0).busProto 1 1 = true ∧ (d 0).rd (Reg.BUS_LSTAT_LSTATE 1) = lsDetect ∧ ((d 0).port 1).goodRun ≠ 1) ∧
    (p.up = true ∧ o.up = true ∧ k.up = true) ∧
    (s.up = true ∧ s.mstpRun 1 = true ∧ f.hdrOk = true ∧ f.dataOk = true ∧ f.len ≤ 501 ∧ f.dst = s.rd (Reg.BUS_MSTP_MAC 1) ∧
      (s.port 1).iAmDue = true ∧ s.busProto 1 1 = true ∧ s.rd (Reg.BUS_LSTAT_TOKEN 1) = 0) ∧
    (p.mstpRun 1 = true ∧ (p.port 1).node = .pollForMaster ∧ (p.port 1).sole = false ∧
      (p.port 1).next ≠ p.rd (Reg.BUS_MSTP_MAC 1)) ∧
    (o.mstpRun 1 = true ∧ (o.port 1).node = .pollForMaster ∧ (o.port 1).next = o.rd (Reg.BUS_MSTP_MAC 1) ∧
      nextStation (o.rd (Reg.BUS_MSTP_MAXMASTER 1)) (o.port 1).poll = o.rd (Reg.BUS_MSTP_MAC 1)) ∧
    (k.mstpRun 1 = true ∧ (k.port 1).node = .passToken ∧ (k.port 1).retries ≠ 0) ∧
    ((mstp { BusSt.init with node := .passToken }).mstpRun 1 = true ∧
      ((mstp { BusSt.init with node := .passToken }).port 1).retries = 0) := by
  intros; and_intros <;> decide +kernel +revert

def sub0 (life : Nat) : CovSub := { addr := near 1, proc := 2, obj := 0, life := life, last := none, due := false }

/-- A binary value of instance 4194303 at point 9. -/
def obj0 : BObj :=
  { otype := .bv, inst := maxInstance, point := 9, name := [], units := 0, scale := .ofInt 1, offset := .ofInt 0, covInc := .ofInt 1,
    relinquish := .null, nstates := 0, prio := List.replicate 16 .null, lastWritten := none }

/-- A port that runs MS/TP with that object, its point writable. -/
def bacnet (subs : List CovSub) : State :=
  withPoint 9 .fresh 0 (.bacnet 1 0) none (mstp { BusSt.init with objs := [obj0], subs := subs })

/-- A read of one holding register of unit 247 to point 9. -/
def trans0 : MbTrans :=
  { unit := 247, fci := 2, dtype := 0, count := 1, start := 65535, point := 9, wmode := false, lossLast := false, mscl := 1, msh := 0,
    mofs := 0, wscl := 1, wsh := 0, status := 0, clipw := false, exc := 0, sentVals := none, usable := [], force := false }

def attempt0 (n : Nat) (w : Bool) : MbAttempt :=
  { trans := 0, attempt := n, wait := w, probe := false, vals := [], clipw := false }

/-- A port that runs as a Modbus master with that transaction. -/
def modbus (cycling : Bool) (a : Option MbAttempt) (ls : Nat := lsRun) : State :=
  withPoint 9 .fresh 0 (.modbus 1 0 0) none
    { put [(Reg.BUS_CFG_PROTO 1, 2), (Reg.BUS_LSTAT_LSTATE 1, ls), (Reg.BUS_MBTIME_RETRY 1, 1)] (ready [.bus 1]) with
      bus := live.bus.set 1 { BusSt.init with
        trans := [trans0], devs := [{ unit := 247, online := true, fails := 255 }], bauds := [7], cycling := cycling, attempt := a } }

theorem witness_BusRatesAndTables :
    let d := mstp BusSt.init [(Reg.BUS_LSTAT_LSTATE 1, lsDetect)]
    let a := mstp BusSt.init [(Reg.BUS_CFG_AUTOBAUD 1, 1)]
    let n := modbus false none lsNegotiate
    let b := bacnet [sub0 0, sub0 1]
    let f := bacnet (List.replicate 32 (sub0 1))
    (d.up = true ∧ d.busProto 1 1 = true ∧ d.rd (Reg.BUS_LSTAT_LSTATE 1) = lsDetect) ∧
    (Accepts a (.bus 1) ∧ a.unlocked (.bus 1) = true ∧ a.rd (Reg.BUS_LSTAT_LSTATE 1) = lsRun ∧
      a.rd (Reg.BUS_CFG_AUTOBAUD 1) = 1 ∧ d.rd (Reg.BUS_LSTAT_LSTATE 1) ≠ lsRun ∧ Accepts d (.bus 1)) ∧
    (n.up = true ∧ n.busProto 1 2 = true ∧ n.rd (Reg.BUS_LSTAT_LSTATE 1) = lsNegotiate ∧ (n.port 1).bauds = [7] ∧
      (∀ x ∈ (n.port 1).devs, x.unit ∈ [247] ∧ (n.negRequest 1 x.unit).isSome = true)) ∧
    (Accepts b (.bus 1) ∧ (510#18).toNat % 512 ≠ 511 ∧ (511#18).toNat % 512 = 511 ∧ (b.port 1).objs[(510#18).toNat % 512]? = none ∧
      (b.port 1).objs[(512#18).toNat % 512]? = some obj0 ∧ obj0.point < 4096 ∧ (n.port 1).trans[(256#18).toNat % 256]? = some trans0 ∧
      (n.port 1).trans[(255#18).toNat % 256]? = none ∧ trans0.point < 4096 ∧ Accepts n (.bus 1) ∧
      (n.port 1).devs[(64#18).toNat % 64]? = some { unit := 247, online := true, fails := 255 } ∧
      (n.port 1).devs[(63#18).toNat % 64]? = none) ∧
    (b.up = true ∧ b.mstpRun 1 = true ∧ b.service = false ∧ findObj .bv maxInstance 0 (b.port 1).objs = some (0, obj0) ∧
      ((b.port 1).subs.any fun c => c.same (near 7) 2 0) = false ∧ (b.port 1).subs.length < 32 ∧
      b.rd (Reg.BUS_LSTAT_TOKEN 1) = 0 ∧ (b.port 1).subs[0]? = some (sub0 0) ∧ (b.port 1).subs[1]? = some (sub0 1)) ∧
    (f.up = true ∧ f.mstpRun 1 = true ∧ f.service = false ∧ findObj .bv maxInstance 0 (f.port 1).objs = some (0, obj0) ∧
      ((f.port 1).subs.any fun c => c.same (near 7) 2 0) = false ∧ 32 ≤ (f.port 1).subs.length) := by
  unfold Accepts; intros; and_intros <;> decide +kernel +revert

theorem witness_BacnetServices :
    let s := bacnet []
    s.up = true ∧ s.mstpRun 1 = true ∧ s.service = false ∧ s.devInst 1 < 5 ∧ s.rd (Reg.BUS_LSTAT_TOKEN 1) = 0 ∧
      findObj .bv maxInstance 0 (s.port 1).objs = some (0, obj0) ∧ s.objWritable 1 0 obj0 = true ∧
      0 < (s.port 1).objs.length ∧ BVal.enum 1 ≠ .null ∧ writeValue obj0 (.enum 1) = some (some 1) ∧
      formatLo (s.objPoint obj0).1 ≤ 1 ∧ 1 ≤ formatHi (s.objPoint obj0).1 ∧ (s.point obj0.point).isSome = true ∧
      obj0.prio.length = 16 ∧ obj0.lastWritten ≠ some (BitVec.ofNat 18 (ofSigned 18 1)) ∧
      (serviced s).up = true ∧ (serviced s).mstpRun 1 = true ∧ (serviced s).service = true := by
  intros; and_intros <;> decide +kernel +revert

theorem witness_ModbusTransactions :
    let s := modbus false none
    let c := modbus true none
    let r := modbus true (some (attempt0 1 false))
    let w := modbus true (some (attempt0 1 true))
    let l := modbus true (some (attempt0 2 true))
    (s.up = true ∧ s.modbusRun 1 = true ∧ (s.port 1).cycling = false) ∧
    (c.up = true ∧ c.modbusRun 1 = true ∧ (c.port 1).cycling = true ∧ (c.port 1).attempt = none ∧
      (c.port 1).trans[(c.port 1).nextTrans]? = some trans0 ∧ trans0.reads = true ∧ trans0.unit ∉ (c.port 1).revived ∧
      (c.port 1).devOf trans0.unit = some { unit := 247, online := true, fails := 255 }) ∧
    (r.up = true ∧ r.modbusRun 1 = true ∧ (r.port 1).attempt = some (attempt0 1 false) ∧ (r.port 1).trans[0]? = some trans0 ∧
      (r.port 1).cycling = true) ∧
    (w.up = true ∧ w.modbusRun 1 = true ∧ (w.port 1).attempt = some (attempt0 1 true) ∧ (w.port 1).trans[0]? = some trans0 ∧
      1 ≤ w.rd (Reg.BUS_MBTIME_RETRY 1)) ∧
    (l.up = true ∧ l.modbusRun 1 = true ∧ (l.port 1).attempt = some (attempt0 2 true) ∧ l.rd (Reg.BUS_MBTIME_RETRY 1) < 2) ∧
    (mbJudge trans0 [247, 3, 2, 0, 1] true = .valid [0, 1] ∧ mbJudge trans0 [247, 131, 2] true = .exception 2 ∧
      mbJudge trans0 [247, 3, 2, 0, 1] false = .bad ∧ trans0.values = 1 ∧
      ∃ q, w.point trans0.point = some q ∧ q.source = .modbus 1 0 0) := by
  intros; and_intros <;> first | exact ⟨_, rfl, rfl⟩ | decide +kernel +revert

/-- An encode job from landing to the first flash chip. -/
def jobRegs : List (Fld × Nat) :=
  [(Reg.CMP_JOP_SRCMEM, 1), (Reg.CMP_JOP_DSTMEM, 2), (Reg.CMP_JFMT_BITS, 14), (Reg.CMP_JFMT_BLKLINES, 1), (Reg.CMP_JWIDTH, 1),
   (Reg.CMP_JHEIGHT, 1), (Reg.FLW_CHIP_NSTAT 0, 0)]

def compressor (q : CmpSt) : State := { put jobRegs (ready [.cmp]) with cmp := q }

/-- The staged job, as the registers give it. -/
def job0 : Job := (compressor CmpSt.init).stagedJob

/-- A DEFLATE decode from the first flash chip into landing. -/
def decodeJob : Job := { job0 with op := 1, src := 2, dst := 1, jslen := 5, jdcap := 4 }

/-- Its stream: an empty stored block, the last; or one of a reserved type. -/
def stream (bs : List (Nat × Byte)) : State :=
  { compressor { CmpSt.init with running := some decodeJob } with
    flash := { FlashSt.init with chips := FlashSt.init.chips.set 0 { (Chip.blank []) with mem := bs, page := 256 } } }

theorem witness_CompressionJobs :
    let s := compressor CmpSt.init
    let n := put [(Reg.CMP_JWIDTH, 0)] s
    let l : State := { s with boot := { BootState.init with privImg := true } }
    let f := compressor { CmpSt.init with queue := List.replicate 16 job0 }
    let r := compressor { CmpSt.init with running := some { job0 with id := 255 } }
    let q := compressor { CmpSt.init with queue := [job0] }
    let g : State := { live with cmp := { CmpSt.init with running := some { job0 with op := 2, src := 3, head := 3, kind := 1, gap := true } },
                                        heads := live.heads.set 3 { HeadSt.init with lastPass := some res0 } }
    let o := compressor { CmpSt.init with queue := [{ job0 with append := true }] }
    (Accepts s .cmp ∧ s.unlocked .cmp = true ∧ s.cmp.nextId < 256 ∧ s.jobFits (s.residentFormat s.stagedJob) = true ∧
      s.jobLocked (s.residentFormat s.stagedJob) = false ∧ s.cmpDepth < 16) ∧
    (Accepts n .cmp ∧ n.unlocked .cmp = true ∧ n.jobFits (n.residentFormat n.stagedJob) = false) ∧
    (Accepts l .cmp ∧ l.jobFits (l.residentFormat l.stagedJob) = true ∧ l.jobLocked (l.residentFormat l.stagedJob) = true) ∧
    (Accepts f .cmp ∧ f.jobFits (f.residentFormat f.stagedJob) = true ∧ 16 ≤ f.cmpDepth ∧
      f.jobLocked (f.residentFormat f.stagedJob) = false) ∧
    (Accepts r .cmp ∧ r.unlocked .cmp = true ∧ r.cmp.running = some { job0 with id := 255 } ∧ (255#18).toNat % 256 = 255 ∧
      job0.op % 2 = 0 ∧ s.cmp.running = none) ∧
    (q.up = true ∧ q.loaderDecodes = false ∧ q.cmp.queue = [job0] ∧ q.cmp.running = none ∧ q.works .cmp = true ∧ q.rd Reg.THM_STAT_LEVEL = 0 ∧ job0.dst ≠ 1 ∧
      job0.archive = none) ∧
    (g.up = true ∧ g.runsResident 3 = true ∧ g.gapOpen 3 = true ∧ (g.head 3).lastPass = some res0 ∧
      g.cmp.running = some { job0 with op := 2, src := 3, head := 3, kind := 1, gap := true }) ∧
    (let x := stream [(0, 1), (1, 0), (2, 0)]
     x.up = true ∧ x.cmp.running = some decodeJob ∧ decodeJob.archive = none ∧ decodeJob.append = false ∧
      (∃ out used st, inflate (x.jobBytes decodeJob) decodeJob.jdcap = .ok out used st ∧ out.length ≤ decodeJob.jdcap ∧
        decodeJob.jdst + memUnits 1 true out.length ≤ landingWords)) ∧
    (∃ off, inflate ((stream [(0, 7)]).jobBytes decodeJob) decodeJob.jdcap = .bad off) ∧
    (Accepts o .cmp ∧ (5#18).toNat < 1024 ∧ { job0 with append := true } ∈ o.cmp.queue ∧ job0.dst = 5 / 2) ∧
    ((compressor { CmpSt.init with results := [⟨255, 31, true, false, 0, 1, 2, 3⟩] }).cmp.results.find?
      (fun r => r.id == (255#18).toNat % 256) = some ⟨255, 31, true, false, 0, 1, 2, 3⟩) := by
  unfold Accepts; intros
  and_intros <;> first
    | exact ⟨_, rfl⟩
    | exact ⟨_, _, _, rfl, by decide, by decide⟩
    | decide +kernel +revert

theorem witness_ConsoleLinesAndInquiries :
    let s := powered [1] (put [(Reg.HEAD_WIDTH 3, 2), (Reg.HEAD_HEIGHT 3, 1)]
      { live with heads := live.heads.set 3 { HeadSt.init with px := [Px.fresh, Px.fresh] },
                         tally := { TallySt.init with scanned := true } })
    let p : State := { s with boot := { BootState.init with privImg := true } }
    s.conAlive = true ∧ (lineChars (List.replicate 97 0x41) [] false).2 = true ∧
      lineChars [0x53, 0x54, 0x41, 0x54] [] false = ([0x53, 0x54, 0x41, 0x54], false) ∧
      tokens [0x53, 0x54, 0x41, 0x54] [] ≠ [] ∧ parseLine (tokens [0x53, 0x54, 0x41, 0x54] []) = some (.cmd .stat) ∧
      parseLine (tokens [0x53] []) = none ∧ tokens [0x53] [] ≠ [] ∧ tokens [0x20, 0x20] [] = [] ∧
      lineChars [0x20, 0x20] [] false = ([0x20, 0x20], false) ∧ s.tally.scanned = true ∧
      live.tally.scanned = false ∧ s.headPresent 3 = true ∧ 0 < s.rd (Reg.HEAD_HEIGHT 3) ∧
      0 + 2 ≤ s.rd (Reg.HEAD_WIDTH 3) ∧ s.privLock = false ∧ 0 * s.rd (Reg.HEAD_WIDTH 3) + 0 + 2 ≤ (s.head 3).px.length ∧
      p.conAlive = true ∧ p.privLock = true := by
  intros; and_intros <;> decide +kernel +revert

theorem witness_ConsoleWritesAndBalls :
    let s := powered [1] (ready [.svc])
    let v := serviced s
    let z : State := { s with fuses := [], boot := { s.boot with shadow := [] } }
    z.conAlive = true ∧ z.therm.tripped = false ∧ z.blkPresent (.head 3) = false ∧ s.conAlive = true ∧ s.therm.tripped = false ∧ s.blkPresent .cmp = true ∧ s.blk .cmp ≠ stDrain ∧ s.blk .cmp ≠ stLoading ∧
      s.enterJudge = Status.OK ∧ v.conAlive = true ∧ v.leaveJudge = Status.OK ∧ s.ballFused (vgBall 0) = false ∧
      ballForceable (vgBall 0) = true ∧ vgBall 0 < 256 ∧ v.service = true ∧ s.service = false ∧
      v.judge .svc 0x2402 9 = Status.OK := by
  intros; and_intros <;> decide +kernel +revert

theorem witness_ConsoleTestCommands :
    let s := powered [1] (serviced (put [(Reg.DAC_CFG_EN 5, 1), (Reg.VLV_CFG_EN 7, 1), (Reg.FAN_CFG_EN 2, 1)]
      (ready [.fan, .vlv, .dac, .afe])))
    s.conAlive = true ∧ s.therm.tripped = false ∧ s.service = true ∧ s.works .act = true ∧ s.rd (Reg.DAC_CFG_EN 5) = 1 ∧
      s.rd (Reg.VLV_CFG_EN 7) = 1 ∧ s.rd (Reg.FAN_CFG_EN 2) = 1 ∧ s.works .conv = true ∧ (s.seq 0).test = false ∧
      (powered [1] live).conAlive = true ∧ (powered [1] live).service = false := by
  intros; and_intros <;> decide +kernel +revert

theorem witness_FactoryJtagFuses :
    let s := powered [1] live
    let l : State := { s with fuses := [2, 3, 4, 5, 8] }
    let v := serviced (put ((List.range 16).map (fun i => (Reg.THM_TS_TEMP i, 1360))) s)
    let k : State := { v with fuses := [2, 3, 4, 5, 16, 32] }
    (s.up = true ∧ s.conAlive = true ∧ s.dbgLock = false ∧ s.service = false ∧ l.up = true ∧ l.conAlive = true ∧ l.dbgLock = true) ∧
      (v.up = true ∧ v.conAlive = true ∧ v.dbgLock = false ∧ v.service = true ∧ v.lockGate = Status.OK ∧ v.fuseBit 16 = false) ∧
      (∀ i : Fin 256, ({ v with fuses := [2, 3, 4, 5, 32] }).fuseBit (32 + i.val) = true → 32 + i.val ∈ hashBits (1 <<< 248)) ∧
      (k.up = true ∧ k.lockGate = Status.OK ∧ k.fuseBit 16 = true) ∧ s.lockGate ≠ Status.OK := by
  intros; and_intros <;> decide +kernel +revert

/-- Fan channel 2 in a state. -/
def fanAt (st : Nat) (l : List (Fld × Nat) := []) (f : FanSt := FanSt.init) : State :=
  { withPoint 0 .fresh 0 (.fan 2 0) none (put ([(Reg.FAN_CFG_EN 2, 1), (Reg.FAN_STAT_FSTATE 2, st)] ++ l) (ready [.fan])) with
    act := { ActSt.init with applied := true, fans := ActSt.init.fans.set 2 f } }

theorem witness_Fans :
    let off := fanAt FState.STOPPED
    let safe : State := { off with act := { off.act with tripped := true } }
    let test := serviced (fanAt FState.STOPPED [] { FanSt.init with test := some 65535 })
    let lost := fanAt FState.RUN [(Reg.FAN_CFG_FGSRC 2, 1)]
    let hall := fanAt FState.RUN [(Reg.FAN_CFG_FGSRC 2, 2)]
    let zc := fanAt FState.STARTING [(Reg.FAN_RPMHAND 2, 1000), (Reg.FAN_CFG_POLES 2, 2), (Reg.FAN_STIME_TRAMP 2, 10)]
      { FanSt.init with good := 5, startT := 1000000000000 }
    let fg := fanAt FState.STARTING [(Reg.FAN_CFG_FGSRC 2, 2), (Reg.FAN_STAT_ATTEMPT 2, 3)] { FanSt.init with good := 1 }
    let spd := fanAt FState.RUN [(Reg.FAN_SPDPT_SPEN 2, 1)]
    let six := fanAt FState.RUN [] { FanSt.init with commIn := some 5 }
    let sine := fanAt FState.RUN [(Reg.FAN_CFG_COMM 2, 1)]
    let forced : State := { off with balls := { off.balls with forced := [(15 * 16 + 8, .high)] } }
    (off.up = true ∧ off.rd (Reg.FAN_CFG_EN 2) = 1 ∧ off.fstate 2 = FState.STOPPED ∧ off.actSafe = false ∧ off.service = false ∧
      off.rd (Reg.FAN_CFG_GROUP 2) = 0 ∧ off.fanHeld 2 = false ∧
      (off.readPoint (off.rd (Reg.FAN_TGTPT 2))).2.usable = true) ∧
    (safe.up = true ∧ safe.rd (Reg.FAN_CFG_EN 2) = 1 ∧ safe.fstate 2 ≠ FState.FAULT ∧ safe.actSafe = true) ∧
    (test.up = true ∧ test.rd (Reg.FAN_CFG_EN 2) = 1 ∧ test.fstate 2 = FState.STOPPED ∧ test.actSafe = false ∧ test.service = true ∧
      (test.fan 2).test = some 65535) ∧
    (let s := fanAt FState.FAULT
     s.rd (Reg.FAN_CFG_EN 2) = 1 ∧ s.fstate 2 = FState.FAULT ∧ Accepts s .fan ∧ s.unlocked .fan = true) ∧
    (let s := fanAt FState.CATCH
     s.up = true ∧ s.fstate 2 = FState.CATCH ∧ (s.fan 2).braking = false ∧ s.rd (Reg.FAN_CFG_FGSRC 2) ≠ 2) ∧
    (let s := fanAt FState.CATCH [] { FanSt.init with braking := true }
     s.up = true ∧ s.fstate 2 = FState.CATCH ∧ (s.fan 2).braking = true) ∧
    (zc.fstate 2 = FState.STARTING ∧ zc.rd (Reg.FAN_STAT_ATTEMPT 2) ≠ 3 ∧ zc.rd (Reg.FAN_CFG_EN 2) = 1 ∧
      zc.rd (Reg.FAN_CFG_FGSRC 2) ≠ 2 ∧ 5 ≤ (zc.fan 2).good ∧ zc.up = true ∧
      crossingFits (zc.fanHand 2) (zc.fanAlign 2) (zc.fanRamp 2) (zc.fan 2).startT 5000000 = true ∧
      crossingFits (zc.fanHand 2) (zc.fanAlign 2) (zc.fanRamp 2) (zc.fan 2).startT 0 = false) ∧
    (fg.up = true ∧ fg.fstate 2 = FState.STARTING ∧ fg.rd (Reg.FAN_STAT_ATTEMPT 2) = 3 ∧ fg.rd (Reg.FAN_CFG_EN 2) = 1 ∧
      fg.rd (Reg.FAN_CFG_FGSRC 2) = 2 ∧ (fg.fan 2).good ≠ 0 ∧
      fg.rd (Reg.FAN_RPMHAND 2) * 1 * fg.rd (Reg.FAN_CFG_FGPPR 2) ≤ 4 * 60000000000) ∧
    ((fanAt FState.WAIT).up = true ∧ (fanAt FState.WAIT).fstate 2 = FState.WAIT) ∧
    (lost.fstate 2 = FState.RUN ∧ lost.rd (Reg.FAN_CFG_FGSRC 2) = 1 ∧ hall.fstate 2 = FState.RUN ∧
      hall.rd (Reg.FAN_CFG_FGSRC 2) = 2 ∧ lost.up = true ∧ hall.up = true) ∧
    (six.up = true ∧ six.fstate 2 = FState.RUN ∧ six.rd (Reg.FAN_CFG_COMM 2) = 0 ∧ six.rd (Reg.FAN_CFG_EN 2) = 1 ∧
      six.rd (Reg.FAN_CFG_FGSRC 2) ≠ 2 ∧ (six.fan 2).commIn = some 5 ∧ sine.up = true ∧ sine.fstate 2 = FState.RUN ∧
      sine.rd (Reg.FAN_CFG_COMM 2) = 1 ∧ sine.rd (Reg.FAN_CFG_EN 2) = 1) ∧
    (forced.up = true ∧ (fanBalls 2).any forced.ballForced = true ∧ (fanBalls 2).any off.ballForced = false) ∧
    (spd.up = true ∧ spd.rd (Reg.FAN_CFG_EN 2) = 1 ∧ spd.actSafe = false ∧ spd.rd (Reg.FAN_SPDPT_SPEN 2) = 1 ∧
      spd.rd (Reg.FAN_SPDPT_CUREN 2) = 0 ∧ spd.fstate 2 ≠ FState.FAULT ∧
      ∃ p, spd.point (spd.rd (Reg.FAN_SPDPT_POINT 2)) = some p ∧ p.source = .fan 2 0) := by
  unfold Accepts; intros; and_intros <;> first | exact ⟨_, rfl, rfl⟩ | decide +kernel +revert

theorem witness_GroupsPinsTrends :
    let g := put [(Reg.FAN_GRP_SOVREN 2, 1), (Reg.FAN_GRP_SENSPT 2, 4095)] live
    let c : State := { live with fuses := [1, 3, 4, 6], boot := { live.boot with shadow := [1, 3, 4, 6] }, act := { ActSt.init with
      groups := ActSt.init.groups.set 2 { late := false, armed := some 0 } } }
    let p := withPoint 0 .fresh 0 (.gpio 3) none (put [(Reg.GPIO_CFG_EN 3, 1), (Reg.GPIO_CFG_DEB 3, 0)] (ready [.gpio]))
    let w := put [(Reg.GPIO_CFG_DEB 3, 2)] p
    (g.up = true ∧ g.rd (Reg.FAN_GRP_SOVREN 2) = 1 ∧ (g.readPoint (g.rd (Reg.FAN_GRP_SENSPT 2))).2 = .notYet) ∧
      (c.act.groups[2].armed.isSome = true ∧ c.variant ≠ .slz4860 ∧ c.d0Up = true ∧ c.balls.pgood = true ∧
        0 + 30 < 200 ∧ 230 < 300 ∧ 300 + 30 < tripThreshold (c.rd Reg.SYS_STRAP_TRIPSEL) ∧ 9730 < 10000 ∧
        tripThreshold (c.rd Reg.SYS_STRAP_TRIPSEL) + 30 < 5000 ∧ 5000 + 30 < 9700 ∧
        c.rd Reg.FAN_GSTAT_CMPCAUSE = 0 ∧ (put [(Reg.FAN_GSTAT_CMPCAUSE, 3)] c).rd Reg.FAN_GSTAT_CMPCAUSE ≠ 0) ∧
      (p.up = true ∧ p.ballForced (gpioBall 3) = false ∧ p.rd (Reg.GPIO_CFG_EN 3) = 1 ∧ p.rd (Reg.GPIO_CFG_DIR 3) = 0 ∧ p.works .gpio = true ∧ (p.gpin 3).cand = false ∧
        debSamples (p.rd (Reg.GPIO_CFG_DEB 3)) ≤ (p.gpin 3).stable + 1 ∧ (p.gpin 3).value ≠ some false ∧
        ∃ q, p.point (p.rd (Reg.GPIO_CFG_POINT 3)) = some q ∧ q.source = .gpio 3) ∧
      (w.up = true ∧ w.ballForced (gpioBall 3) = false ∧ w.rd (Reg.GPIO_CFG_EN 3) = 1 ∧ w.rd (Reg.GPIO_CFG_DIR 3) = 0 ∧ w.works .gpio = true ∧ (w.gpin 3).cand ≠ true ∧
        0 < debSamples (w.rd (Reg.GPIO_CFG_DEB 3))) ∧
      (live.up = true ∧ live.therm.tripped = false ∧ live.tally.running = none ∧ live.tally.waiting = [] ∧ live.tally.events = []) := by
  intros; and_intros <;> first | exact ⟨_, rfl, rfl⟩ | decide +kernel +revert

/-- Valve channel 7 in a state. -/
def valveAt (st : Nat) (x : ValveSt) (l : List (Fld × Nat) := []) : State :=
  { withPoint 0 .fresh 0 .host none (put ([(Reg.VLV_STAT_VSTATE 7, st), (Reg.VLV_CFG_EN 7, 1)] ++ l) (ready [.fan, .vlv])) with
    act := { ActSt.init with applied := true, valves := ActSt.init.valves.set 7 x } }

theorem witness_Valves :
    let lead := valveAt VState.PEAK { ValveSt.init with leadUntil := some 9 }
    let peak := valveAt VState.PEAK { ValveSt.init with vgAt := some 0, vg := true } [(Reg.VLV_TPKMAX 7, 1000)]
    let half := valveAt VState.PEAK { ValveSt.init with vgAt := some 0, ipkAt := some 3 }
    let low := valveAt VState.HOLD { ValveSt.init with offNs := some 999, up := true } [(Reg.VLV_CHOP_TOFFMIN 7, 1)]
    let high := valveAt VState.HOLD { ValveSt.init with vg := true, up := true }
    let cyc := valveAt VState.OFF ValveSt.init [(Reg.VLV_CFG_MODE 7, 1)]
    let bad := valveAt VState.FAULT ValveSt.init
    (lead.up = true ∧ lead.vstate 7 = VState.PEAK ∧ 7 ∉ (lead.hsw (7 / 4)).waiting ∧ (lead.valve 7).leadUntil = some 9 ∧
      (lead.valve 7).vgAt = none) ∧
    (peak.up = true ∧ peak.vstate 7 = VState.PEAK ∧ 7 ∉ (peak.hsw (7 / 4)).waiting ∧ (peak.valve 7).vgAt = some 0 ∧
      (peak.valve 7).ipkAt = none ∧ 2001 < 0 + peak.tpkMaxNs 7 ∧ 2000 < 0 + peak.tpkMaxNs 7) ∧
    (half.up = true ∧ half.vstate 7 = VState.PEAK ∧ (half.valve 7).vgAt = some 0 ∧ (half.valve 7).ipkAt.isSome = true ∧
      7 ∉ (half.hsw (7 / 4)).waiting) ∧
    (low.up = true ∧ low.chops 7 = true ∧ (low.valve 7).offNs = some 999 ∧ (low.valve 7).vg = false ∧ low.vstate 7 = VState.HOLD) ∧
    (high.up = true ∧ high.chops 7 = true ∧ (high.valve 7).vg = true) ∧
    (cyc.up = true ∧ cyc.rd (Reg.VLV_CFG_MODE 7) = 1 ∧ cyc.rd (Reg.VLV_CFG_EN 7) = 1 ∧ cyc.rd (Reg.VLV_CFG_SHUT 7) = 0 ∧
      (cyc.valve 7).cycLen ≤ (cyc.valve 7).cyc + 1 ∧ cyc.actSafe = false ∧ cyc.service = false ∧ cyc.pointHeld (cyc.rd (Reg.VLV_CFG_CMDPT 7)) = false ∧
      (cyc.readPoint (cyc.rd (Reg.VLV_CFG_CMDPT 7))).2.usable = true) ∧
    (bad.up = true ∧ Accepts bad .vlv ∧ bad.unlocked .vlv = true ∧ bad.vstate 7 = VState.FAULT ∧ Accepts cyc .vlv ∧ cyc.unlocked .vlv = true ∧
      cyc.vstate 7 ≠ VState.FAULT) := by
  unfold Accepts; intros; and_intros <;> decide +kernel +revert

/-- A tally store with work. -/
def tally (t : TallySt) (s : State := live) : State := { s with tally := t }

def page0 (k : PulseKind) (n : Nat) : Pulse := { kind := k, page := n, bytes := [(255, 7#8)] }

theorem witness_TallyPages :
    let d := tally { TallySt.init with running := some (page0 .counter 2047) }
    let p := tally { TallySt.init with running := some (page0 .aux 64), waiting := [page0 .host 1024, page0 .counter 528] }
    let low : State := put [(Reg.TALLY_PROTLO, 1024), (Reg.TALLY_PROTHI, 1024)]
      { live with balls := { Balls.init with nvwp := false } }
    let l := tally { TallySt.init with running := some (page0 .aux 64), waiting := [page0 .host 1024] } low
    let o := tally { TallySt.init with openBuf := some (1024, 0, [1, 2]) }
    let f := tally { TallySt.init with waiting := [page0 .host 1024, page0 .host 1025] }
    let z : State := { live with therm := { live.therm with tripped := true } }
    (d.up = true ∧ d.tally.running = some (page0 .counter 2047) ∧ d.tally.events = [] ∧ (page0 .counter 2047).kind ≠ .record ∧
      d.tally.waiting = []) ∧
    (p.up = true ∧ p.tally.waiting = [page0 .host 1024, page0 .counter 528] ∧ p.pulseLocked (page0 .host 1024) = false ∧
      p.pulseLocked (page0 .counter 528) = false ∧ (page0 .counter 528).kind.rank < (page0 .host 1024).kind.rank ∧
      ¬ (page0 .host 1024).kind.rank < (page0 .counter 528).kind.rank) ∧
    (l.up = true ∧ l.tally.running = some (page0 .aux 64) ∧ l.tally.waiting = [page0 .host 1024] ∧ l.tally.events = [] ∧
      l.pageLocked 1024 = true) ∧
    (1023 < 1024 ∧ 262143 / 256 < 1024 ∧ 2047 < 524288 / 256 ∧ 262144 / 256 = 1024 ∧ 524286 / 256 = 2047) ∧
    (o.up = true ∧ o.therm.tripped = false ∧ z.up = true ∧ z.therm.tripped = true ∧ o.pageLocked 1024 = false ∧ (262146 + 2) % 256 ≠ 0 ∧
      o.tally.openBuf = some (262146 / 256, 262146 % 256 - [1#8, 2#8].length, [1, 2]) ∧ [1#8, 2#8].length ≤ 262146 % 256) ∧
    (d.up = true ∧ d.tally.openBuf = none ∧ (tally TallySt.init).tally.used < 2 ∧ f.tally.openBuf = none ∧ 2 ≤ f.tally.used) ∧
    (o.tally.running = none ∧ o.tally.waiting = [] ∧ o.tally.events = []) := by
  intros; and_intros <;> decide +kernel +revert

theorem witness_TallyRecords :
    let s := put [(Reg.TALLY_RDEF0_NPG 15, 1), (Reg.TALLY_RDEF0_BASE 15, 1024), (Reg.TALLY_RDEF1 15, 1026), (Reg.TALLY_RSEL, 15),
      (Reg.TALLY_RLEN, 256)] (ready [.tally])
    let b := tally { TallySt.init with begun := some (15, true) } s
    let c := tally { TallySt.init with rcmd := some { id := 0, commit := true } } s
    (Accepts s .tally ∧ s.unlocked .tally = true ∧ s.rd (Reg.TALLY_RDEF0_NPG (s.rd Reg.TALLY_RSEL)) ≠ 0 ∧ s.tally.rcmd = none ∧
      s.balls.nvwp = true ∧ s.tally.running = none ∧ s.tally.waiting = [] ∧ s.tally.events = [] ∧ s.tally.begun = none) ∧
    (Accepts b .tally ∧ b.tally.begun = some (b.rd Reg.TALLY_RSEL, true) ∧ b.tally.openBuf = none ∧
      b.rd Reg.TALLY_RLEN ≤ 256 * b.rd (Reg.TALLY_RDEF0_NPG (b.rd Reg.TALLY_RSEL))) ∧
    (Accepts c .tally ∧ c.unlocked .tally = true ∧ c.tally.rcmd.isSome = true) := by
  unfold Accepts; intros; and_intros <;> decide +kernel +revert

theorem witness_TallyCounters :
    let s := put [(Reg.TALLY_CSEL, 23)] (ready [.tally])
    let h := put [(Reg.TALLY_CSEL, 24)] (ready [.tally])
    let c := tally { TallySt.init with scanned := true } (put [(Reg.TALLY_CSEL, 63)] (ready [.tally]))
    let b := tally { TallySt.init with batch := TallySt.init.batch.set 63 1 }
    (Accepts s .tally ∧ s.unlocked .tally = true ∧ s.rd Reg.TALLY_CSEL < 24) ∧
    (Accepts h .tally ∧ h.unlocked .tally = true ∧ 24 ≤ h.rd Reg.TALLY_CSEL ∧ h.tally.scanned = false) ∧
    (Accepts c .tally ∧ c.unlocked .tally = true ∧ 24 ≤ c.rd Reg.TALLY_CSEL ∧ c.tally.scanned = true ∧ c.tally.running = none ∧
      c.tally.waiting = [] ∧ c.tally.events = [] ∧
      cellNewest c.tally.mem (c.rd Reg.TALLY_CSEL) (List.range 16) none = none) ∧
    (b.up = true ∧ b.therm.tripped = false ∧ b.tally.scanned = false ∧ b.tally.batch[63] = 0 + 1 ∧ b.tally.held = []) := by
  unfold Accepts; intros; and_intros <;> decide +kernel +revert

/-- The flash window may write; both chips are of 64 KiB. -/
def flash (f : FlashSt) (l : List (Fld × Nat) := []) : State :=
  { put ([(Reg.FLW_WIN_WEN, 1), (Reg.FLW_CHIP_NSTAT 0, 0), (Reg.FLW_CHIP_NSTAT 1, 0)] ++ l) (ready [.flw]) with flash := f }

/-- The image in force begins at address 0. -/
def imaged (s : State) : State :=
  put [(Reg.BOOT_STAT_COPY, 0)]
    { s with boot := { s.boot with inForce := some (.copyA, { seq := 0, privlock := false, total := 4096, planlen := 1, secs := [] }) } }

theorem witness_FlashPort :
    let s := flash FlashSt.init
    let o := flash { FlashSt.init with openBuf := some (0, 256, [1#8, 2#8]) }
    let u := flash { FlashSt.init with waiting := [.program 0 0 [1#8], .program 0 0 [1#8]] }
    let p := flash { FlashSt.init with running := some (.program 1 65535 [0#8]), wip := false }
    let v := flash { FlashSt.init with running := some (.program 1 65535 [0#8]), wip := false } [(Reg.FLW_WIN_VERIFY, 1)]
    let g := flash { FlashSt.init with running := some (.erase 1 61440 4096) }
    let e := flash FlashSt.init [(Reg.FLW_ECMD_CS, 0), (Reg.FLW_ECMD_SIZE, 0), (Reg.FLW_CHIP_ERMASK 0, 1)]
    let c : Chip := Chip.blank []
    let z : State := { s with therm := { s.therm with tripped := true } }
    (s.up = true ∧ s.therm.tripped = false ∧ z.up = true ∧ z.therm.tripped = true ∧ live.up = true ∧ live.therm.tripped = false ∧ live.rdB Reg.FLW_WIN_WEN = false ∧ s.rdB Reg.FLW_WIN_WEN = true ∧ s.rd Reg.FLW_WIN_CS = 0 ∧ s.rd Reg.FLW_WIN_BASE = 0 ∧
      s.flashSize 0 = 65536 ∧ s.flash.chips[0]? = some c) ∧
    (o.up = true ∧ o.therm.tripped = false ∧ o.hsp.wins[2].fetch.isEmpty = true ∧ o.rdB Reg.FLW_WIN_WEN = true ∧ o.flash.openBuf = some (0, 256, [1#8, 2#8]) ∧ 258 + 1 < o.flashSize 0 ∧
      258 / c.page = 256 / c.page ∧ (258 + 2) % c.page ≠ 0 ∧ o.flash.chips[0]? = some c ∧ o.flash.running = none ∧
      o.flash.waiting = [] ∧ o.touchesImage 0 256 2 = false ∧ Accepts o .flw) ∧
    (s.flash.openBuf = none ∧ s.flash.used < 2 ∧ u.up = true ∧ u.rdB Reg.FLW_WIN_WEN = true ∧ u.therm.tripped = false ∧ u.flash.openBuf = none ∧ 2 ≤ u.flash.used) ∧
    (p.up = true ∧ v.up = true ∧ p.flash.running = some (.program (1 : Fin 2).val 65535 [0#8]) ∧ p.flash.waiting = [] ∧ p.flash.wip = false ∧
      p.rdB Reg.FLW_WIN_VERIFY = false ∧ v.rdB Reg.FLW_WIN_VERIFY = true) ∧
    (Accepts e .flw ∧ e.unlocked .flw = true ∧ e.rd Reg.FLW_ESTAT ≠ Status.BUSY ∧ e.rd Reg.FLW_ECMD_SIZE = 0 ∧
      e.rdPair Reg.FLW_EADDR0 Reg.FLW_EADDR1 = 0 ∧ 0 < e.flashSize 0 ∧ bitsOf (e.rd (Reg.FLW_CHIP_ERMASK 0)) 0 0 = 1 ∧
      bitsOf (s.rd (Reg.FLW_CHIP_ERMASK 0)) 0 0 = 0 ∧ e.touchesImage 0 0 (eraseSize 0) = false ∧
      (imaged e).touchesImage 0 0 (eraseSize 0) = true ∧ Accepts (imaged e) .flw ∧ e.flash.running = none ∧
      e.flash.waiting = [] ∧ e.hsp.wins[2].fetch.isEmpty = true) ∧
    (g.up = true ∧ g.flash.running = some (.erase (1 : Fin 2).val 61440 4096) ∧ g.flash.waiting = [] ∧ g.flash.wip = false) := by
  unfold Accepts; intros; and_intros <;> decide +kernel +revert

/-- The programming port with its transactions. -/
def port (p : PspSt) (l : List (Fld × Nat) := []) : State := { put l (ready [.psp]) with psp := p }

theorem witness_PspTransfers :
    let b := port PspSt.init [(Reg.PSP_HCMD_CSTAT, Status.BUSY)]
    let s := port PspSt.init [(Reg.PSP_HSEL_LEN, 64), (Reg.PSP_HSEL_SEL, 5)]
    let o := put [(Reg.HEAD_CTRL_PCS 3, 5), (Reg.HEAD_WIDTH 3, 4), (Reg.HEAD_HEIGHT 3, 1)] s
    let h := port { PspSt.init with running := some (.host 5 [1#8, 2#8]) }
    let w := port { PspSt.init with running := some (.head 3), waiting := [.host 5 [1#8], .setting 0] }
    (Accepts b .psp ∧ b.unlocked .psp = true ∧ b.rd Reg.PSP_HCMD_CSTAT = Status.BUSY) ∧
    (Accepts s .psp ∧ s.unlocked .psp = true ∧ s.rd Reg.PSP_HCMD_CSTAT ≠ Status.BUSY ∧ s.rd Reg.PSP_HSEL_LEN = 64 ∧
      s.rd Reg.PSP_HSEL_SEL = 5 ∧ s.headOwns 5 = false ∧ s.psp.running = none ∧ s.psp.waiting = []) ∧
    (Accepts o .psp ∧ o.headOwns 5 = true ∧ o.rd Reg.PSP_HSEL_LEN = 64 ∧ o.rd Reg.PSP_HSEL_SEL = 5) ∧
    (h.up = true ∧ h.psp.running = some (.host 5 [1#8, 2#8]) ∧ h.psp.waiting = []) ∧
    (w.up = true ∧ w.psp.running = some (.head 3) ∧ w.psp.waiting = [.host 5 [1#8], .setting 0] ∧
      (PspReq.setting 0).cls < (PspReq.host 5 [1#8]).cls) := by
  unfold Accepts; intros; and_intros <;> decide +kernel +revert

/-- Sensor port 3, its domain ON, with a profile of 4 × 2 pixels. -/
def headAt (x : HeadSt) (l : List (Fld × Nat) := []) : State :=
  { powered [8] (put ([(Reg.HEAD_WIDTH 3, 4), (Reg.HEAD_HEIGHT 3, 2)] ++ l) (ready [.head 3])) with
    heads := live.heads.set 3 x }

/-- A frame of which no line has come. -/
def rx0 : FrameRx :=
  { frame := 1, set := 0, gen := 0, lines := 0, slot0 := 0, held := [], l3 := false, notsvc := false, ovr := false, shortline := false,
    hdr := false, crc := false, nofe := false, long := false, embedded := none, user := [] }

def inSvc : HeadSt := { HeadSt.init with svc := true, ring := [none, none] }

theorem witness_FramesReceived :
    let s := headAt { inSvc with rx := some rx0, ringNext := 1 } [(Reg.HEAD_LINK_DT 3, 2)]
    let b := headAt { inSvc with rx := some rx0, ringNext := 1 } [(Reg.HEAD_LINK_DT 3, 1)]
    let l := headAt { inSvc with rx := some { rx0 with lines := 2 } }
    let n := headAt inSvc
    let e := headAt { inSvc with fsSeen := true }
    let w := headAt { HeadSt.init with neg := some .waitFs, negFt := 1 }
    (s.up = true ∧ s.takes 3 0 = true ∧ s.takes 3 3 = false ∧ s.rd (Reg.HEAD_LINK_DT 3) = 2 ∧ b.up = true ∧ b.headListens 3 = true ∧
      (b.head 3).rx = some rx0 ∧ (b.head 3).extra = false ∧ b.takes 3 0 = true ∧ b.rd (Reg.HEAD_LINK_DT 3) = 1 ∧
      assocGet rx0.user 7 = none ∧ s.headListens 3 = true ∧ (s.head 3).rx = some rx0 ∧ (s.head 3).extra = false ∧ rx0.lines < s.rd (Reg.HEAD_HEIGHT 3) ∧
      rx0.l3 = false ∧ rx0.notsvc = false ∧ rx0.ovr = false ∧ s.cmp.running = none ∧
      (s.head 3).ring[(s.head 3).ringNext]? = some none) ∧
    (l.up = true ∧ l.takes 3 0 = true ∧ l.headListens 3 = true ∧ (l.head 3).rx = some { rx0 with lines := 2 } ∧ (l.head 3).extra = false ∧
      l.rd (Reg.HEAD_HEIGHT 3) ≤ 2) ∧
    (n.up = true ∧ n.takes 3 0 = true ∧ n.takes 3 3 = false ∧ n.headListens 3 = true ∧ (n.head 3).rx = none ∧ (n.head 3).fsSeen = false ∧ (n.head 3).neg = none ∧
      (n.head 3).ring.length = n.ringLen 3) ∧
    (e.up = true ∧ e.takes 3 0 = true ∧ e.headListens 3 = true ∧ (e.head 3).rx = none ∧ (e.head 3).fsSeen = true) ∧
    (w.up = true ∧ w.takes 3 0 = true ∧ 1 ≤ (w.head 3).negFt ∧ w.headListens 3 = true ∧ (w.head 3).rx = none ∧ (w.head 3).neg = some .waitFs) := by
  intros; and_intros <;> decide +kernel +revert

/-- A frame with both lines, and the causes of the other results. -/
theorem witness_FrameResults :
    let r2 : FrameRx := { rx0 with lines := 2, held := [[0, 1, 2, 3], [4, 5, 6, 7]] }
    let s := headAt { inSvc with rx := some r2, curFrame := 1, px := List.replicate 8 ⟨0, 0, 0, 0, 0⟩ }
      [((Blk.pe 3).stateFld, stInService)]
    let o := headAt { inSvc with rx := some { rx0 with lines := 2, long := true, ovr := true } }
    (s.up = true ∧ s.takes 3 0 = true ∧ s.headListens 3 = true ∧ (s.head 3).extra = false ∧ (s.head 3).rx = some r2 ∧
      r2.held[1]? = some [4, 5, 6, 7] ∧ r2.held.length ≤ (s.head 3).ring.length ∧
      s.rd (Reg.HEAD_TLMFPA_EN 3) = 0 ∧ s.rd (Reg.HEAD_TLMSHT_EN 3) = 0 ∧ s.rd (Reg.HEAD_TLMSET_EN 3) = 0 ∧
      s.headNotSvc 3 = false ∧ rx0.frame = (s.head 3).curFrame ∧ (s.shutHead 3).startup = false ∧ s.cmp.running = none) ∧
    (o.up = true ∧ o.takes 3 0 = true ∧ (o.head 3).extra = false ∧ o.rd (Reg.HEAD_TLMFPA_EN 3) = 0 ∧ o.headListens 3 = true ∧ (o.head 3).rx = some { rx0 with lines := 2, long := true, ovr := true } ∧
      o.headNotSvc 3 = true) := by
  intros; and_intros <;> decide +kernel +revert

/-- The body of a descriptor of a 4 × 2 head, four lanes of 1,200 Mbit/s, RAW14 and RAW16, and its CRC-32. -/
def descBody : List Byte :=
  [0x53, 0x5A, 0x48, 0x44, 1, 64] ++ leBytes 2 4 ++ leBytes 2 2 ++ [4, 14] ++ leBytes 2 120 ++ [3, 20] ++ List.replicate 44 0

def descBytes : List Byte := descBody ++ leBytes 4 (crc32 descBody).toNat

theorem witness_Negotiations :
    let n (x : HeadSt) := headAt x [(Reg.HEAD_TFE 3, 1000), (Reg.HEAD_LINKCFG_BOND 3, 0)]
    let profile : LinkProfile :=
      { bond := (n HeadSt.init).rdB (Reg.HEAD_LINKCFG_BOND 3), width := (n HeadSt.init).rd (Reg.HEAD_WIDTH 3)
        height := (n HeadSt.init).rd (Reg.HEAD_HEIGHT 3), tfe := (n HeadSt.init).rd (Reg.HEAD_TFE 3)
        dtpref := (n HeadSt.init).rd (Reg.HEAD_LINKCFG_DTPREF 3)
        maxlanes := (n HeadSt.init).rd (Reg.HEAD_LINKCFG_MAXLANES 3)
        maxrate := (n HeadSt.init).rd (Reg.HEAD_LINKCFG_MAXRATE 3) }
    ((n HeadSt.init).up = true ∧ ((n { HeadSt.init with neg := some .pending, attempt := 2 }).head 3).neg = some .pending ∧
      ((n { HeadSt.init with neg := some .pending, attempt := 2 }).head 3).reneg = false) ∧
    ((n { HeadSt.init with neg := some .reset }).head 3).neg = some .reset ∧
    (((n { HeadSt.init with neg := some .wait }).head 3).neg = some .wait ∧
      (n { HeadSt.init with neg := some .wait }).psp.running = none ∧ (n { HeadSt.init with neg := some .wait }).psp.waiting = []) ∧
    (((n { HeadSt.init with neg := some .waitFs, negFt := 2, attempt := 3 }).head 3).neg = some .waitFs ∧
      2 ≤ ((n { HeadSt.init with neg := some .waitFs, negFt := 2, attempt := 3 }).head 3).negFt) ∧
    (((n { HeadSt.init with neg := some .descriptor }).head 3).neg = some .descriptor ∧
      ((n { HeadSt.init with neg := some .descriptor }).head 3).attempt < 3) ∧
    negotiate profile (parseDesc descBytes) = .link 2 120 1 ∧ (parseDesc descBytes).isSome = true ∧
    negotiate { profile with height := 3 } (parseDesc descBytes) = .refuse 1 ∧ parseDesc [0] = none ∧
    (progRegs ((n { HeadSt.init with neg := some .descriptor }).linkWrites 3 3 120 2) [0, 0, 0]).2.1 = true ∧
    (progRegs ((n { HeadSt.init with neg := some .descriptor }).linkWrites 3 3 120 2) []).2.1 = false ∧
    negotiate profile none = .link profile.maxlanes profile.maxrate 2 := by
  intros; and_intros <;> decide +kernel +revert

/-- A staged change of the setting. -/
def change0 (ready : Bool) : SetChange :=
  { target := 1, set := 3, modify := none, ready := ready, programmedFor := none, done := false }

theorem witness_SettingChanges :
    let s := headAt inSvc
    let p := headAt { inSvc with winOpen := true, change := some (change0 true) } [(Reg.HEAD_NEXTCTL_CSTAGE 3, Stage.PENDING)]
    let g := { headAt { inSvc with change := some (change0 false) } [(Reg.HEAD_NEXTCTL_CSTAGE 3, Stage.PROGRAMMING)] with
      psp := { PspSt.init with running := some (.setting 3) } }
    let r := headAt { inSvc with winOpen := true, restore := true }
    let k := { headAt { inSvc with winOpen := true, restore := true, restoring := true } with
      psp := { PspSt.init with running := some (.setting 3) } }
    let w := s.setWrites 3 (s.setVals 3 0).1 (s.setVals 3 0).2.1 (s.setVals 3 0).2.2
    ((progRegs w [0, 0, 0]).2.1 = true ∧ (progRegs w [0, 1, 0, 0]).2.1 = true ∧ (progRegs w [1, 1]).2.1 = false) ∧
    (r.up = true ∧ r.headPresent 3 = true ∧ (r.head 3).restoring = false ∧ (r.head 3).winOpen = true ∧ (r.head 3).restore = true ∧
      (r.head 3).restoreTried = false ∧ (r.head 3).change = none ∧ r.psp.running = none ∧ r.psp.waiting = []) ∧
    (k.up = true ∧ k.headPresent 3 = true ∧ k.psp.running = some (.setting 3) ∧ k.psp.waiting = [] ∧ (k.head 3).restoring = true) ∧
    (s.up = true ∧ s.headPresent 3 = true ∧ p.up = true ∧ p.headPresent 3 = true ∧ (p.head 3).restoring = false ∧
      (p.head 3).restore = false ∧ g.up = true ∧ g.headPresent 3 = true ∧ (g.head 3).restoring = false ∧ (change0 false).done = false) ∧
    (s.therm.tripped = false ∧ Accepts s (.head 3) ∧ s.cstage 3 ≠ Stage.PROGRAMMING ∧ s.rd (Reg.HEAD_NEXTSET_MODIFY 3) = 0 ∧
      (s.head 3).winOpen = false ∧ s.cstage 3 ≠ Stage.PENDING) ∧
    (p.therm.tripped = false ∧ p.cstage 3 = Stage.PENDING ∧ (p.head 3).change = some (change0 true) ∧
      (change0 true).ready = true ∧ (p.head 3).winOpen = true ∧ p.psp.running = none ∧ p.psp.waiting = [] ∧ Accepts p (.head 3)) ∧
    (g.therm.tripped = false ∧ Accepts g (.head 3) ∧ g.cstage 3 = Stage.PROGRAMMING ∧
      (g.head 3).change = some (change0 false) ∧ g.psp.running = some (.setting 3) ∧ g.psp.waiting = []) ∧
    ((65535#18).toNat < 65536 ∧ (65535#18).toNat ≠ s.rd (Reg.HEAD_SETINT 3 3) ∧ s.unlocked (.head 3) = true ∧
      3 ≠ s.rd (Reg.HEAD_CUR_SET 3) ∧ 0 = s.rd (Reg.HEAD_CUR_SET 3) ∧ (65535#18).toNat ≠ s.rd (Reg.HEAD_SETINT 3 0)) := by
  unfold Accepts; intros; and_intros <;> decide +kernel +revert

/-- A section record of a section without bytes, at offset 4096, its digest that of the empty string. -/
def emptySec (ty unit cls : Nat) : List Byte :=
  [BitVec.ofNat 8 ty, BitVec.ofNat 8 unit, BitVec.ofNat 8 cls, 0#8] ++ leBytes 4 4096 ++ List.replicate 8 0#8 ++ sha256 []

/-- A header with those records, and its CRC-32 (Table 6-3). -/
def headerBytes (seq : Nat) (recs : List (List Byte)) : List Byte :=
  let a := [0x56#8, 0x52#8, 0x52#8, 0x4E#8, 1#8, 0#8] ++ leBytes 2 (160 + 48 * recs.length) ++ leBytes 3 seq ++ [0#8] ++
    leBytes 2 recs.length ++ [0#8, 0#8] ++ leBytes 4 8192 ++ List.replicate 132 0#8
  let z := [0#8, 0#8, 0#8, 0#8] ++ recs.flatten
  a ++ leBytes 4 (crc32 (a ++ [0#8, 0#8, 0#8, 0#8] ++ z)).toNat ++ z

/-- Bytes of a flash chip from an address on. -/
def cellsAt (a : Nat) (bs : List Byte) : List (Nat × Byte) :=
  ((List.range bs.length).zip bs).filterMap (fun x => if x.2 = 0xFF#8 then none else some (a + x.1, x.2))

/-- The device at a stage of its start-up, the chip of 64 KiB with these bytes. -/
def booting (st : Nat) (mem : List (Nat × Byte)) (b : BootState := BootState.init) (l : List (Fld × Nat) := []) : State :=
  { powered [1, 2] (put ([(Reg.BOOT_STAT_STAGE, st), (Reg.FLW_CHIP_NSTAT 0, 0)] ++ l) (ready [.boot])) with
    flash := { FlashSt.init with chips := FlashSt.init.chips.set 0 (Chip.blank mem) }
    boot := b }

def hdr0 : Header := { seq := 0, privlock := false, total := 8192, planlen := 0, secs := [] }

def sfdp0 : Sfdp :=
  { capable := true, dens := 0, entry4 := 0, reads := [⟨5, 0xEB, 2, 4⟩], quadMethod := true, quadReadsBack := true, erases := [(0, 0x20)],
    page := none }

def isOk {α β : Type} : Except α β → Bool
  | .ok _ => true
  | .error _ => false

theorem witness_StartUpAndSelection_start :
    let r := put [(Reg.CLK_STAT_XTALOK, 1)] live
    let o := booting BStage.SERVICE_ONLY [] BootState.init [(Reg.FLW_CHIP_NSTAT 0, Status.NOT_YET)]
    (o.up = true ∧ o.stage = BStage.SERVICE_ONLY ∧ o.rd (Reg.FLW_CHIP_NSTAT 0) = Status.NOT_YET ∧
      ({ sfdp0 with capable := false }).capable = false) ∧ r.up = true ∧ (r.startReady = true ∧ live.startReady = false) ∧
    ((booting BStage.WAIT_XTAL []).up = true ∧ (booting BStage.FLASH []).up = true ∧ (booting BStage.WAIT_XTAL []).stage = BStage.WAIT_XTAL ∧ (booting BStage.WAIT_XTAL []).domOn 1 = true ∧
      (15#4).toNat % 4 = 3 ∧ (14#4).toNat % 4 ≠ 3 ∧ (booting BStage.FLASH []).stage = BStage.FLASH ∧ sfdp0.capable = true) := by
  intros; and_intros <;> decide +kernel +revert

set_option maxRecDepth 100000 in
theorem witness_StartUpAndSelection_copies :
    let one := [emptySec 1 0 0]
    let a := cellsAt 0 (headerBytes 0 one)
    let b := cellsAt 32768 (headerBytes 131071 one)
    let s (m : List (Nat × Byte)) := booting BStage.SELECT m
    let v := booting BStage.VERIFY [] { BootState.init with order := [.copyB, .copyA], hdrB := some hdr0 }
    let k := booting BStage.VERIFY [] { BootState.init with order := [.copyB, .copyA], hdrB := some hdr0, shadow := [32] }
    let z := booting BStage.VERIFY [] { BootState.init with order := [.copyA], hdrA := some hdr0, shadow := [32] }
    (s []).up = true ∧ v.up = true ∧ k.up = true ∧ z.up = true ∧ ((s []).stage = BStage.SELECT ∧ (s []).hostBoot = false ∧ isOk ((s []).header .copyA) = false ∧
      isOk ((s []).header .copyB) = false) ∧
    (isOk ((s a).header .copyA) = true ∧ isOk ((s a).header .copyB) = false) ∧
    (isOk ((s b).header .copyA) = false ∧ isOk ((s b).header .copyB) = true) ∧
    (isOk ((s (a ++ b)).header .copyA) = true ∧ isOk ((s (a ++ b)).header .copyB) = true) ∧
    (v.stage = BStage.VERIFY ∧ v.boot.order = .copyB :: [.copyA] ∧ v.candHeader .copyB = some hdr0 ∧
      v.authentic .copyB hdr0 = 0) ∧
    (k.stage = BStage.VERIFY ∧ k.candHeader .copyB = some hdr0 ∧ k.authentic .copyB hdr0 ≠ 0) ∧
    (z.stage = BStage.VERIFY ∧ z.boot.order = .copyA :: [] ∧ z.candHeader .copyA = some hdr0 ∧
      z.authentic .copyA hdr0 ≠ 0) := by
  intros; and_intros <;> decide +kernel +revert

theorem witness_LoadsAndStream :
    let p := booting BStage.PLAN [] { BootState.init with order := [.copyA], hdrA := some hdr0 }
    let t := booting BStage.CONTROL [] { BootState.init with order := [.copyB], hdrB := some hdr0 }
    let i := booting BStage.IMAGING [] { BootState.init with inForce := some (.copyB, hdr0) }
    let w := booting BStage.HOSTWAIT []
    let g := booting BStage.RUN []
    let h := booting BStage.IMAGING [] { BootState.init with streamOpen := true, stream := [1#8, 2#8] }
      [(Reg.SYS_STRAP_BOOTSEL, 2), (Reg.BOOT_HCTL_HFREE, 1)]
    let o := put [(Reg.BOOT_HCTL_HFREE, 0)] h
    (p.up = true ∧ t.up = true ∧ i.up = true) ∧ (p.stage = BStage.PLAN ∧ p.boot.order = .copyA :: [] ∧ p.candHeader .copyA = some hdr0 ∧
      ImgSrc.copyA ≠ .hostStream) ∧
    (t.stage = BStage.CONTROL ∧ t.boot.order = .copyB :: [] ∧ t.candHeader .copyB = some hdr0) ∧
    (i.stage = BStage.IMAGING ∧ i.boot.imaged = false ∧ i.boot.inForce = some (.copyB, hdr0) ∧ ImgSrc.copyB ≠ .hostStream) ∧
    (Accepts w .boot ∧ w.unlocked .boot = true ∧ w.stage = BStage.HOSTWAIT) ∧
    (Accepts g .boot ∧ g.unlocked .boot = true ∧ g.stage ≠ BStage.HOSTWAIT ∧ g.boot.reload = none ∧
      g.boot.streamOpen = false) ∧
    (Accepts h .boot ∧ h.unlocked .boot = true ∧ h.streamFull = false ∧ h.hostLoading = true ∧ h.boot.streamOpen = true ∧
      h.rd Reg.BOOT_HCTL_HFREE ≠ 0) ∧
    (Accepts o .boot ∧ o.hostLoading = true ∧ o.streamFull = false ∧ o.rd Reg.BOOT_HCTL_HFREE = 0) := by
  unfold Accepts; intros; and_intros <;> decide +kernel +revert

/-- A running device whose sections come from copy A, with its reload. -/
def running (r : Option (Nat × Nat × ImgSrc)) (l : List (Fld × Nat) := []) (ins : List Nat := []) : State :=
  booting BStage.RUN (cellsAt 0 (headerBytes 0 [emptySec 1 0 0, emptySec 5 0 0, emptySec 7 1 0]))
    { BootState.init with reload := r, clusterIn := ins }
    ([(Reg.BOOT_RLSEL_TYPE, 7), (Reg.BOOT_RLSEL_UNIT, 1), (Reg.BOOT_STAT_COPY, 0)] ++ l)

set_option maxRecDepth 100000 in
theorem witness_PartialReloads :
    let s := powered [26] (running none [((Blk.ctl 1).stateFld, stInService)])
    let n := running none [(Reg.BOOT_RLSEL_TYPE, 1)]
    let r := running (some (7, 1, .copyA)) [(Reg.BOOT_RLCTL_RLSTAGE, RStage.VERIFY)]
    let a := running (some (5, 0, .copyA)) [(Reg.BOOT_RLCTL_RLSTAGE, RStage.VERIFY), (Blk.fan.stateFld, stInService)]
    let d := running (some (5, 0, .copyA)) [(Reg.BOOT_RLCTL_RLSTAGE, RStage.VERIFY), (Blk.fan.stateFld, stDown)]
    let e := running (some (6, 0, .copyA)) [(Reg.BOOT_RLCTL_RLSTAGE, RStage.VERIFY)]
    let k := running (some (7, 1, .copyA)) [(Reg.BOOT_RLCTL_RLSTAGE, RStage.CHECK)]
    let l := running (some (5, 0, .copyA)) [(Reg.BOOT_RLCTL_RLSTAGE, RStage.LOADING)]
    let c := running (some (7, 1, .copyA)) [(Reg.BOOT_RLCTL_RLSTAGE, RStage.LOADING)] [1]
    let t := running (some (5, 0, .copyA)) [(Reg.BOOT_RLCTL_RLSTAGE, RStage.RESTORE)]
    let f : State := { t with boot := { t.boot with reloadFail := some 1 } }
    let q := s.wrB Blk.boot.unlockedFld false
    (q.up = true ∧ Accepts q .boot ∧ q.unlocked .boot = false) ∧
    (s.up = true ∧ n.up = true ∧ r.up = true ∧ a.up = true ∧ d.up = true ∧ e.up = true ∧ k.up = true ∧ l.up = true ∧ c.up = true) ∧
    (r.chipBusy 0 = false ∧ a.chipBusy 0 = false ∧ d.chipBusy 0 = false ∧ e.chipBusy 0 = false) ∧
    (l.loaderRuns 5 0 .copyA = true ∧ l.boot.reloadFail = none ∧ f.up = true ∧ f.boot.reload = some (5, 0, .copyA) ∧
      f.loaderRuns 5 0 .copyA = true ∧ f.rlStage = RStage.RESTORE ∧ f.boot.reloadFail = some 1) ∧
    (Accepts s .boot ∧ s.unlocked .boot = true ∧ s.rd Reg.BOOT_RLSEL_TYPE = 7 ∧ s.rd Reg.BOOT_RLSEL_UNIT = 1 ∧
      (s.reloadFirst 7 1 (imgSrcOf (s.rd Reg.BOOT_RLSEL_SRC))).1 = Status.OK) ∧
    (Accepts n .boot ∧ n.unlocked .boot = true ∧ n.boot.reload = none ∧ n.rd Reg.BOOT_RLSEL_TYPE = 1 ∧
      (n.reloadFirst 1 1 (imgSrcOf (n.rd Reg.BOOT_RLSEL_SRC))).1 ≠ Status.OK) ∧
    (Accepts r .boot ∧ r.stage = BStage.RUN ∧ r.service = false ∧ r.boot.reload.isSome = true ∧ r.unlocked .boot = true) ∧
    (r.boot.reload = some (7, 1, .copyA) ∧ ImgSrc.copyA ≠ .hostStream ∧ r.rlStage = RStage.VERIFY ∧
      isOk (r.reloadChecks 7 1 .copyA (live.portTables 1)) = true) ∧
    (a.boot.reload = some (5, 0, .copyA) ∧ a.rlStage = RStage.VERIFY ∧ a.works .act = true ∧
      isOk (a.reloadChecks 5 0 .copyA (live.portTables 1)) = true) ∧
    (d.boot.reload = some (5, 0, .copyA) ∧ d.rlStage = RStage.VERIFY ∧ d.eng .act = stDown ∧
      isOk (d.reloadChecks 5 0 .copyA (live.portTables 1)) = true) ∧
    (e.boot.reload = some (6, 0, .copyA) ∧ e.rlStage = RStage.VERIFY ∧
      isOk (e.reloadChecks 6 0 .copyA (live.portTables 1)) = false) ∧
    (k.boot.reload = some (7, (1 : Fin 2).val, .copyA) ∧ k.rlStage = RStage.CHECK) ∧
    (l.boot.reload = some (5, 0, .copyA) ∧ l.rlStage = RStage.LOADING ∧ 0 ∉ l.boot.clusterIn ∧
      isOk (l.reloadWrite 5 0 .copyA) = true) ∧
    (c.boot.clusterIn = [(1 : Fin 2).val] ∧ c.boot.reload = some (7, (1 : Fin 2).val, .copyA)) := by
  unfold Accepts; intros; and_intros <;> decide +kernel +revert

/-- Slot 511 in a state, without enabled inputs unless a field says otherwise. -/
def loopAt (st : Nat) (x : LoopSt := LoopSt.init) (l : List (Fld × Nat) := []) : State :=
  { put ([(Reg.CTL_SSTAT_STATE 1 255, st), (Reg.CTL_SSEL 1, 255)] ++ l) (ready [.ctl 1]) with loops := [(511, x)] }

theorem witness_LoopEvaluations :
    let s := loopAt LState.AUTO
    let p := loopAt LState.AUTO { LoopSt.init with preset := .other, mark := true }
    let m := loopAt LState.AUTO LoopSt.init [(⟨0x10010 + 0x40 * 511, 17, 17⟩, 1)]
    let n := loopAt LState.MANUAL
    let d := loopAt LState.AUTO LoopSt.init [(Reg.CTL_MODE_K 511, 1), (Reg.CTL_PHASE 511, 1)]
    let f := { loopAt LState.AUTO LoopSt.init [((Blk.ctl 1).stateFld, stLoading)] with
      boot := { BootState.init with reload := some (7, 1, .copyA) } }
    let q : State := { put [(Reg.CTL_SSTAT_STATE 1 254, LState.AUTO)] s with loops := [(510, LoopSt.init), (511, LoopSt.init)] }
    (s.up = true ∧ s.loopTurn 511 = true ∧ p.up = true ∧ p.loopTurn 511 = true ∧ m.up = true ∧ m.loopTurn 511 = true ∧
      n.up = true ∧ n.loopTurn 511 = true ∧ d.up = true ∧ q.up = true ∧ q.loopTurn 511 = false) ∧
    (f.up = true ∧ f.loopWaits 511 = true ∧ f.loopTurn 511 = true ∧ f.clusterWorks (511 / 256) = false ∧
      f.boot.reload = some (7, 511 / 256, .copyA) ∧ assocGet f.loops 511 = some LoopSt.init) ∧
    (assocGet s.loops 511 = some LoopSt.init ∧ s.loopDue 511 = true ∧ LoopSt.init.evaluated = false ∧
      s.clusterWorks (511 / 256) = true ∧ s.lstate 511 = LState.AUTO ∧
      ((s.readInput 511 0).ok && (s.readInput 511 1).ok && (s.readInput 511 2).ok) = true ∧ LoopSt.init.preset = .none) ∧
    (p.loopDue 511 = true ∧ p.clusterWorks (511 / 256) = true ∧ p.lstate 511 = LState.AUTO ∧ (p.loop 511).preset ≠ .none ∧
      (p.loop 511).mark = true ∧ (p.loop 511).evaluated = false) ∧
    (m.loopDue 511 = true ∧ m.clusterWorks (511 / 256) = true ∧ m.lstate 511 = LState.AUTO ∧
      ((m.readInput 511 0).ok && (m.readInput 511 1).ok && (m.readInput 511 2).ok) = false) ∧
    (assocGet n.loops 511 = some LoopSt.init ∧ n.loopDue 511 = true ∧ n.clusterWorks (511 / 256) = true ∧
      n.lstate 511 = LState.MANUAL) ∧
    (d.loopDue 511 = false ∧ (loopAt LState.OFF).lstate 511 = LState.OFF ∧ (loopAt LState.OPEN).lstate 511 = LState.OPEN ∧
      (loopAt LState.TRIPPED).lstate 511 = LState.TRIPPED) := by
  intros; and_intros <;> decide +kernel +revert

theorem witness_LoopCommands :
    let o := loopAt LState.OPEN
    let t := loopAt LState.TRIPPED
    let z : State := { o with loops := [] }
    (Accepts o (.ctl 1) ∧ o.unlocked (.ctl 1) = true ∧ 256 * (1 : Fin 2).val + o.rd (Reg.CTL_SSEL 1) = 511 ∧
      assocGet o.loops 511 = some LoopSt.init ∧ o.service = false ∧ loopAllowed (o.lstate 511) .off = true ∧
      loopAllowed (o.lstate 511) .open' = true ∧ loopAllowed (o.lstate 511) .manual = true ∧
      loopAllowed (o.lstate 511) .auto = true ∧ o.configured 511 = true ∧ loopAllowed (o.lstate 511) .reset = false) ∧
    (Accepts t (.ctl 1) ∧ t.unlocked (.ctl 1) = true ∧ assocGet t.loops 511 = some LoopSt.init ∧
      loopAllowed (t.lstate 511) .reset = true ∧ loopAllowed (t.lstate 511) .auto = false) ∧
    (Accepts z (.ctl 1) ∧ z.unlocked (.ctl 1) = true ∧ z.configured 511 = false) := by
  unfold Accepts; intros; and_intros <;> decide +kernel +revert

/-- Trace unit 3 with one entry. -/
def tracing (st : Nat) : State :=
  { put [(Reg.TRC_STAT_STATE 3, st), (Reg.TRC_STAT_COUNT 3, 1)] (ready [.trc]) with
    traces := live.traces.set 3
      { TraceSt.init with ring := [{ n0 := 1, n1 := 2, n2 := 3, n3 := 0x20000, miss := true }] } }

/-- Profile generator 63, its target at point 4095. -/
def profile (st : Nat) : State :=
  { withPoint 4095 .fresh 0 .host none (put [(Reg.PRF_GSEL, 63), (Reg.PRF_TGT 63, 4095), (Reg.PRF_STAT_GSTATE 63, st)] (ready [.prf])) with
    prfs := [(63, PrfSt.init)] }

theorem witness_TracesAndProfiles :
    let i := tracing TState.IDLE
    let a := tracing TState.ARMED
    let p := profile GState.MOVING
    let w := profile GState.WAIT
    let z := serviced (put [(Blk.prf.stateFld, stService)] p)
    let v : State := { z with points := [(0, { v := { value := 5#18, quality := .fresh, age := 0 }, format := .frac, source := .prf 63,
                                               hold := 10, shadow := none })] }
    let o := prfStep PrfSt.init.p.toInt PrfSt.init.v.toInt PrfSt.init.a.toInt (5 * 2 ^ 24) (p.rd (Reg.PRF_VMAX 63) * 2 ^ 16)
      (p.rd (Reg.PRF_AMAX 63) * 2 ^ 8) (p.rd (Reg.PRF_JMAX 63))
    (p.up = true ∧ (fits48 o.p && fits48 o.v && fits48 o.a) = true) ∧
    (Accepts i .trc ∧ i.unlocked .trc = true ∧ i.traceState 3 = TState.IDLE) ∧
    (Accepts a .trc ∧ a.unlocked .trc = true ∧ a.traceState 3 = TState.ARMED) ∧
    (bitsOf (0x3000#18).toNat 13 12 = 3 ∧ bitsOf (0x3000#18).toNat 11 0 = 0 ∧ 0 < i.rd (Reg.TRC_STAT_COUNT 3) ∧
      (i.trace 3).ring[0]? = some { n0 := 1, n1 := 2, n2 := 3, n3 := 0x20000, miss := true } ∧
      bitsOf (0x3001#18).toNat 11 0 = 1 ∧ i.rd (Reg.TRC_STAT_COUNT 3) ≤ 1) ∧
    (p.eng .prf = stInService ∧ assocGet p.prfs 63 = some PrfSt.init ∧ PrfSt.init.out = none ∧ PrfSt.init.cmd = none ∧
      p.prfDue 63 = true ∧ p.rd (Reg.PRF_STAT_GSTATE 63) ≠ GState.WAIT ∧ p.prfTarget 63 = some 5 ∧ Accepts p .prf ∧
      p.unlocked .prf = true ∧ p.rd Reg.PRF_GSEL = 63) ∧
    (v.up = true ∧ v.service = true ∧ v.eng .prf = stService ∧ assocGet v.prfs 63 = some PrfSt.init ∧ v.prfDue 63 = true ∧
      ((v.point (v.rd (Reg.PRF_OUT 63))).map (·.source)) = some (.prf 63)) ∧
    (Accepts w .prf ∧ w.unlocked .prf = true ∧ w.rd Reg.PRF_GSEL = 63 ∧ assocGet w.prfs 63 = some PrfSt.init ∧
      w.rd (Reg.PRF_STAT_GSTATE 63) = GState.WAIT) := by
  unfold Accepts; intros; and_intros <;> decide +kernel +revert

theorem witness_Schedules :
    let s := powered [22] (put [(Reg.SCH_CFG_EN 63, 1), (Reg.SCH_DEFAULT 63, 7)] (ready [.sched]))
    let c : State := { s with rtc := { Rtc.init with staged := some 1, pend := some 1 } }
    (s.rtcRuns = true ∧ c.rtcRuns = true ∧ s.up = true ∧ s.rtc.pend = none ∧ s.works .sched = true ∧ s.rd (Reg.SCH_CFG_EN 63) = 1 ∧ s.rd (Reg.SCH_CFG_OVREN 63) = 0 ∧
      (s.power.doms[22]).st = .on ∧ (s.sched 63).lastVal ≠ some 7) ∧
    (c.rtc.pend = some 1 ∧ c.rtc.staged = some 1 ∧ Accepts c .sched ∧ c.unlocked .sched = true ∧
      (16383#18).toNat < 2 ^ 14 ∧ 2 ^ 14 ≤ (16384#18).toNat) := by
  unfold Accepts; intros; and_intros <;> decide +kernel +revert

/-- A recalibration of head 3 with k frames averaged. -/
def recal0 (k : Nat) : Recal :=
  { start := 0, set := 0, vlv := 0, nsettle := 1, navg := 4, tclose := 1, topen := 1, peakAt := none, taken := 0, level := 0,
    oldSums := (0, 0, 0), k := k, sumTsh := 0, sumFpa := 0, clipped := [], o1 := none }

def shutAt (ph : Nat) (x : ShutHead) : State :=
  { put [(Reg.SHUT_STAT_PHASE 3, ph)] (ready [.shut]) with shut := live.shut.set 3 x }

theorem witness_ShutterAndCruise :
    let s := shutAt Phase.IDLE ShutHead.init
    let c := shutAt Phase.CLOSING { ShutHead.init with recal := some (recal0 0) }
    let a := shutAt Phase.AVERAGE { ShutHead.init with recal := some (recal0 3), counting := true }
    let o := shutAt Phase.OPENING { ShutHead.init with recal := some (recal0 0) }
    let i := put [(Reg.SHUT_CRCFG_EN, 1), (Reg.SHUT_CRCFG_CRTIME, 0)] s
    let x := put [(Reg.SHUT_CRCFG_CRTIME, 1439)] i
    let v : State := { s with cruise := { head := some 3 } }
    let w : State := { c with cruise := { head := some 3 } }
    (Accepts s .shut ∧ s.unlocked .shut = true ∧ s.phase 3 = Phase.IDLE) ∧
    (Accepts c .shut ∧ c.unlocked .shut = true ∧ c.phase 3 = Phase.CLOSING ∧ (c.shutHead 3).cmd = false ∧
      (c.shutHead 3).recal = some (recal0 0) ∧ (recal0 0).k = 0) ∧
    (Accepts a .shut ∧ a.unlocked .shut = true ∧ a.phase 3 = Phase.AVERAGE ∧ (a.shutHead 3).recal = some (recal0 3) ∧
      0 < (recal0 3).k ∧ (a.shutHead 3).counting = true) ∧
    (Accepts o .shut ∧ o.unlocked .shut = true ∧ o.phase 3 = Phase.OPENING) ∧
    (i.up = true ∧ i.rtc.sec.toNat % 86400 = 60 * i.rd Reg.SHUT_CRCFG_CRTIME ∧
      x.rtc.sec.toNat % 86400 ≠ 60 * x.rd Reg.SHUT_CRCFG_CRTIME ∧ i.rd Reg.SHUT_CRCFG_EN = 1 ∧ i.works .shut = true ∧ i.cruise.head = none) ∧
    (v.up = true ∧ v.cmp.running = none ∧ v.cruise.head = some (3 : Fin 4).val ∧ v.rd Reg.THM_STAT_LEVEL = 0 ∧ v.inRecal 3 = false ∧ v.pxBusy 3 = false) ∧
    (w.up = true ∧ w.cruise.head = some (3 : Fin 4).val ∧ w.inRecal 3 = true) := by
  unfold Accepts; intros; and_intros <;> decide +kernel +revert

theorem witness_RegistersStayCanonical : RegsCanonical live ∧ ∃ t, step live = .next t :=
  ⟨by unfold RegsCanonical; decide +kernel, ⟨_, rfl⟩⟩

theorem witness_FusesOnlyGrow :
    let s : State := { live with fuses := [1, 3, 4, 6], pending := [.stEdge] }
    (∃ t, step s = .next t) ∧ s.fuseBit 6 = true ∧ ∃ t, exec .stEdge s = .next t :=
  ⟨⟨_, rfl⟩, by decide +kernel, ⟨_, rfl⟩⟩

/-- On the SLZ4840, before its first command: every fused-off domain is OFF, and a step is taken. -/
theorem witness_FusedDomainsStayOff_step :
    let s : State := { live with fuses := [1, 3, 4, 6], pending := [.stEdge] }
    (∀ d, s.domFused d = true → s.dom d = { st := .off, pend := none }) ∧ s.domFused 26 = true ∧ ∃ t, step s = .next t := by
  intro s
  have hv : s.variant = .slz4840 := by decide +kernel
  refine ⟨fun d h => ?_, by decide +kernel, ⟨_, rfl⟩⟩
  simp only [State.domFused, hv, memNat, Bool.or_eq_true, Bool.false_eq_true, or_false] at h
  rcases h with h | h | h | h | h <;> rw [Nat.eq_of_beq_eq_true h] <;> decide +kernel

theorem witness_FusedDomainsStayOff_read :
    let v (l : List Nat) : State := { live with fuses := l }
    let s : State := put [(Reg.PWR_DSEL, 26)] (loaded [(0x01, 0)] (v [1, 3, 4, 6]))
    (s.engineLoaded .pwr = true ∧ s.rd Reg.PWR_DSEL = 26 ∧ s.domFused 26 = true ∧
      s.dom 26 = { st := .off, pend := none }) ∧
      live.variant = .slz4860 ∧ (v [1, 3, 4, 6]).variant = .slz4840 ∧ (v [0, 3, 5, 6]).variant = .slz4820 := by
  intros; and_intros <;> decide +kernel +revert

theorem witness_StrapsDisagree :
    let s := booting BStage.WAIT_XTAL []
    let x : Vector (BitVec 4) 8 := #v[0, 0, 0, 0, 0, 0, 0, 9]
    s.up = true ∧ s.stage = BStage.WAIT_XTAL ∧ s.domOn 1 = true ∧ x[0].toNat % 4 ≠ x[7].toNat % 4 ∧ x[0].toNat / 4 ≠ x[7].toNat / 4 := by
  intros; and_intros <;> decide +kernel +revert

/-- The integrator at its upper and at its lower stop, and the limits of the output. -/
theorem witness_IntegratorLimits :
    let c : Coef := { b0 := 0, b1 := 0, b2 := 0, a1 := 0, a2 := 0, c0 := 0, c1 := 65536, d1 := 0, eb := 0, ef := 0, olo := -1, ohi := 1,
                      int := true, act := true }
    let h (x : Int) : Hist := { i := 0, e1 := 0, e2 := 0, w1 := 0, w2 := 0, x1 := x, y1 := 0 }
    let q (x : Int) := scaleExp (c.c0 * biquad c (h x) 0 + c.c1 * (h x).x1) c.ef
    c.int = true ∧ c.act = true ∧ 0 < q 65536 ∧ q (-65536) < 0 ∧ q 0 ≤ 0 ∧ 0 ≤ q 0 ∧ c.olo ≤ c.ohi ∧
      { c with act := false }.act = false ∧ { c with int := false }.int = false := by
  intros; and_intros <;> decide +kernel +revert

end Sys2Proof.Tests
end

section
/-! Reads of the registers of SYS, and the frame number that SYS_FRAME0 and SYS_FRAME1 read as (R33). -/

namespace Sys2Proof.Proofs
open Sys2Proof Sys2Proof.Machine Sys2Proof.Laws

/-! ### Reads of SYS -/

/-- SYS has no windows, and every variant has it: an address with a row is the register's key. -/
theorem regKey_sys (s : State) {a : Nat} (hb : Blk.ofAddr a = some .sys) (hr : (rowOf a).isSome = true) :
    s.regKey a = some (.sys, a) := by
  simp [State.regKey, hb, hr, State.blkPresent, State.regAbsent]

/-- A register that is no queue head takes nothing out of a queue. -/
theorem queueTake_of_not_head (s : State) {key : Nat} (h0 : key ≠ 0x7810) (h1 : key ≠ 0x7812) : s.queueTake key = s := by
  simp [State.queueTake, h0, h1]

/-- Reading a register of SYS once the tick engine's configuration is loaded (R349). -/
theorem readReg_sys (s : State) (con : Bool) {a : Nat} (hb : Blk.ofAddr a = some .sys) (hr : (rowOf a).isSome = true)
    (ha : a < 0x400) (hl : s.engineLoaded .tick = true) :
    s.readReg con a = (⟨s.readWord a a, 0, s.tagOf con a (s.readWord a a)⟩,
      (s.noteSeen con a (s.readWord a a)).readEffects a a) := by
  have hq : s.queueTake a = s := queueTake_of_not_head s (by omega) (by omega)
  have hp : s.blkPresent .sys = true := rfl
  have hn : ¬ ((a = 0x1411 ∨ a = 0x1412) ∧ s.tally.scanned = false) := by omega
  simp [State.readReg, hb, hp, regKey_sys s hb hr, Blk.engine, hl, hq, hn]

theorem hostRead_sys (s : State) (con : Bool) {a : Nat} (hb : Blk.ofAddr a = some .sys) (hr : (rowOf a).isSome = true)
    (ha : a < 0x400) (hl : s.engineLoaded .tick = true) :
    s.hostRead con a = (⟨s.readWord a a, 0, s.tagOf con a (s.readWord a a)⟩,
      (s.noteSeen con a (s.readWord a a)).readEffects a a) := by
  rw [State.hostRead, if_neg (by omega), if_neg (by omega), if_neg (by omega), readReg_sys s con hb hr ha hl]

/-! ### Read effects -/

@[simp] theorem noteSeen_tick (s : State) (con : Bool) (a w : Nat) : (s.noteSeen con a w).tick = s.tick := by
  cases con <;> rfl

theorem rcClear_of_no_rc (s : State) {key : Nat} (h : rcFields key = []) : s.rcClear key = s := by
  simp [State.rcClear, h]

theorem freshView_of_lt (s : State) {key : Nat} (h : key < 0x9C03) : s.freshView key = s := by
  rw [State.freshView, if_neg (by omega)]

/-- Which engines are loaded depends on the boot sequencer's part of the state alone. -/
theorem engineLoaded_congr {s t : State} (h : t.boot = s.boot) (e : Engine) : t.engineLoaded e = s.engineLoaded e := by
  unfold State.engineLoaded
  rw [h]

/-! ### A read as a command -/

theorem exec_captureRead_up (s : State) (addr : BitVec 16) (hu : s.up = true) :
    exec (.captureRead addr) s = .next (s.settle fpRead (s.hostRead false addr.toNat).2) := done_up hu

/-- A read may change every register and latch; what it leaves in one stands afterwards, HSP_IRQ apart. -/
theorem rdKey_settle_fpRead (s u : State) {k : Nat} (hk : k < 0x60000) (h : k ≠ 0x2006) :
    (s.settle fpRead u).rdKey k = u.rdKey k := by
  have hf : fpRead.holds k = true := by simp [Footprint.holds, fpRead, hk]
  rw [rdKey_done _ _ _ h, if_pos hf]

/-- A read leaves the boot sequencer's part of the state, and with it the engines loaded. -/
theorem engineLoaded_settle_fpRead (s u : State) (e : Engine) : (s.settle fpRead u).engineLoaded e = s.engineLoaded e :=
  engineLoaded_congr (boot_done_out fpRead s u rfl) e

/-! ### SYS_FRAME0 and SYS_FRAME1 -/

theorem readWord_frame0 (s : State) : s.readWord 0x23 0x23 = s.tick.frame.toNat % 2 ^ 18 := rfl

theorem readWord_frame1 (s : State) : s.readWord 0x24 0x24 = s.rdKey (latchKey 0x24) := rfl

theorem hostRead_frame0_word (s : State) (con : Bool) (hl : s.engineLoaded .tick = true) :
    (s.hostRead con 0x23).1.word = s.tick.frame.toNat % 2 ^ 18 := by
  rw [hostRead_sys s con rfl rfl (by decide) hl, readWord_frame0]

/-- SYS_FRAME1 reads as its latch. -/
theorem hostRead_frame1_word (s : State) (con : Bool) (hl : s.engineLoaded .tick = true) :
    (s.hostRead con 0x24).1.word = s.rdKey (latchKey 0x24) := by
  rw [hostRead_sys s con rfl rfl (by decide) hl, readWord_frame1]

/-- The one effect of a read of SYS_FRAME0: the high part of the frame number goes to SYS_FRAME1's latch. -/
theorem readEffects_frame0 (s : State) : s.readEffects 0x23 0x23 = s.wrKey (latchKey 0x24) (s.tick.frame.toNat / 2 ^ 18) := by
  have hc : s.capture 0x23 0x23 = s.wrKey (latchKey 0x24) (s.tick.frame.toNat / 2 ^ 18) := rfl
  rw [State.readEffects, hc, rcClear_of_no_rc _ rfl, freshView_of_lt _ (by decide)]

/-- A frame number's high part fits the 18 bits of its latch. -/
theorem frame_high_lt (f : BitVec 36) : f.toNat / 2 ^ 18 < 2 ^ 18 := by
  have := f.isLt
  omega

theorem hostRead_frame0_latch (s : State) (con : Bool) (hl : s.engineLoaded .tick = true) :
    (s.hostRead con 0x23).2.rdKey (latchKey 0x24) = s.tick.frame.toNat / 2 ^ 18 := by
  rw [hostRead_sys s con rfl rfl (by decide) hl]
  simp only [readEffects_frame0, noteSeen_tick]
  rw [rdKey_wrKey_same, Nat.mod_eq_of_lt (frame_high_lt _)]

/-- Settles O5: the read's capture stands in the latch that SYS_FRAME1 reads as, and the latch is 0 after reset. -/
theorem frameNumberRead : Obligations.FrameNumberRead := by
  refine ⟨fun s hu hl => ⟨hostRead_frame0_word s false hl, ?_⟩, fun s hl h0 => ?_, by decide⟩
  · refine ⟨_, exec_captureRead_up s 0x23 hu, ?_⟩
    rw [hostRead_frame1_word _ false (by rw [engineLoaded_settle_fpRead, hl]),
      rdKey_settle_fpRead _ _ (by decide) (by decide)]
    exact hostRead_frame0_latch s false hl
  · rw [hostRead_frame1_word s false hl, h0]

end Sys2Proof.Proofs
end

section
/-! The sampling of the straps (R72, R73): a strap's value from its eight samples, and the stage that the sampling goes to. -/

namespace Sys2Proof.Proofs
open Sys2Proof Sys2Proof.Machine Sys2Proof.Laws Sys2Proof.Safety

/-! ### What entering SERVICE leaves unchanged -/

/-- A field that each step of a fold keeps is kept by the fold. -/
theorem rd_foldl_of_keeps {α : Type} (l : List α) (f : State → α → State) (g : Fld)
    (h : ∀ (t : State) (a : α), (f t a).rd g = t.rd g) (s : State) : (l.foldl f s).rd g = s.rd g :=
  List.foldlRecOn (motive := fun t => t.rd g = s.rd g) l f rfl (fun t ht a _ => (h t a).trans ht)

/-- A block begins at a multiple of its 1,024 words (R57). -/
theorem base_mod (b : Blk) : b.base % 0x400 = 0 := by
  cases b <;> simp only [Blk.base] <;> omega

/-- The state of a block stands in one register of the block. -/
theorem rd_setBlk_other (s : State) (b : Blk) (st : Nat) (g : Fld) (h : g.key ≠ b.base + 0x3FC) :
    (s.setBlk b st).rd g = s.rd g := by
  unfold State.setBlk
  split
  · rfl
  · rw [State.wrB, rd_wr_other _ _ _ _ h, rd_wr_other _ _ _ _ h]

/-- An engine's state stands in the STATE registers of its blocks. -/
theorem rd_setEng_other (s : State) (e : Engine) (st : Nat) (g : Fld) (h : g.key % 0x400 ≠ 0x3FC) :
    (s.setEng e st).rd g = s.rd g := by
  refine rd_foldl_of_keeps _ _ g (fun t b => rd_setBlk_other t b st g ?_) s
  have := base_mod b
  omega

theorem rd_shutFinal_other (s : State) (h : Nat) (r : Recal) (g : Fld) (hg : g.key < 0x5000) :
    (s.shutFinal h r).rd g = s.rd g := rd_wr_other _ _ _ _ (by dsimp only; omega)

theorem rd_shutOpen_other (s : State) (h status : Nat) (partly fin : Bool) (g : Fld) (hg : g.key < 0x5000) :
    (s.shutOpen h status partly fin).rd g = s.rd g := by
  have hstat : g.key ≠ 0x5049 + 0x20 * h := by omega
  have hopen (t : State) : ((((t.setPhase h Phase.OPENING).wr (Reg.SHUT_STAT_STATUS h) status).wrB
      (Reg.SHUT_STAT_PARTIAL h) partly).rd g) = t.rd g := by
    rw [State.wrB, State.setPhase, rd_wr_other _ _ _ _ hstat, rd_wr_other _ _ _ _ hstat, rd_wr_other _ _ _ _ hstat]
  unfold State.shutOpen
  split
  · rfl
  · dsimp only
    split
    · rw [rd_shutFinal_other _ _ _ _ hg, hopen]; rfl
    · rw [hopen]; rfl

theorem rd_shutLost_other (s : State) (h status : Nat) (g : Fld) (hg : g.key < 0x5000) :
    (s.shutLost h status).rd g = s.rd g := by
  unfold State.shutLost
  split
  · rfl
  · split
    · split <;> exact rd_shutOpen_other _ _ _ _ _ _ hg
    · rfl

/-- What the shutter controller does on seeing its channels it shows in its own registers. -/
theorem rd_shutWatch_other (s : State) (g : Fld) (hg : g.key < 0x5000) : s.shutWatch.rd g = s.rd g := by
  refine rd_foldl_of_keeps _ _ g (fun t h => ?_) s
  dsimp only
  split
  · rfl
  · split
    · exact rd_shutLost_other _ _ _ _ hg
    · split
      · exact rd_shutLost_other _ _ _ _ hg
      · split <;> rfl

theorem rd_loopsService (s : State) (g : Fld) : s.loopsService.rd g = s.rd g := rfl

/-- Entering SERVICE writes no register below SVC_STAT but the STATE registers of the blocks. -/
theorem rd_serviceOn_other (s : State) (g : Fld) (hg : g.key < 0x2400) (hst : g.key % 0x400 ≠ 0x3FC) :
    s.serviceOn.rd g = s.rd g := by
  have hsvc : g.key ≠ Reg.SVC_STAT_SVC.key := by dsimp only; omega
  have heng (t : State) (e : Engine) : (if t.eng e = stInService then t.setEng e stService else t).rd g = t.rd g := by
    split
    · exact rd_setEng_other t e stService g hst
    · rfl
  unfold State.serviceOn
  dsimp only
  rw [rd_shutWatch_other _ _ (by omega), rd_loopsService, rd_foldl_of_keeps (List.range 6) _ g,
    rd_foldl_of_keeps (List.range 8) _ g, rd_foldl_of_keeps (List.range 3) _ g, rd_foldl_of_keeps Engine.all _ g heng,
    State.wrB, rd_wr_other _ _ _ _ hsvc]
  -- what the fans, the valves and the DACs hold stands in no register
  all_goals exact fun _ _ => rfl

/-! ### Stages -/

/-- A stage of Table 6-9 stands after it is taken. -/
theorem stage_setStage (s : State) (n : Nat) (hn : n < 16) : (s.setStage n).stage = n := by
  unfold State.setStage
  split
  · assumption
  · rw [State.stage, rd_irq_apart _ 7 (by decide) _ (.inl (by decide)), rd_wr_same_lt _ _ _ (by decide) hn]

/-- A change of stage touches BOOT_STAT and HSP_IRQ alone. -/
theorem rd_setStage_other (s : State) (n : Nat) (g : Fld) (hb : g.key ≠ 0x1000) (hi : g.key ≠ 0x2006) :
    (s.setStage n).rd g = s.rd g := by
  unfold State.setStage
  split
  · rfl
  · rw [rd_irq_apart _ 7 (by decide) _ (.inl hi), rd_wr_other _ _ _ _ hb]

/-! ### The value of a strap -/

/-- A strap of which two samples differ takes its fallback and is marked unstable (R73). -/
theorem strapValue_of_ne {l : List Nat} {a b : Nat} (ha : a ∈ l) (hb : b ∈ l) (hne : a ≠ b) (fallback : Nat) :
    strapValue l fallback = (fallback, true) := by
  cases l with
  | nil => rfl
  | cons x xs =>
    have hall : ¬ xs.all (fun y => y == x) = true := by
      intro h
      have heq : ∀ c ∈ x :: xs, c = x := by simpa using h
      exact hne ((heq a ha).trans (heq b hb).symm)
    exact if_neg hall

/-- BOOTSEL of eight samples, and whether they disagree. -/
def bootSampled (x : Vector (BitVec 4) 8) : Nat × Bool := strapValue ((x.toList.map BitVec.toNat).map (· % 4)) 3

/-- TRIPSEL of eight samples, and whether they disagree. -/
def tripSampled (x : Vector (BitVec 4) 8) : Nat × Bool := strapValue ((x.toList.map BitVec.toNat).map (· / 4)) 0

/-- Two of the eight samples that differ in the bits that `sel` takes. -/
theorem strapValue_samples_of_ne (x : Vector (BitVec 4) 8) (sel : Nat → Nat) {i j : Fin 8}
    (hne : sel x[i].toNat ≠ sel x[j].toNat) (fallback : Nat) :
    strapValue ((x.toList.map BitVec.toNat).map sel) fallback = (fallback, true) := by
  have hmem (k : Fin 8) : sel x[k].toNat ∈ (x.toList.map BitVec.toNat).map sel :=
    List.mem_map_of_mem (List.mem_map_of_mem (Vector.mem_toList_iff.mpr (Vector.getElem_mem k.isLt)))
  exact strapValue_of_ne (hmem i) (hmem j) hne fallback

theorem bootSampled_of_ne {x : Vector (BitVec 4) 8} {i j : Fin 8} (h : x[i].toNat % 4 ≠ x[j].toNat % 4) :
    bootSampled x = (3, true) := strapValue_samples_of_ne x (· % 4) h 3

theorem tripSampled_of_ne {x : Vector (BitVec 4) 8} {i j : Fin 8} (h : x[i].toNat / 4 ≠ x[j].toNat / 4) :
    tripSampled x = (0, true) := strapValue_samples_of_ne x (· / 4) h 0

/-! ### The sampling -/

/-- SYS_STRAP has taken the values `b` of BOOTSEL and `t` of TRIPSEL, each with its mark of instability. -/
def strapsTaken (s : State) (b t : Nat × Bool) : State :=
  (((s.wr Reg.SYS_STRAP_BOOTSEL b.1).wrB Reg.SYS_STRAP_BUNST b.2).wr Reg.SYS_STRAP_TRIPSEL t.1).wrB Reg.SYS_STRAP_TUNST t.2

theorem strapsTaken_bootsel (s : State) (b t : Nat × Bool) : (strapsTaken s b t).rd Reg.SYS_STRAP_BOOTSEL = b.1 % 4 := by
  simp [strapsTaken, State.wrB, rd_wr_apart, rd_wr_same]

theorem strapsTaken_bunst (s : State) (b t : Nat × Bool) : (strapsTaken s b t).rd Reg.SYS_STRAP_BUNST = b.2.toNat := by
  cases h : b.2 <;> simp [strapsTaken, State.wrB, rd_wr_apart, rd_wr_same, h]

theorem strapsTaken_tripsel (s : State) (b t : Nat × Bool) : (strapsTaken s b t).rd Reg.SYS_STRAP_TRIPSEL = t.1 % 4 := by
  simp [strapsTaken, State.wrB, rd_wr_apart, rd_wr_same]

theorem strapsTaken_tunst (s : State) (b t : Nat × Bool) : (strapsTaken s b t).rd Reg.SYS_STRAP_TUNST = t.2.toNat := by
  cases h : t.2 <;> simp [strapsTaken, State.wrB, rd_wr_same, h]

/-- The stage after the sampling: SERVICE_ONLY, in SERVICE, with BOOTSEL = 0b11; else FLASH (R64, R114). -/
def strapsLeave (s : State) (bootsel : Nat) : State :=
  if bootsel = 3 then (s.setStage BStage.SERVICE_ONLY).serviceOn else s.setStage BStage.FLASH

theorem rd_strapsLeave_strap (s : State) (bootsel : Nat) (g : Fld) (h : g.key = 0x2) :
    (strapsLeave s bootsel).rd g = s.rd g := by
  have hset (n : Nat) : (s.setStage n).rd g = s.rd g := rd_setStage_other s n g (by omega) (by omega)
  unfold strapsLeave
  split
  · rw [rd_serviceOn_other _ _ (by omega) (by omega), hset]
  · exact hset _

theorem stage_strapsLeave (s : State) (bootsel : Nat) : (strapsLeave s bootsel).stage ≠ BStage.WAIT_XTAL := by
  unfold strapsLeave
  split
  · rw [State.stage, rd_serviceOn_other _ _ (by decide) (by decide)]
    change (s.setStage BStage.SERVICE_ONLY).stage ≠ _
    rw [stage_setStage _ _ (by decide)]
    decide
  · rw [stage_setStage _ _ (by decide)]
    decide

/-- The sampling while the start waits for it. -/
theorem exec_strapSampling_waiting (s : State) (x : Vector (BitVec 4) 8) (hu : s.up = true)
    (hw : s.stage = BStage.WAIT_XTAL) (hd : s.domOn 1 = true) :
    exec (.strapSampling x) s = .next (s.settle fpBoot
      (strapsLeave (strapsTaken s (bootSampled x) (tripSampled x)) (bootSampled x).1)) := by
  change execStrapSampling x s = _
  rw [execStrapSampling, if_neg (by simp [hw, hd]), done_up hu]
  rfl

/-- Past WAIT_XTAL the straps are not sampled: nothing changes (R73). -/
theorem exec_strapSampling_idle (s : State) (y : Vector (BitVec 4) 8) (h : s.stage ≠ BStage.WAIT_XTAL) :
    ∃ u, exec (.strapSampling y) s = .next u ∧ Frame [] [] s u := by
  have he : exec (.strapSampling y) s = done fpBoot s s := by
    change execStrapSampling y s = _
    rw [execStrapSampling, if_pos (.inl h)]
  exact ⟨_, he, frame_done_next rfl [] [] (fun _ _ _ _ => rfl) (fun p _ _ => samePart_refl s p)⟩

/-- A register that start-up may change, HSP_IRQ apart, is the sampling's afterwards. -/
theorem rd_settle_fpBoot (s u : State) (g : Fld) (hk : g.key < 0x40000) (h : g.key ≠ 0x2006) :
    (s.settle fpBoot u).rd g = u.rd g :=
  rd_done_in _ _ _ _ (by simp [Footprint.holds, fpBoot, hk]) h

/-- SYS_STRAP as it stands after the sampling. -/
theorem rd_settle_strapsLeave_strap (s u : State) (bootsel : Nat) (g : Fld) (h : g.key = 0x2) :
    (s.settle fpBoot (strapsLeave u bootsel)).rd g = u.rd g := by
  rw [rd_settle_fpBoot _ _ _ (by omega) (by omega), rd_strapsLeave_strap _ _ _ h]

theorem stage_settle_strapsLeave (s u : State) (bootsel : Nat) :
    (s.settle fpBoot (strapsLeave u bootsel)).stage ≠ BStage.WAIT_XTAL := by
  rw [State.stage, rd_settle_fpBoot _ _ _ (by decide) (by decide)]
  exact stage_strapsLeave u bootsel

/-- Settles O59: a strap with two samples that differ takes its fallback, and no stage that the sampling goes to takes a
second one. -/
theorem strapsDisagree : Obligations.StrapsDisagree := by
  intro s x i j hu hw hd
  have hleft := stage_settle_strapsLeave s (strapsTaken s (bootSampled x) (tripSampled x)) (bootSampled x).1
  refine ⟨_, exec_strapSampling_waiting s x hu hw hd, fun hb => ?_, fun ht => ?_, hleft,
    fun y => exec_strapSampling_idle _ y hleft⟩
  · rw [rd_settle_strapsLeave_strap _ _ _ _ rfl, rd_settle_strapsLeave_strap _ _ _ _ rfl, strapsTaken_bootsel,
      strapsTaken_bunst, bootSampled_of_ne hb]
    decide
  · rw [rd_settle_strapsLeave_strap _ _ _ _ rfl, rd_settle_strapsLeave_strap _ _ _ _ rfl, strapsTaken_tripsel,
      strapsTaken_tunst, tripSampled_of_ne ht]
    decide

end Sys2Proof.Proofs
end

section
/-! SUPPORT. What leaves the power domains and the fuses: nearly every function of the state. Tagged for `simp`, in the
model's order. -/

namespace Sys2Proof.Proofs
open Sys2Proof Sys2Proof.Machine Sys2Proof.Laws

/-- Neither a power domain nor a fuse has changed from `s` to `t`. -/
@[simp] abbrev Kept (s t : State) : Prop := t.power = s.power ∧ t.fuses = s.fuses

@[simp] theorem power_ite (c : Prop) [Decidable c] (s t : State) :
    (if c then s else t).power = if c then s.power else t.power := apply_ite _ _ _ _

@[simp] theorem fuses_ite (c : Prop) [Decidable c] (s t : State) :
    (if c then s else t).fuses = if c then s.fuses else t.fuses := apply_ite _ _ _ _

theorem Kept.trans {s t u : State} (h : Kept s t) (g : Kept t u) : Kept s u := ⟨g.1.trans h.1, g.2.trans h.2⟩

@[simp] theorem kept_foldl {α : Type} (f : State → α → State) (h : ∀ t a, Kept t (f t a)) (l : List α) (s : State) :
    Kept s (l.foldl f s) := by
  induction l generalizing s with
  | nil => exact ⟨rfl, rfl⟩
  | cons a l ih => exact (h s a).trans (ih _)

@[simp] theorem kept_wrKey (s : State) (k v : Nat) : Kept s (s.wrKey k v) := ⟨wrKey_power s k v, wrKey_fuses s k v⟩

@[simp] theorem kept_wr (s : State) (f : Fld) (v : Nat) : Kept s (s.wr f v) := ⟨wr_power s f v, wr_fuses s f v⟩

@[simp] theorem kept_wrB (s : State) (f : Fld) (b : Bool) : Kept s (s.wrB f b) := ⟨wrB_power s f b, wrB_fuses s f b⟩

@[simp] theorem kept_wrPair (s : State) (lo hi : Fld) (v : Nat) : Kept s (s.wrPair lo hi v) :=
  ⟨wrPair_power s lo hi v, wrPair_fuses s lo hi v⟩

@[simp] theorem kept_result (s : State) (b : Blk) (off st : Nat) : Kept s (s.result b off st) :=
  ⟨result_power s b off st, result_fuses s b off st⟩

@[simp] theorem kept_irq (s : State) (i : Nat) : Kept s (s.irq i) := ⟨irq_power s i, irq_fuses s i⟩

@[simp] theorem kept_answer (s : State) (b : Blk) (off : Nat) (c : Option Fld) (st : Nat) : Kept s (s.answer b off c st) :=
  ⟨answer_power s b off c st, answer_fuses s b off c st⟩

@[simp] theorem kept_bump (s : State) (f : Fld) : Kept s (s.bump f) := ⟨bump_power s f, bump_fuses s f⟩

/-! ### Registers, points, batches -/

@[simp] theorem kept_setEng (s : State) (e : Engine) (st : Nat) : Kept s (s.setEng e st) := by simp [State.setEng]

@[simp] theorem kept_freeN (s : State) : Kept s (s.freeN).2 := ⟨rfl, rfl⟩

@[simp] theorem kept_freeB (s : State) : Kept s (s.freeB).2 := ⟨rfl, rfl⟩

@[simp] theorem kept_putPoint (s : State) (n : Nat) (p : Point) : Kept s (s.putPoint n p) := by simp [State.putPoint]

@[simp] theorem kept_ptTrig (s : State) (n : Nat) (t : PTrig) : Kept s (s.ptTrig n t) := by
  unfold State.ptTrig
  split <;> simp

@[simp] theorem kept_srcTrig (s : State) (b : Blk) (src : PSrc) (n : Nat) (t : PTrig) : Kept s (s.srcTrig b src n t) := by
  unfold State.srcTrig
  split <;> simp

@[simp] theorem kept_batch (s : State) (c : Nat) : Kept s (s.batch c) := ⟨rfl, rfl⟩

/-! ### Operands -/

@[simp] theorem kept_pspOwn (s : State) (h mhz : Nat) : Kept s (s.pspOwn h mhz) := ⟨rfl, rfl⟩

/-! ### Capacity (R32) -/

@[simp] theorem kept_reportShares (s : State) (stinc n : Nat) : Kept s (s.reportShares stinc n) := ⟨rfl, rfl⟩

@[simp] theorem kept_reportLoad (s : State) (c : Nat) : Kept s (s.reportLoad c) := ⟨rfl, rfl⟩

@[simp] theorem kept_reportUtil (s : State) (c : Nat) : Kept s (s.reportUtil c) := ⟨rfl, rfl⟩

/-! ### Points -/

@[simp] theorem kept_holdPoints (s : State) (owns : PSrc → Bool) : Kept s (s.holdPoints owns) := by
  simp [State.holdPoints]

/-! ### The analogue front end -/

@[simp] theorem kept_setSeq (s : State) (q : Nat) (f : SeqSt → SeqSt) : Kept s (s.setSeq q f) := ⟨rfl, rfl⟩

@[simp] theorem kept_setAslot (s : State) (i : Nat) (f : AfeSlot → AfeSlot) : Kept s (s.setAslot i f) := ⟨rfl, rfl⟩

@[simp] theorem kept_queueSync (s : State) (q : Nat) : Kept s (s.queueSync q) := ⟨rfl, rfl⟩

@[simp] theorem kept_seqShow (s : State) (q : Nat) : Kept s (s.seqShow q) := by
  unfold State.seqShow
  dsimp only
  repeat' split
  all_goals simp

@[simp] theorem kept_startGain (s : State) (i : Nat) : Kept s (s.startGain i) := by simp [State.startGain]

@[simp] theorem kept_convStart (s : State) (q i : Nat) : Kept s (s.convStart q i) := by simp [State.convStart]

@[simp] theorem kept_seqNext (s : State) (q : Nat) : Kept s (s.seqNext q) := by
  unfold State.seqNext
  dsimp only
  repeat' split
  all_goals simp

@[simp] theorem kept_adcCalEnd (s : State) (q res : Nat) : Kept s (s.adcCalEnd q res) := by
  unfold State.adcCalEnd
  split <;> simp

@[simp] theorem kept_calLeave (s : State) (q : Nat) : Kept s (s.calLeave q) := by simp [State.calLeave]

@[simp] theorem kept_afeRounds (s : State) : Kept s s.afeRounds := ⟨rfl, rfl⟩

@[simp] theorem kept_seqRestart (s : State) (q : Nat) : Kept s (s.seqRestart q) := by simp [State.seqRestart]

@[simp] theorem kept_afeStart (s : State) : Kept s s.afeStart := by simp [State.afeStart]

@[simp] theorem kept_afeStop (s : State) : Kept s s.afeStop := by simp [State.afeStop]

@[simp] theorem kept_voidWhere (s : State) (hit : Conv → Bool) : Kept s (s.voidWhere hit) := ⟨rfl, rfl⟩

@[simp] theorem kept_excMove (s : State) (e : Option (Nat × Nat × Nat × Bool)) : Kept s (s.excMove e) := by
  simp [State.excMove]

@[simp] theorem kept_testSeq (s : State) (q pin mag : Nat) (volt : Bool) : Kept s (s.testSeq q pin mag volt) := by
  simp [State.testSeq]

@[simp] theorem kept_testSeqEnd (s : State) (q : Nat) : Kept s (s.testSeqEnd q) := by
  unfold State.testSeqEnd
  repeat' split
  all_goals simp

/-! ### Bus ports -/

@[simp] theorem kept_setPort (s : State) (p : Fin 2) (b : BusSt) : Kept s (s.setPort p b) := ⟨rfl, rfl⟩

@[simp] theorem kept_enterMstpRun (s : State) (p : Fin 2) (rate : Nat) : Kept s (s.enterMstpRun p rate) := by
  simp [State.enterMstpRun]

@[simp] theorem kept_enterDetect (s : State) (p : Fin 2) : Kept s (s.enterDetect p) := by simp [State.enterDetect]

/-! ### BACnet objects -/

@[simp] theorem kept_writeEffective (s : State) (p : Fin 2) (i : Nat) (o : BObj) : Kept s (s.writeEffective p i o).2 := by
  unfold State.writeEffective
  dsimp only
  repeat' split
  all_goals simp

/-! ### Modbus -/

@[simp] theorem kept_startPort (s : State) (p : Fin 2) (tb : BusTables) : Kept s (s.startPort p tb) := by
  unfold State.startPort
  extract_lets objs trans _ t u v auto
  have hu : Kept t u := by
    refine kept_foldl _ (fun w i => ?_) _ _
    split
    · split <;> simp
    · simp
  have hv : Kept s v := .trans (t := u) (.trans (kept_setPort s p _) hu) (by simp [v])
  refine hv.trans ?_
  split
  · split <;> simp
  · simp
  · simp

@[simp] theorem kept_stopPort (s : State) (p : Fin 2) : Kept s (s.stopPort p) := ⟨rfl, rfl⟩

/-! ### Flash and PSP -/

@[simp] theorem kept_negotiateChip (s : State) (i : Nat) (sf : Sfdp) (plain : Bool) :
    Kept s (s.negotiateChip i sf plain) := by simp [State.negotiateChip]

@[simp] theorem kept_flashSync (s : State) : Kept s s.flashSync := ⟨rfl, rfl⟩

@[simp] theorem kept_flashStart (s : State) : Kept s s.flashStart := by
  unfold State.flashStart
  split <;> simp

@[simp] theorem kept_flashClose (s : State) : Kept s s.flashClose := by
  unfold State.flashClose
  split <;> simp

@[simp] theorem kept_winResult (s : State) (st : Nat) : Kept s (s.winResult st) := ⟨rfl, rfl⟩

@[simp] theorem kept_winEmpty (s : State) (w : Nat) : Kept s (s.winEmpty w) := ⟨rfl, rfl⟩

@[simp] theorem kept_flashWindowWrite (s : State) (a : Nat) (v : Word) : Kept s (s.flashWindowWrite a v) := by
  simp [State.flashWindowWrite]

@[simp] theorem kept_flashScramble (s : State) (chip a n : Nat) : Kept s (s.flashScramble chip a n) := ⟨rfl, rfl⟩

@[simp] theorem kept_pspStart (s : State) : Kept s s.pspStart := by
  unfold State.pspStart
  repeat' split
  all_goals simp

@[simp] theorem kept_pspRequest (s : State) (r : PspReq) : Kept s (s.pspRequest r) := by simp [State.pspRequest]

/-! ### The tally store -/

@[simp] theorem kept_tallySync (s : State) : Kept s s.tallySync := ⟨rfl, rfl⟩

@[simp] theorem kept_recDone (s : State) (st : Nat) : Kept s (s.recDone st) := by
  unfold State.recDone
  split <;> simp

@[simp] theorem kept_commitLocked (s : State) : Kept s s.commitLocked := by
  unfold State.commitLocked
  split <;> simp

@[simp] theorem kept_pulseStart (fuel : Nat) (s : State) : Kept s (State.pulseStart fuel s) := by
  induction fuel generalizing s with
  | zero => rw [State.pulseStart]; exact kept_tallySync s
  | succ fuel ih =>
    unfold State.pulseStart
    dsimp only
    split
    · simp
    · split
      · simp
      · split
        · exact .trans (by simp) (ih _)
        · simp
      · simp

@[simp] theorem kept_tallyRun (s : State) : Kept s s.tallyRun := kept_pulseStart _ s

@[simp] theorem kept_logEvent (s : State) (code : Nat) (data : List Nat) : Kept s (s.logEvent code data) := by
  simp [State.logEvent]

@[simp] theorem kept_pulse (s : State) (p : Pulse) : Kept s (s.pulse p) := by simp [State.pulse]

@[simp] theorem kept_pulsePage (s : State) (kind : PulseKind) (page : Nat) (bytes : List Byte) :
    Kept s (s.pulsePage kind page bytes) := by simp [State.pulsePage]

@[simp] theorem kept_countNow (s : State) (c n : Nat) : Kept s (s.countNow c n) := by simp [State.countNow]

@[simp] theorem kept_countInc (s : State) (c n : Nat) : Kept s (s.countInc c n) := by simp [State.countInc]

@[simp] theorem kept_tallyClose (s : State) : Kept s s.tallyClose := by
  unfold State.tallyClose
  split <;> simp

@[simp] theorem kept_tallyWindowWrite (s : State) (a : Nat) (v : Word) : Kept s (s.tallyWindowWrite a v) := by
  simp [State.tallyWindowWrite]

/-! ### Fans -/

@[simp] theorem kept_setFan (s : State) (c : Nat) (f : FanSt → FanSt) : Kept s (s.setFan c f) := ⟨rfl, rfl⟩

@[simp] theorem kept_fanStop (s : State) (c : Nat) : Kept s (s.fanStop c) := ⟨rfl, rfl⟩

@[simp] theorem kept_releaseBalls (s : State) (bs : List Nat) : Kept s (s.releaseBalls bs) := ⟨rfl, rfl⟩

@[simp] theorem kept_fanSafe (s : State) (c : Nat) : Kept s (s.fanSafe c) := by simp [State.fanSafe]

@[simp] theorem kept_fansSafe (s : State) : Kept s s.fansSafe := by simp [State.fansSafe]

/-! ### Compression -/

@[simp] theorem kept_cmpSync (s : State) : Kept s s.cmpSync := by
  unfold State.cmpSync
  dsimp only
  repeat' split
  all_goals simp

@[simp] theorem kept_cmpId (s : State) (st : Nat) : Kept s (s.cmpId st).2 := ⟨rfl, rfl⟩

@[simp] theorem kept_cmpRecord (s : State) (r : JobRes) : Kept s (s.cmpRecord r) := ⟨rfl, rfl⟩

@[simp] theorem kept_lockStop (s : State) (path : Nat) : Kept s (s.lockStop path) := by simp [State.lockStop]

@[simp] theorem kept_gapBegins (s : State) (h : Nat) (raw : Bool) : Kept s (s.gapBegins h raw) := by
  unfold State.gapBegins
  split <;> simp

@[simp] theorem kept_gapEnds (s : State) (h : Nat) : Kept s (s.gapEnds h) := by
  unfold State.gapEnds
  split <;> simp

@[simp] theorem kept_cmpFail (s : State) (j : Job) (st rin : Nat) : Kept s (s.cmpFail j st rin) := by
  unfold State.cmpFail
  split <;> simp

@[simp] theorem kept_cutRun (s : State) (h : Nat) : Kept s (s.cutRun h) := by
  unfold State.cutRun
  split <;> simp

@[simp] theorem kept_putResident (s : State) (h kind : Nat) (vs : List Nat) : Kept s (s.putResident h kind vs) := ⟨rfl, rfl⟩

@[simp] theorem kept_cmpDown (s : State) : Kept s s.cmpDown := by simp [State.cmpDown]

@[simp] theorem kept_queueArchive (s : State) (h : Nat) (a : BitVec 36 × Nat × Word × Word) :
    Kept s (s.queueArchive h a) := by
  unfold State.queueArchive
  split <;> simp

/-! ### Heads, stands, the context link -/

@[simp] theorem kept_setHead (s : State) (h : Nat) (f : HeadSt → HeadSt) : Kept s (s.setHead h f) := ⟨rfl, rfl⟩

@[simp] theorem kept_setShut (s : State) (h : Nat) (f : ShutHead → ShutHead) : Kept s (s.setShut h f) := ⟨rfl, rfl⟩

@[simp] theorem kept_setOcc (s : State) (h : Nat) (f : OccHead → OccHead) : Kept s (s.setOcc h f) := ⟨rfl, rfl⟩

@[simp] theorem kept_curSync (s : State) (h : Nat) : Kept s (s.curSync h) := ⟨rfl, rfl⟩

@[simp] theorem kept_releaseLines (s : State) (h : Nat) (f : BitVec 36) : Kept s (s.releaseLines h f) := ⟨rfl, rfl⟩

@[simp] theorem kept_noBurst (s : State) (h : Nat) : Kept s (s.noBurst h) := ⟨rfl, rfl⟩

@[simp] theorem kept_setStage (s : State) (n : Nat) : Kept s (s.setStage n) := by simp [State.setStage]

@[simp] theorem kept_bootRun (s : State) : Kept s s.bootRun := by simp [State.bootRun]

@[simp] theorem kept_holdStands (s : State) (h : Nat) : Kept s (s.holdStands h) := by simp [State.holdStands]

@[simp] theorem kept_occFrame (s : State) (h : Nat) (frame : BitVec 36) (status : Nat) : Kept s (s.occFrame h frame status) := by
  simp [State.occFrame]

@[simp] theorem kept_putRecord (s : State) (st : Nat) (ws : List Word) : Kept s (s.putRecord st ws) := ⟨rfl, rfl⟩

@[simp] theorem kept_emitEmpty (s : State) (h : Nat) (res : FrameRes) (status : Nat) :
    Kept s (s.emitEmpty h res status) := by simp [State.emitEmpty]

@[simp] theorem kept_ctxNormal (s : State) (h : Nat) (res : FrameRes) : Kept s (s.ctxNormal h res) := by
  simp [State.ctxNormal]

@[simp] theorem kept_ctxRepeat (s : State) (h : Nat) (res : FrameRes) (status : Nat) (noLines : Bool) :
    Kept s (s.ctxRepeat h res status noLines) := by simp [State.ctxRepeat]

@[simp] theorem kept_ctxRepeatNow (s : State) (h : Nat) (res : FrameRes) (status : Nat) (noLines : Bool) :
    Kept s (s.ctxRepeatNow h res status noLines) := by simp [State.ctxRepeatNow]

@[simp] theorem kept_frameLost (s : State) (h : Nat) (res : FrameRes) (status : Nat) :
    Kept s (s.frameLost h res status) := by simp [State.frameLost]

@[simp] theorem kept_ctxLink (s : State) : Kept s s.ctxLink := by simp [State.ctxLink]

@[simp] theorem kept_ctxCut (s : State) (h : Nat) : Kept s (s.ctxCut h) := by
  unfold State.ctxCut
  dsimp only
  repeat' split
  all_goals simp

@[simp] theorem kept_ctxStop (s : State) : Kept s s.ctxStop := ⟨rfl, rfl⟩

/-! ### Valves, DACs, GPIO -/

@[simp] theorem kept_setValve (s : State) (v : Nat) (f : ValveSt → ValveSt) : Kept s (s.setValve v f) := ⟨rfl, rfl⟩

@[simp] theorem kept_setHsw (s : State) (g : Nat) (f : HswSt → HswSt) : Kept s (s.setHsw g f) := ⟨rfl, rfl⟩

@[simp] theorem kept_setVstate (s : State) (v st : Nat) : Kept s (s.setVstate v st) := by simp [State.setVstate]

@[simp] theorem kept_hswSync (s : State) (g : Nat) : Kept s (s.hswSync g) := by simp [State.hswSync]

@[simp] theorem kept_valveVg (s : State) (v now : Nat) : Kept s (s.valveVg v now) := ⟨rfl, rfl⟩

@[simp] theorem kept_valveGrant (s : State) (v now : Nat) : Kept s (s.valveGrant v now) := by simp [State.valveGrant]

@[simp] theorem kept_valveNext (s : State) (g now : Nat) : Kept s (s.valveNext g now) := by
  unfold State.valveNext
  repeat' split
  all_goals simp

@[simp] theorem kept_valveRefuse (s : State) (v reason : Nat) : Kept s (s.valveRefuse v reason) := by
  simp [State.valveRefuse]

@[simp] theorem kept_valveRequest (s : State) (v now : Nat) : Kept s (s.valveRequest v now) := by
  simp [State.valveRequest]

@[simp] theorem kept_holdEnd (s : State) (v : Nat) : Kept s (s.holdEnd v) := by simp [State.holdEnd]

@[simp] theorem kept_valveOff (s : State) (v now : Nat) : Kept s (s.valveOff v now) := by simp [State.valveOff]

@[simp] theorem kept_valveCmd (s : State) (v : Nat) : Kept s (s.valveCmd v).2 := by
  unfold State.valveCmd
  dsimp only
  repeat' split
  all_goals simp

@[simp] theorem kept_valveDrive (s : State) (v : Nat) (on again : Bool) (now : Nat) :
    Kept s (s.valveDrive v on again now) := by simp [State.valveDrive]

@[simp] theorem kept_valveSample (s : State) (now v : Nat) : Kept s (s.valveSample now v) := by
  unfold State.valveSample
  dsimp only
  repeat' split
  all_goals simp

@[simp] theorem kept_valvesSample (s : State) (now : Nat) : Kept s (s.valvesSample now) := by
  simp [State.valvesSample]

@[simp] theorem kept_valvesSafe (s : State) (now : Nat) : Kept s (s.valvesSafe now) := by simp [State.valvesSafe]

@[simp] theorem kept_shutClose (s : State) (v now : Nat) : Kept s (s.shutClose v now).2 := by
  unfold State.shutClose
  dsimp only
  repeat' split
  all_goals simp

@[simp] theorem kept_shutRelease (s : State) (v now : Nat) : Kept s (s.shutRelease v now) := by
  simp [State.shutRelease]

@[simp] theorem kept_setDac (s : State) (d : Nat) (f : DacSt → DacSt) : Kept s (s.setDac d f) := ⟨rfl, rfl⟩

@[simp] theorem kept_dacLoad (s : State) (d : Nat) : Kept s (s.dacLoad d) := by
  unfold State.dacLoad
  dsimp only
  repeat' split
  all_goals simp [-wr_power, -wr_fuses, -wrB_power, -wrB_fuses]

@[simp] theorem kept_dacsLoad (s : State) : Kept s s.dacsLoad := by simp [State.dacsLoad]

@[simp] theorem kept_dacsSafe (s : State) : Kept s s.dacsSafe := by simp [State.dacsSafe]

@[simp] theorem kept_actuatorsSafe (s : State) (now : Nat) : Kept s (s.actuatorsSafe now) := by
  simp [State.actuatorsSafe]

@[simp] theorem kept_setPin (s : State) (g : Nat) (f : GpioSt → GpioSt) : Kept s (s.setPin g f) := ⟨rfl, rfl⟩

@[simp] theorem kept_gpioLoad (s : State) (g : Nat) : Kept s (s.gpioLoad g) := by
  simp [State.gpioLoad, -wr_power, -wr_fuses, -wrB_power, -wrB_fuses]

@[simp] theorem kept_gpiosLoad (s : State) : Kept s s.gpiosLoad := by simp [State.gpiosLoad]

@[simp] theorem kept_gpioWrite (s : State) (g : Nat) (v : Bool) : Kept s (s.gpioWrite g v) := by
  simp [State.gpioWrite]

@[simp] theorem kept_gpioEnter (s : State) : Kept s s.gpioEnter := by
  refine kept_foldl _ (fun t a => ?_) _ _
  dsimp only
  repeat' split
  all_goals simp

/-! ### Shutters -/

@[simp] theorem kept_setPhase (s : State) (h p : Nat) : Kept s (s.setPhase h p) := ⟨rfl, rfl⟩

@[simp] theorem kept_setRecal (s : State) (h : Nat) (f : Recal → Recal) : Kept s (s.setRecal h f) := ⟨rfl, rfl⟩

@[simp] theorem kept_shutEnd (s : State) (h : Nat) : Kept s (s.shutEnd h) := by
  unfold State.shutEnd
  dsimp only
  repeat' split
  all_goals simp [-wr_power, -wr_fuses, -wrB_power, -wrB_fuses]

@[simp] theorem kept_shutFinal (s : State) (h : Nat) (r : Recal) : Kept s (s.shutFinal h r) := ⟨rfl, rfl⟩

@[simp] theorem kept_shutOpen (s : State) (h status : Nat) (partly fin : Bool) :
    Kept s (s.shutOpen h status partly fin) := by
  unfold State.shutOpen
  split <;> simp

@[simp] theorem kept_shutLost (s : State) (h status : Nat) : Kept s (s.shutLost h status) := by
  unfold State.shutLost
  split <;> simp

@[simp] theorem kept_shutWatch (s : State) : Kept s s.shutWatch := by
  refine kept_foldl _ (fun t a => ?_) _ _
  dsimp only
  repeat' split
  all_goals simp

@[simp] theorem kept_shutDrop (s : State) (h : Nat) : Kept s (s.shutDrop h) := by
  unfold State.shutDrop
  split <;> simp

@[simp] theorem kept_shutStart (s : State) (h causes : Nat) : Kept s (s.shutStart h causes) := by
  simp [State.shutStart]

@[simp] theorem kept_shutO1 (s : State) (h : Nat) : Kept s (s.shutO1 h) := by
  unfold State.shutO1
  split <;> simp

@[simp] theorem kept_shutAdvance (s : State) (h : Nat) : Kept s (s.shutAdvance h) := by
  unfold State.shutAdvance
  repeat' split
  all_goals simp

@[simp] theorem kept_shutFt (s : State) (h : Nat) : Kept s (s.shutFt h) := by
  unfold State.shutFt
  dsimp only
  repeat' split
  all_goals simp

@[simp] theorem kept_shutForce (s : State) (h : Nat) : Kept s (s.shutForce h) := by simp [State.shutForce]

@[simp] theorem kept_blindEval (s : State) (h : Nat) (b : Int × Nat) : Kept s (s.blindEval h b) := by
  unfold State.blindEval
  dsimp only
  repeat' split
  all_goals simp

@[simp] theorem kept_shutEval (s : State) (h : Nat) (res : FrameRes) (refine : Bool) (blind : Int × Nat) :
    Kept s (s.shutEval h res refine blind) := by simp [State.shutEval]

@[simp] theorem kept_driftRecord (s : State) (h : Nat) (start : BitVec 36) (d : List Int) (x : Int) (m : SettleSums) :
    Kept s (s.driftRecord h start d x m) := by simp [State.driftRecord]

@[simp] theorem kept_settleEnd (s : State) (h : Nat) (late : Bool) (d : List Int) (x : Int) (m : SettleSums) :
    Kept s (s.settleEnd h late d x m) := by
  unfold State.settleEnd
  split <;> simp

@[simp] theorem kept_averageEnd (s : State) (h : Nat) (res : FrameRes) (px : List Px) (clipped : List Nat) :
    Kept s (s.averageEnd h res px clipped) := by
  unfold State.averageEnd
  dsimp only
  repeat' split
  all_goals simp

@[simp] theorem kept_finalizeEnd (s : State) (h : Nat) (uecc : List Nat) : Kept s (s.finalizeEnd h uecc) := by
  unfold State.finalizeEnd
  split <;> simp

/-! ### Bursts and passes -/

@[simp] theorem kept_bumpBy (s : State) (f : Fld) (n : Nat) : Kept s (s.bumpBy f n) := ⟨rfl, rfl⟩

@[simp] theorem kept_cutForBurst (s : State) (h : Nat) : Kept s (s.cutForBurst h) := by
  unfold State.cutForBurst
  split <;> simp

@[simp] theorem kept_burstDrop (s : State) (b : Burst) (late : Bool) : Kept s (s.burstDrop b late) := by
  simp [State.burstDrop]

@[simp] theorem kept_fbkTake (s : State) : Kept s s.fbkTake := by
  unfold State.fbkTake
  split <;> simp

@[simp] theorem kept_bandFollow (s : State) : Kept s s.bandFollow := ⟨rfl, rfl⟩

@[simp] theorem kept_burstGap (s : State) : Kept s s.burstGap := by simp [State.burstGap]

@[simp] theorem kept_burstUnits (s : State) (b : Burst) (fbk : Nat) : Kept s (s.burstUnits b fbk).2 := by
  unfold State.burstUnits
  dsimp only
  repeat' split
  all_goals simp

@[simp] theorem kept_tzStore (s : State) (h : Nat) (raw : List (List Nat)) : Kept s (s.tzStore h raw) := by
  simp [State.tzStore]

@[simp] theorem kept_burstReport (s : State) (b : Burst) (status : Nat) (refine uecc : Bool) (fbk : Nat) :
    Kept s (s.burstReport b status refine uecc fbk) := by simp [State.burstReport]

@[simp] theorem kept_passRequest (s : State) (h : Nat) (res : FrameRes) : Kept s (s.passRequest h res) := ⟨rfl, rfl⟩

@[simp] theorem kept_normalEnd (s : State) (b : Burst) (uecc : List Nat) : Kept s (s.normalEnd b uecc) := by
  simp [State.normalEnd]

@[simp] theorem kept_calEnd (s : State) (b : Burst) (uecc : List Nat) : Kept s (s.calEnd b uecc) := by
  unfold State.calEnd
  dsimp only
  repeat' split
  all_goals simp

@[simp] theorem kept_passAbandon (s : State) (h : Nat) : Kept s (s.passAbandon h) := by
  unfold State.passAbandon
  dsimp only
  repeat' split
  all_goals simp

/-! ### Frames and negotiation -/

@[simp] theorem kept_pspFinish (s : State) (r : PspReq) : Kept s (s.pspFinish r) := by simp [State.pspFinish]

@[simp] theorem kept_sendHead (s : State) (h : Nat) (ts : List (List Byte)) : Kept s (s.sendHead h ts) := ⟨rfl, rfl⟩

@[simp] theorem kept_putSet (s : State) (h i : Nat) (v : Nat × Nat × Nat) : Kept s (s.putSet h i v) := by
  simp [State.putSet]

@[simp] theorem kept_ringFit (s : State) (h : Nat) : Kept s (s.ringFit h) := by simp [State.ringFit]

@[simp] theorem kept_frameFpa (s : State) (h : Nat) (rx : FrameRx) : Kept s (s.frameFpa h rx).2.2 := by
  unfold State.frameFpa
  repeat' split
  all_goals simp

@[simp] theorem kept_frameSht (s : State) (h : Nat) (rx : FrameRx) : Kept s (s.frameSht h rx) := by
  unfold State.frameSht
  repeat' split
  all_goals simp

@[simp] theorem kept_frameStat (s : State) (h status : Nat) (l3 notsvc ovr nofs tlm setm few short hdr crc nofe long : Bool) :
    Kept s (s.frameStat h status l3 notsvc ovr nofs tlm setm few short hdr crc nofe long) := by simp [State.frameStat]

@[simp] theorem kept_windowTime (s : State) (t : Nat) : Kept s (s.windowTime t).2 := ⟨rfl, rfl⟩

@[simp] theorem kept_changeLate (s : State) (h : Nat) : Kept s (s.changeLate h) := by simp [State.changeLate]

@[simp] theorem kept_windowOpen (s : State) (h t : Nat) : Kept s (s.windowOpen h t) := by
  unfold State.windowOpen
  dsimp only
  repeat' split
  all_goals simp

@[simp] theorem kept_ringStore (s : State) (h : Nat) (rx : FrameRx) : Kept s (s.ringStore h rx) := ⟨rfl, rfl⟩

@[simp] theorem kept_negotiated (s : State) (h : Nat) : Kept s (s.negotiated h) := by simp [State.negotiated]

@[simp] theorem kept_discard (s : State) (h : Nat) (crcOk : Bool) : Kept s (s.discard h crcOk) := by
  simp [State.discard]

@[simp] theorem kept_setRx (s : State) (h : Nat) (f : FrameRx → FrameRx) : Kept s (s.setRx h f) := ⟨rfl, rfl⟩

@[simp] theorem kept_slotFree (s : State) (h : Nat) (o : Option RingSlot) : Kept s (s.slotFree h o).2 := by
  unfold State.slotFree
  repeat' split
  all_goals simp

@[simp] theorem kept_ringTake (s : State) (h : Nat) (rx : FrameRx) (px : List (BitVec 16)) :
    Kept s (s.ringTake h rx px) := by simp [State.ringTake]

@[simp] theorem kept_cutRawRun (s : State) (h : Nat) : Kept s (s.cutRawRun h) := by
  unfold State.cutRawRun
  split <;> simp

@[simp] theorem kept_portTrim (s : State) (h : Nat) : Kept s (s.portTrim h) := ⟨rfl, rfl⟩

@[simp] theorem kept_frameCut (s : State) (h : Nat) : Kept s (s.frameCut h) := by
  unfold State.frameCut
  split <;> simp

@[simp] theorem kept_headLost (s : State) (h : Nat) : Kept s (s.headLost h) := by simp [State.headLost]

@[simp] theorem kept_portDown (s : State) (h : Nat) : Kept s (s.portDown h) := by simp [State.portDown]

@[simp] theorem kept_attemptFailed (s : State) (h status reason : Nat) : Kept s (s.attemptFailed h status reason) := by
  simp [State.attemptFailed]

@[simp] theorem kept_copyDesc (s : State) (h : Nat) (d : Desc) : Kept s (s.copyDesc h d) := by simp [State.copyDesc]

@[simp] theorem kept_headSetWrite (s : State) (h off : Nat) (v : Word) : Kept s (s.headSetWrite h off v) := by
  unfold State.headSetWrite
  split <;> simp

@[simp] theorem kept_frameMissed (s : State) (h : Nat) : Kept s (s.frameMissed h) := by simp [State.frameMissed]

@[simp] theorem kept_changeApply (s : State) (h : Nat) : Kept s (s.changeApply h) := by
  unfold State.changeApply
  dsimp only
  repeat' split
  all_goals simp [-wr_tick, -wr_power, -wr_fuses, -wrPair_power, -wrPair_fuses, -irq_power, -irq_fuses]

@[simp] theorem kept_frameDeadline (s : State) (h : Nat) : Kept s (s.frameDeadline h) := by
  unfold State.frameDeadline
  dsimp only
  repeat' split
  all_goals simp

@[simp] theorem kept_headFt (s : State) (h : Nat) : Kept s (s.headFt h) := by simp [State.headFt]

/-! ### Loops, traces, profiles -/

@[simp] theorem kept_setLoop (s : State) (l : Nat) (f : LoopSt → LoopSt) : Kept s (s.setLoop l f) := by
  unfold State.setLoop
  split <;> simp

@[simp] theorem kept_setLstate (s : State) (l st : Nat) : Kept s (s.setLstate l st) := ⟨rfl, rfl⟩

@[simp] theorem kept_loopPoint (s : State) (l : Nat) (t : PTrig) : Kept s (s.loopPoint l t) := by
  simp [State.loopPoint]

@[simp] theorem kept_setTrace (s : State) (u : Nat) (f : TraceSt → TraceSt) : Kept s (s.setTrace u f) := ⟨rfl, rfl⟩

@[simp] theorem kept_traceDone (s : State) (u : Nat) (short : Bool) : Kept s (s.traceDone u short) := by
  simp [State.traceDone]

@[simp] theorem kept_traceTrig (s : State) (u : Nat) : Kept s (s.traceTrig u) := by simp [State.traceTrig]

@[simp] theorem kept_traceLeave (s : State) (l : Nat) : Kept s (s.traceLeave l) := by simp [State.traceLeave]

@[simp] theorem kept_traceTrip (s : State) (l : Nat) : Kept s (s.traceTrip l) := by simp [State.traceTrip]

@[simp] theorem kept_stopFans (s : State) (pt : Nat) : Kept s (s.stopFans pt) := by simp [State.stopFans]

@[simp] theorem kept_tripAction (s : State) (l : Nat) (first : Bool) : Kept s (s.tripAction l first) := by
  unfold State.tripAction
  repeat' split
  all_goals simp

@[simp] theorem kept_loopTrip (s : State) (l : Nat) (cause : LoopTrip) : Kept s (s.loopTrip l cause) := by
  unfold State.loopTrip
  dsimp only
  repeat' split
  all_goals simp [-wr_power, -wr_fuses]

@[simp] theorem kept_enterAuto (s : State) (l : Nat) (p : Preset) : Kept s (s.enterAuto l p) := by
  simp [State.enterAuto]

@[simp] theorem kept_loopCmd (s : State) (l : Nat) (cmd : LoopCmd) : Kept s (s.loopCmd l cmd) := by
  unfold State.loopCmd
  repeat' split
  all_goals simp

@[simp] theorem kept_loopCommit (s : State) (l : Nat) : Kept s (s.loopCommit l) := by
  unfold State.loopCommit
  dsimp only
  repeat' split
  all_goals simp

@[simp] theorem kept_loopService (s : State) (l : Nat) : Kept s (s.loopService l) := by simp [State.loopService]

@[simp] theorem kept_loopsService (s : State) : Kept s s.loopsService := ⟨rfl, rfl⟩

@[simp] theorem kept_loopTake (s : State) (l : Nat) : Kept s (s.loopTake l) := by
  unfold State.loopTake
  split <;> simp

@[simp] theorem kept_loopIdle (s : State) (l : Nat) : Kept s (s.loopIdle l) := by simp [State.loopIdle]

@[simp] theorem kept_loopSeen (s : State) (l : Nat) : Kept s (s.loopSeen l) := by simp [State.loopSeen]

@[simp] theorem kept_loopEdge (s : State) (l : Nat) : Kept s (s.loopEdge l) := by simp [State.loopEdge]

@[simp] theorem kept_loopTrips (s : State) : Kept s s.loopTrips := by
  refine kept_foldl _ (fun t a => ?_) _ _
  dsimp only
  repeat' split
  all_goals simp

@[simp] theorem kept_loopsEdge (s : State) : Kept s s.loopsEdge := by simp [State.loopsEdge]

@[simp] theorem kept_clusterLeave (s : State) (c : Nat) : Kept s (s.clusterLeave c) := by simp [State.clusterLeave]

@[simp] theorem kept_clusterClear (s : State) (c : Nat) : Kept s (s.clusterClear c) := by simp [State.clusterClear]

@[simp] theorem kept_clusterInit (s : State) (c : Nat) : Kept s (s.clusterInit c) := by simp [State.clusterInit]

/-! ### Schedules -/

@[simp] theorem kept_setPrf (s : State) (g : Nat) (f : PrfSt → PrfSt) : Kept s (s.setPrf g f) := by
  unfold State.setPrf
  split <;> simp

@[simp] theorem kept_prfsCommit (s : State) : Kept s s.prfsCommit := by
  refine kept_foldl _ (fun t p => ?_) _ _
  split <;> simp

@[simp] theorem kept_prfRest (s : State) (g : Nat) (v : Int) : Kept s (s.prfRest g v) := by simp [State.prfRest]

@[simp] theorem kept_prfsLeave (s : State) : Kept s s.prfsLeave := by
  refine kept_foldl _ (fun t p => ?_) _ _
  split
  · simp
  · split <;> simp

@[simp] theorem kept_prfsLoad (s : State) : Kept s s.prfsLoad := by
  refine kept_foldl _ (fun t a => ?_) _ _
  dsimp only
  repeat' split
  all_goals simp

@[simp] theorem kept_setSched (s : State) (k : Nat) (f : SchedSt → SchedSt) : Kept s (s.setSched k f) := ⟨rfl, rfl⟩

@[simp] theorem kept_schedsFresh (s : State) : Kept s s.schedsFresh := by simp [State.schedsFresh]

/-! ### Engines -/

@[simp] theorem kept_holdEngine (s : State) (e : Engine) : Kept s (s.holdEngine e) := by simp [State.holdEngine]

@[simp] theorem kept_statStop (s : State) : Kept s s.statStop := by
  simp [State.statStop]

@[simp] theorem kept_engineStop (s : State) (e : Engine) : Kept s (s.engineStop e) := by
  unfold State.engineStop
  split <;> simp

@[simp] theorem kept_engineUp (s : State) (e : Engine) : Kept s (s.engineUp e) := by
  unfold State.engineUp
  split <;> simp

@[simp] theorem kept_enterDrain (s : State) (e : Engine) : Kept s (s.enterDrain e) := by
  unfold State.enterDrain
  cases e <;> simp

@[simp] theorem kept_fabReply (s : State) (q : FabReq) : Kept s (s.fabReply q) := by simp [State.fabReply]

@[simp] theorem kept_fabAnswer (s : State) (hit : FabReq → Bool) : Kept s (s.fabAnswer hit) := by
  simp [State.fabAnswer]

@[simp] theorem kept_fabOff (s : State) (d : Nat) : Kept s (s.fabOff d) := by simp [State.fabOff]

@[simp] theorem kept_domAnswer (s : State) (d st blocker : Nat) : Kept s (s.domAnswer d st blocker) := by
  simp [State.domAnswer]

@[simp] theorem kept_storeLost (s : State) : Kept s s.storeLost := by simp [State.storeLost]

@[simp] theorem kept_domLost (s : State) (d : Nat) : Kept s (s.domLost d) := by simp [State.domLost]

/-! ### Trips -/

@[simp] theorem kept_burstClock (s : State) : Kept s s.burstClock := by simp [State.burstClock]

/-! ### Resets -/

@[simp] theorem kept_cutFlash (s : State) : Kept s s.cutFlash := by
  unfold State.cutFlash
  split <;> simp

@[simp] theorem kept_cutPulse (s : State) : Kept s s.cutPulse := by
  unfold State.cutPulse
  split <;> simp

@[simp] theorem kept_clocksOff (s : State) : Kept s s.clocksOff := by
  simp [State.clocksOff]

@[simp] theorem kept_schedsDown (s : State) : Kept s s.schedsDown := by simp [State.schedsDown]

@[simp] theorem kept_release (s : State) : Kept s s.release := by simp [State.release]

@[simp] theorem kept_warmRestart (s : State) : Kept s s.warmRestart := by simp [State.warmRestart]

/-! ### Plain registers -/

@[simp] theorem kept_applyWord (s : State) (key v : Nat) : Kept s (s.applyWord key v) := ⟨rfl, rfl⟩

@[simp] theorem kept_plainWrite (s : State) (b : Blk) (key off v : Nat) : Kept s (s.plainWrite b key off v) := by
  simp [State.plainWrite]

/-! ### SERVICE -/

@[simp] theorem kept_serviceOn (s : State) : Kept s s.serviceOn := by simp [State.serviceOn]

@[simp] theorem kept_testsEnd (s : State) : Kept s s.testsEnd := by simp [State.testsEnd]

@[simp] theorem kept_serviceOff (s : State) : Kept s s.serviceOff := by simp [State.serviceOff]

@[simp] theorem kept_serviceCmd (s : State) (enter : Bool) : Kept s (s.serviceCmd enter) := by simp [State.serviceCmd]

@[simp] theorem kept_unlockWrite (s : State) (b : Blk) (v : Nat) : Kept s (s.unlockWrite b v) := by
  simp [State.unlockWrite]

/-! ### Tick generator -/

@[simp] theorem kept_tickChange (s : State) : Kept s s.tickChange := by
  unfold State.tickChange
  split <;> simp

@[simp] theorem kept_tickAccept (s : State) (stinc n : Nat) : Kept s (s.tickAccept stinc n) := ⟨rfl, rfl⟩

theorem kept_tickLoad (s t : State) (off v : Nat) (h : s.tickLoad off v = some t) : Kept s t := by
  unfold State.tickLoad at h
  split at h
  · cases h
    simp
  · obtain ⟨-, h⟩ := Option.ite_none_right_eq_some.mp h
    cases h
    exact kept_tickAccept _ _ _

/-! ### Sections of the image -/

theorem kept_loadWord (s t : State) (ty u a w : Nat) (h : s.loadWord ty u a w = some t) : Kept s t := by
  unfold State.loadWord at h
  split at h
  · cases h
  · split at h
    · exact kept_tickLoad _ _ _ _ h
    · split at h
      · cases h; simp
      · dsimp only at h
        split at h <;> cases h
        simp

theorem kept_loadWords (ty u : Nat) (ws : List (Nat × Nat)) (s : State) : Kept s (State.loadWords ty u ws s).1 := by
  induction ws generalizing s with
  | nil => simp [State.loadWords]
  | cons w ws ih =>
    unfold State.loadWords
    split
    · next t h => exact (kept_loadWord _ _ _ _ _ _ h).trans (ih t)
    · simp

@[simp] theorem kept_unload (s : State) (t u : Nat) : Kept s (s.unload t u) := by simp [State.unload]

theorem kept_loadSection (s t : State) (ty u : Nat) (content : List Byte) (h : s.loadSection ty u content = some t) :
    Kept s t := by
  unfold State.loadSection at h
  split at h
  · cases h
  · next ws _ =>
    have hw := kept_loadWords ty u ws (s.unload ty u)
    split at h
    · cases h
    · next l hl =>
      rw [hl] at hw
      split at h <;> cases h
      exact .trans (by simp) hw

theorem kept_loadMaps (s t : State) (h : Nat) (ps : List Plane) (he : s.loadMaps h ps = some t) : Kept s t := by
  unfold State.loadMaps at he
  split at he
  · split at he <;> cases he
    simp
  · cases he

@[simp] theorem kept_tableBuild (s : State) (h i : Nat) : Kept s (s.tableBuild h i) := by
  unfold State.tableBuild
  split <;> simp

@[simp] theorem kept_calWords (s : State) (h i : Nat) (v : List Nat) : Kept s (s.calWords h i v) := by
  simp [State.calWords, -wr_power, -wr_fuses]

theorem kept_loadCal (s t : State) (h i : Nat) (ps : List Plane) (he : s.loadCal h i ps = some t) : Kept s t := by
  unfold State.loadCal at he
  dsimp only at he
  split at he
  · split at he <;> cases he
    simp
  · cases he

/-! ### Sources -/

@[simp] theorem kept_assignPoints (s : State) (keep : Bool) : Kept s (s.assignPoints keep) := by
  simp [State.assignPoints]

@[simp] theorem kept_setClasses (s : State) (c : Nat) : Kept s (s.setClasses c) := by simp [State.setClasses]

/-! ### Loading -/

@[simp] theorem kept_setReason (s : State) (src : ImgSrc) (reason idx : Nat) : Kept s (s.setReason src reason idx) := by
  simp [State.setReason]

@[simp] theorem kept_loadEvent (s : State) : Kept s s.loadEvent := by simp [State.loadEvent]

@[simp] theorem kept_noImage (s : State) : Kept s s.noImage := by simp [State.noImage]

@[simp] theorem kept_hostLoadEnd (s : State) (status : Nat) : Kept s (s.hostLoadEnd status) := by
  simp [State.hostLoadEnd]

@[simp] theorem kept_candFail (s : State) (src : ImgSrc) (reason idx : Nat) : Kept s (s.candFail src reason idx) := by
  unfold State.candFail
  split <;> simp

@[simp] theorem kept_updShow (s : State) (a b : Option Header) : Kept s (s.updShow a b) := by
  unfold State.updShow
  repeat' split
  all_goals simp

@[simp] theorem kept_selectCopies (s : State) : Kept s s.selectCopies := by
  unfold State.selectCopies
  dsimp only
  repeat' split
  all_goals simp

theorem kept_applySecs (secs : List (Nat × SecRec × List Byte)) (s t : State) (h : State.applySecs secs s = .ok t) :
    Kept s t := by
  induction secs generalizing s with
  | nil =>
    cases h
    exact ⟨rfl, rfl⟩
  | cons x secs ih =>
    obtain ⟨i, r, c⟩ := x
    unfold State.applySecs at h
    split at h
    · exact ih s h
    · split at h
      · split at h
        · exact ih s h
        · cases h
      · split at h
        · next u hu => exact (kept_loadSection _ _ _ _ _ hu).trans (ih u h)
        · split at h
          · exact ih s h
          · cases h

@[simp] theorem kept_loopsLoad (s : State) (c : Nat) : Kept s (s.loopsLoad c) := by simp [State.loopsLoad]

@[simp] theorem kept_actLoad (s : State) : Kept s s.actLoad := ⟨rfl, rfl⟩

@[simp] theorem kept_portLoad (s : State) (p : Fin 2) : Kept s (s.portLoad p) := by
  unfold State.portLoad
  split <;> simp

@[simp] theorem kept_seedHead (s : State) (h : Nat) : Kept s (s.seedHead h) := ⟨rfl, rfl⟩

@[simp] theorem kept_statLoad (s : State) (t : Nat) : Kept s (s.statLoad t) := by simp [State.statLoad]

@[simp] theorem kept_recordSource (s : State) (t u : Nat) (src : ImgSrc) : Kept s (s.recordSource t u src) := ⟨rfl, rfl⟩

@[simp] theorem kept_sectionDown (s : State) (t u : Nat) : Kept s (s.sectionDown t u) := by
  unfold State.sectionDown
  split <;> simp

/-! ### Reloads -/

@[simp] theorem kept_setRl (s : State) (n : Nat) : Kept s (s.setRl n) := ⟨rfl, rfl⟩

@[simp] theorem kept_reloadEvent (s : State) (t u src status reason : Nat) :
    Kept s (s.reloadEvent t u src status reason) := by simp [State.reloadEvent]

@[simp] theorem kept_reloadEnd (s : State) (t u : Nat) (src : ImgSrc) (status reason idx : Nat) :
    Kept s (s.reloadEnd t u src status reason idx) := by simp [State.reloadEnd]

@[simp] theorem kept_withTabs (s : State) (t u : Nat) (b : BusTables) : Kept s (s.withTabs t u b) := by
  simp [State.withTabs]

@[simp] theorem kept_headerChecked (s : State) (src : ImgSrc) : Kept s (s.headerChecked src) := by
  unfold State.headerChecked
  split <;> simp

@[simp] theorem kept_reloadDrain (s : State) (t u : Nat) : Kept s (s.reloadDrain t u) := by
  unfold State.reloadDrain
  split
  · simp
  · refine kept_foldl _ (fun t e => ?_) _ _
    dsimp only
    split
    · simp
    · split <;> simp

@[simp] theorem kept_pxFree (s : State) (h : Nat) : Kept s (s.pxFree h) := by simp [State.pxFree]

theorem kept_reloadPlanes (s t : State) (ty u : Nat) (content : List Byte) (h : s.reloadPlanes ty u content = some t) :
    Kept s t := by
  unfold State.reloadPlanes at h
  dsimp only at h
  split at h
  · cases h
  · split at h
    · exact (kept_pxFree s _).trans (kept_loadMaps _ _ _ _ h)
    · obtain ⟨l, hl, rfl⟩ := Option.map_eq_some_iff.mp h
      exact ((kept_pxFree s _).trans (kept_loadCal _ _ _ _ _ hl)).trans (by simp)

/-- What a section's content leaves: its registers, or its planes. -/
theorem kept_sectionContent (s t : State) (ty u : Nat) (coded : Prop) [Decidable coded] (c : List Byte)
    (h : (if registerType ty then (if coded then none else s.loadSection ty u c)
      else if coded then s.reloadPlanes ty u c else none) = some t) : Kept s t := by
  split at h
  · exact kept_loadSection _ _ _ _ _ (Option.ite_none_left_eq_some.mp h).2
  · exact kept_reloadPlanes _ _ _ _ _ (Option.ite_none_right_eq_some.mp h).2

theorem kept_reloadWrite (s t : State) (ty u : Nat) (src : ImgSrc) (h : s.reloadWrite ty u src = .ok t) : Kept s t := by
  unfold State.reloadWrite at h
  extract_lets v at h
  have hv : Kept s v := by
    dsimp only [v]
    split <;> simp
  refine hv.trans ?_
  split at h
  · split at h <;> cases h
    next hl => exact kept_loadSection _ _ _ _ _ hl
  · split at h
    · cases h
    · split at h
      · cases h
      · split at h
        · cases h
        · split at h <;> cases h
          next hc => exact kept_sectionContent _ _ _ _ _ _ hc

@[simp] theorem kept_reloadRestore (s : State) (t u : Nat) : Kept s (s.reloadRestore t u) := by
  unfold State.reloadRestore
  split
  · simp
  · split
    · simp
    · split
      · simp
      · split
        · simp
        · split
          · simp
          · next r _ _ c _ =>
            cases h : (if registerType t then (if r.coding = 1 then none else s.loadSection t u c)
              else if r.coding = 1 then s.reloadPlanes t u c else none) with
            | none => simp
            | some x => exact kept_sectionContent _ _ _ _ _ _ h

@[simp] theorem kept_reloadFinish (s : State) (t u : Nat) (src : ImgSrc) : Kept s (s.reloadFinish t u src) := by
  unfold State.reloadFinish
  split <;> simp

@[simp] theorem kept_streamReloadEnd (s : State) (status reason : Nat) : Kept s (s.streamReloadEnd status reason) := by
  unfold State.streamReloadEnd
  split <;> simp

@[simp] theorem kept_streamStop (s : State) : Kept s s.streamStop := by simp [State.streamStop]

@[simp] theorem kept_streamWord (s : State) (v : Word) : Kept s (s.streamWord v) := by simp [State.streamWord]

/-! ### LOCK answers -/

@[simp] theorem kept_say (s : State) (lines : List ConLine) (st : Nat) : Kept s (s.say lines st) := ⟨rfl, rfl⟩

theorem power_burn (s : State) (bits : List Nat) (readBack : Bool) : (s.burn bits readBack).power = s.power := by
  unfold State.burn
  split <;> rfl

@[simp] theorem kept_lockAnswer (s : State) (st : Nat) : Kept s (s.lockAnswer st) := by simp [State.lockAnswer]

/-! ### Reads -/

@[simp] theorem kept_capture (s : State) (key a : Nat) : Kept s (s.capture key a) := by simp [State.capture]

@[simp] theorem kept_rcClear (s : State) (key : Nat) : Kept s (s.rcClear key) := by simp [State.rcClear]

@[simp] theorem kept_freshView (s : State) (key : Nat) : Kept s (s.freshView key) := by simp [State.freshView]

@[simp] theorem kept_readEffects (s : State) (key a : Nat) : Kept s (s.readEffects key a) := by
  simp [State.readEffects]

@[simp] theorem kept_noteSeen (s : State) (con : Bool) (a w : Nat) : Kept s (s.noteSeen con a w) := by
  simp [State.noteSeen]

/-- A command whose footprint has neither part. -/
theorem kept_done {f : Footprint} (s u : State) (hp : f.has .power = false) (hf : f.has .fuses = false) :
    Kept s (if s.up then s.settle f u else s) := by
  split
  · exact ⟨power_done_out f s u hp, fuses_done_out f s u hf⟩
  · exact ⟨rfl, rfl⟩

@[simp] theorem kept_queueTake (s : State) (key : Nat) : Kept s (s.queueTake key) := by
  unfold State.queueTake
  by_cases h0 : key = 0x7810
  · rw [if_pos h0]
    exact kept_done (f := fpAfe) s _ rfl rfl
  · rw [if_neg h0]
    by_cases h1 : key = 0x7812
    · rw [if_pos h1]
      exact kept_done (f := fpAfe) s _ rfl rfl
    · rw [if_neg h1]
      exact ⟨rfl, rfl⟩

@[simp] theorem kept_readReg (s : State) (con : Bool) (a : Nat) : Kept s (s.readReg con a).2 := by
  unfold State.readReg
  repeat' split
  all_goals simp

@[simp] theorem kept_readPt (s : State) (con : Bool) (a : Nat) : Kept s (s.readPt con a).2 := by
  unfold State.readPt
  repeat' split
  all_goals simp

/-! ### Windows -/

@[simp] theorem kept_setWin (s : State) (w : Nat) (f : Win → Win) : Kept s (s.setWin w f) := ⟨rfl, rfl⟩

@[simp] theorem kept_fetchSync (s : State) : Kept s s.fetchSync := ⟨rfl, rfl⟩

@[simp] theorem kept_downReply (s : State) (d : Nat) : Kept s (s.downReply d) := by simp [State.downReply]

@[simp] theorem kept_fetchStart (s : State) (w block : Nat) : Kept s (s.fetchStart w block) := by
  unfold State.fetchStart
  split <;> simp

@[simp] theorem kept_winHit (s : State) (con : Bool) (w m : Nat) (isA : Bool) (b : WinBuf) :
    Kept s (s.winHit con w m isA b).2 := by
  unfold State.winHit
  dsimp only
  repeat' split
  all_goals simp

@[simp] theorem kept_readWin (s : State) (con : Bool) (a : Nat) : Kept s (s.readWin con a).2 := by
  rw [State.readWin]
  cases s.winWord a with
  | none => simp
  | some m =>
    dsimp only
    repeat' split
    all_goals simp

@[simp] theorem kept_pixelWindowWrite (s : State) (m : Nat) (v : Word) : Kept s (s.pixelWindowWrite m v) := by
  unfold State.pixelWindowWrite
  repeat' split
  all_goals simp

@[simp] theorem kept_writeWin (s : State) (a : Nat) (v : Word) : Kept s (s.writeWin a v) := by
  rw [State.writeWin]
  repeat' split
  all_goals simp

/-! ### Writes -/

/-- A command keeps them with its operands set around it too. -/
theorem kept_withOperands (s : State) (b : Blk) (key v : Nat) (run : State → State) (h : ∀ t, Kept t (run t)) :
    Kept s (s.withOperands b key v run) := by
  simp [State.withOperands, h _]

@[simp] theorem kept_afeWritten (s old : State) (key : Nat) : Kept s (s.afeWritten old key) := by
  simp [State.afeWritten, -wr_power, -wr_fuses]

@[simp] theorem kept_pcsWritten (s old : State) (h : Nat) : Kept s (s.pcsWritten old h) := by simp [State.pcsWritten]

@[simp] theorem kept_written (s old : State) (b : Blk) (key : Nat) : Kept s (s.written old b key) := by
  unfold State.written
  split <;> simp

@[simp] theorem kept_fabWrite (s : State) (v : Nat) : Kept s (s.fabWrite v) := by
  simp [State.fabWrite, -wrKey_power, -wrKey_fuses, -result_power, -result_fuses]

@[simp] theorem kept_plainWritten (s : State) (b : Blk) (key off v : Nat) : Kept s (s.plainWritten b key off v) := by
  simp [State.plainWritten]

@[simp] theorem kept_hostRead (s : State) (con : Bool) (a : Nat) : Kept s (s.hostRead con a).2 := by
  unfold State.hostRead
  repeat' split
  all_goals simp

/-! ### HSP -/

@[simp] theorem kept_setXfer (s : State) (x : HspXfer) : Kept s (s.setXfer x) := ⟨rfl, rfl⟩

/-! ### The console -/

@[simp] theorem kept_conReads (n : Nat) (s : State) (past : Bool) (a : Nat) : Kept s (s.conReads past a n).2 := by
  induction n generalizing s past a with
  | zero => simp [State.conReads]
  | succ n ih =>
    unfold State.conReads
    dsimp only
    refine .trans ?_ (ih _ _ _)
    cases past <;> simp

@[simp] theorem kept_conDump (s : State) (h line first count : Nat) : Kept s (s.conDump h line first count) := by
  simp [State.conDump]

@[simp] theorem kept_ballCmd (s : State) (ball : Nat) (level : Option BallForce) : Kept s (s.ballCmd ball level) := by
  unfold State.ballCmd
  repeat' split
  all_goals simp

@[simp] theorem kept_dacCmd (s : State) (c : Nat) (code : Option Nat) : Kept s (s.dacCmd c code) := by
  simp [State.dacCmd]

@[simp] theorem kept_vlvHoldCmd (s : State) (c code : Nat) : Kept s (s.vlvHoldCmd c code) := by
  simp [State.vlvHoldCmd]

@[simp] theorem kept_vlvCmd (s : State) (c : Nat) (off : Bool) : Kept s (s.vlvCmd c off) := by simp [State.vlvCmd]

@[simp] theorem kept_fanCmd (s : State) (c : Nat) (rpm : Option Nat) : Kept s (s.fanCmd c rpm) := by
  simp [State.fanCmd]

@[simp] theorem kept_afeCmd (s : State) (q pin mag : Nat) (volt : Bool) : Kept s (s.afeCmd q pin mag volt) := by
  simp [State.afeCmd]

@[simp] theorem kept_afeOffCmd (s : State) (q : Nat) : Kept s (s.afeOffCmd q) := by simp [State.afeOffCmd]

@[simp] theorem kept_monCmd (s : State) (src : Nat) : Kept s (s.monCmd src) := by simp [State.monCmd]

@[simp] theorem kept_lockCmd (s : State) (b : Blk) (v : Nat) : Kept s (s.lockCmd b v) := by simp [State.lockCmd]

/-! ### Lines of the console -/

@[simp] theorem kept_lineCounted (s : State) (chars : List Byte) (long : Bool) : Kept s (s.lineCounted chars long) := by
  simp [State.lineCounted]

end Sys2Proof.Proofs
end

section
/-! SUPPORT. R86, first part: the relation between a state and a next one in which fused-off domains stay OFF, and the commands of
PWR that switch domains. -/

namespace Sys2Proof.Proofs
open Sys2Proof Sys2Proof.Machine Sys2Proof.Laws

/-- R86: the domains of fused-off engines are OFF. -/
def FusedOff (s : State) : Prop := ∀ d, s.domFused d = true → s.dom d = { st := .off, pend := none }

/-- `t` is a state of the same part as `s`, and keeps its fused-off domains OFF. -/
def OffKept (s t : State) : Prop := t.variant = s.variant ∧ (FusedOff s → FusedOff t)

/-! ### Fuses and variants -/

theorem variant_of_fuses {s t : State} (h : t.fuses = s.fuses) : t.variant = s.variant := by
  unfold State.variant State.fuseField
  rw [h]

theorem domFused_of_variant {s t : State} (h : t.variant = s.variant) (d : Nat) : t.domFused d = s.domFused d := by
  unfold State.domFused
  rw [h]

theorem memNat_iff (x : Nat) (l : List Nat) : memNat x l = true ↔ x ∈ l := by
  induction l with
  | nil => simp [memNat]
  | cons y l ih => simp [memNat, ih]

theorem domFused_of_slz4860 {s : State} (h : s.variant = .slz4860) (d : Nat) : s.domFused d = false := by
  simp [State.domFused, h]

theorem domFused_slz4840 {s : State} (h : s.variant = .slz4840) (d : Nat) :
    s.domFused d = true ↔ d = 7 ∨ d = 8 ∨ d = 12 ∨ d = 13 ∨ d = 26 := by
  simp [State.domFused, h, memNat_iff]

theorem domFused_slz4820 {s : State} (h : s.variant = .slz4820) (d : Nat) :
    s.domFused d = true ↔ 6 ≤ d ∧ d ≤ 8 ∨ 11 ≤ d ∧ d ≤ 13 ∨ d = 26 := by
  simp only [State.domFused, h, memNat_iff, List.mem_cons, List.not_mem_nil, or_false]
  omega

/-- The fused-off domains of either smaller variant. -/
theorem domFused_cases {s : State} {d : Nat} (h : s.domFused d = true) :
    6 ≤ d ∧ d ≤ 8 ∨ 11 ≤ d ∧ d ≤ 13 ∨ d = 26 := by
  cases hv : s.variant with
  | slz4860 => simp [domFused_of_slz4860 hv] at h
  | slz4840 => have := (domFused_slz4840 hv d).mp h; omega
  | slz4820 => exact (domFused_slz4820 hv d).mp h

/-- A domain that no variant lacks. -/
theorem domFused_eq_false (s : State) {d : Nat} (h : ¬ (6 ≤ d ∧ d ≤ 8 ∨ 11 ≤ d ∧ d ≤ 13 ∨ d = 26)) :
    s.domFused d = false := Bool.eq_false_iff.mpr fun hf => h (domFused_cases hf)

/-! ### The relation -/

theorem fusedOff_congr {s t : State} (hv : t.variant = s.variant) (hp : t.power.doms = s.power.doms) (h : FusedOff s) :
    FusedOff t := by
  intro d hd
  rw [domFused_of_variant hv] at hd
  have := h d hd
  unfold State.dom at this ⊢
  rwa [hp]

theorem OffKept.refl (s : State) : OffKept s s := ⟨rfl, id⟩

theorem OffKept.trans {s t u : State} (h : OffKept s t) (g : OffKept t u) : OffKept s u :=
  ⟨g.1.trans h.1, g.2 ∘ h.2⟩

/-- Domains and variant are all that the relation speaks of. -/
theorem OffKept.of_eq {s t : State} (hv : t.variant = s.variant) (hp : t.power.doms = s.power.doms) : OffKept s t :=
  ⟨hv, fusedOff_congr hv hp⟩

theorem Kept.off {s t : State} (h : Kept s t) : OffKept s t := .of_eq (variant_of_fuses h.2) (congrArg Power.doms h.1)

theorem OffKept.foldl {α : Type} {f : State → α → State} (h : ∀ t a, OffKept t (f t a)) (l : List α) (s : State) :
    OffKept s (l.foldl f s) := by
  induction l generalizing s with
  | nil => exact .refl s
  | cons a l ih => exact (h s a).trans (ih _)

/-- The form of every command's next state: the footprint takes each part from one of the two states. -/
theorem OffKept.settle {s t : State} (h : OffKept s t) (f : Footprint) : OffKept s (s.settle f t) := by
  refine OffKept.trans (t := s.confine f t) ?_ (.of_eq (variant_of_fuses (alertEdge_fuses _ _)) (by rw [alertEdge_power]))
  obtain ⟨hv, hoff⟩ := h
  have hw : (s.confine f t).variant = s.variant := by
    cases hf : f.has .fuses
    · exact variant_of_fuses (by rw [confine_fuses, if_neg (by simp [hf])])
    · exact (variant_of_fuses (by rw [confine_fuses, if_pos hf])).trans hv
  refine ⟨hw, fun hs => ?_⟩
  cases hp : f.has .power
  · exact fusedOff_congr hw (by rw [confine_power, if_neg (by simp [hp])]) hs
  · exact fusedOff_congr (hw.trans hv.symm) (by rw [confine_power, if_pos hp]) (hoff hs)

/-- A footprint without domains and fuses, whatever the command does. -/
theorem kept_settle {f : Footprint} (s t : State) (hp : f.has .power = false) (hf : f.has .fuses = false) :
    Kept s (s.settle f t) := ⟨power_done_out f s t hp, fuses_done_out f s t hf⟩

/-! ### Outcomes -/

/-- Every next state that the outcome holds keeps the fused-off domains of `s` OFF. -/
def Keeps (s : State) (o : Host.Outcome State Fault Refusal) : Prop := ∀ t, o = .next t → OffKept s t

theorem keeps_next {s t : State} (h : OffKept s t) : Keeps s (.next t) := by
  intro u hu
  cases hu
  exact h

theorem keeps_done {f : Footprint} {s t : State} (h : OffKept s t) : Keeps s (done f s t) := by
  refine keeps_next ?_
  split
  · exact h.settle f
  · exact .refl s

theorem keeps_doneHeld {f : Footprint} {s t : State} (h : OffKept s t) : Keeps s (doneHeld f s t) := by
  refine keeps_next ?_
  split
  · exact h.settle f
  · split
    · exact h.settle _
    · split
      · exact h.settle _
      · exact .refl s

theorem keeps_doneReset {f : Footprint} {s t : State} (h : OffKept s t) : Keeps s (doneReset f s t) :=
  keeps_next (h.settle f)

theorem keeps_apart {f : Footprint} {s t : State} (hp : f.has .power = false) (hf : f.has .fuses = false) :
    Keeps s (done f s t) := by
  refine keeps_next ?_
  split
  · exact (kept_settle s t hp hf).off
  · exact .refl s

theorem offKept_after {s : State} {o : Host.Outcome State Fault Refusal} (h : Keeps s o) : OffKept s (s.after o) := by
  unfold State.after
  split
  · next t => exact h t rfl
  · exact .refl s

/-! ### Domains that switch -/

theorem dom_setDom_other (s : State) {d e : Nat} (h : e ≠ d) (x : Domain) : (s.setDom d x).dom e = s.dom e := by
  unfold State.dom State.setDom
  rw [vmod_get?, if_neg h.symm]

/-- A domain that the part has may take any state. -/
theorem OffKept.setDom {s t : State} (h : OffKept s t) {d : Nat} (hd : FusedOff s → s.domFused d = false) (x : Domain) :
    OffKept s (t.setDom d x) := by
  have hv : (t.setDom d x).variant = t.variant := variant_of_fuses rfl
  refine ⟨hv.trans h.1, fun hs e he => ?_⟩
  rw [domFused_of_variant hv] at he
  have hne : e ≠ d := by
    rintro rfl
    rw [domFused_of_variant h.1, hd hs] at he
    cases he
  rw [dom_setDom_other t hne, h.2 hs e he]

/-- Domains switched one after another. -/
theorem OffKept.foldl_setDom {s t : State} (h : OffKept s t) (l : List Nat) (x : State → Nat → Domain)
    (hl : ∀ d ∈ l, s.domFused d = false) : OffKept s (l.foldl (fun t d => t.setDom d (x t d)) t) := by
  induction l generalizing t with
  | nil => exact h
  | cons d l ih =>
    obtain ⟨hd, hl⟩ := List.forall_mem_cons.mp hl
    exact ih (h.setDom (fun _ => hd) _) hl

theorem within_has {f : Footprint} (regs : List (Nat × Nat)) (parts : List Part) {p : Part} (h : f.has p = false) :
    (f.within regs parts).has p = false := by
  simp only [Footprint.has, Footprint.within, List.any_eq_false, List.mem_filter] at h ⊢
  exact fun q hq => h q hq.1

theorem keeps_heldApart {f : Footprint} {s t : State} (hp : f.has .power = false) (hf : f.has .fuses = false) :
    Keeps s (doneHeld f s t) := by
  refine keeps_next ?_
  split
  · exact (kept_settle s t hp hf).off
  · split
    · exact (kept_settle s t (within_has _ _ hp) (within_has _ _ hf)).off
    · split
      · exact (kept_settle s t (within_has _ _ hp) (within_has _ _ hf)).off
      · exact .refl s

/-- A domain with a transition running is no fused-off one. -/
theorem domFused_of_pend {s : State} {d : Nat} {g : DomState} (hs : FusedOff s) (h : (s.dom d).pend = some g) :
    s.domFused d = false := by
  refine Bool.eq_false_iff.mpr fun hd => ?_
  rw [hs d hd] at h
  cases h

/-! ### Pixel engines (R87) -/

/-- A pixel engine that the part has: its domain is none of a fused-off engine. -/
theorem domFused_of_headPresent {s : State} {n : Nat} (h : s.headPresent n = true) : s.domFused (10 + n) = false := by
  have hn : n < s.variant.heads := by simpa [State.headPresent] using h
  refine Bool.eq_false_iff.mpr fun hd => ?_
  cases hv : s.variant <;> rw [hv] at hn
  · simp [domFused_of_slz4860 hv] at hd
  · have := (domFused_slz4840 hv _).mp hd
    simp only [Variant.heads] at hn
    omega
  · have := (domFused_slz4820 hv _).mp hd
    simp only [Variant.heads] at hn
    omega

theorem offKept_peDomains (s : State) (st : DomState) : OffKept s (s.peDomains st) := by
  refine OffKept.foldl (fun t n => ?_) _ _
  split
  · next h =>
    exact (OffKept.refl t).setDom (fun _ => domFused_of_headPresent (Bool.and_eq_true_iff.mp h).1) _
  · exact .refl t

theorem offKept_burstRequest (s : State) (h : Nat) (res : FrameRes) (slot0 : Nat) :
    OffKept s (s.burstRequest h res slot0) := by
  unfold State.burstRequest
  refine .trans (Kept.off ?_) (offKept_peDomains _ .on)
  simp

theorem keeps_peRetentionEntry (s : State) : Keeps s (execPeRetentionEntry s) := by
  refine keeps_done ?_
  split
  · refine .trans (Kept.off ?_) (offKept_peDomains _ .ret)
    exact ⟨rfl, rfl⟩
  · exact .refl s

theorem offKept_frameClose (s : State) (h : Nat) (nofe : Bool) (t : Nat) : OffKept s (s.frameClose h nofe t) := by
  rw [State.frameClose]
  split
  · exact .refl s
  · next rx _ =>
    rcases hf : s.frameFpa h rx with ⟨fpa, tlm, s₁⟩
    have h₁ : Kept s s₁ := by simpa [hf] using kept_frameFpa s h rx
    dsimp -zeta only
    extract_lets s₂ setm notsvc few nofe' status s₃ sht res s₄ s₅ s₆
    have h₄ : Kept s₁ s₄ := by simp [s₄, s₃, s₂]
    have h₅ : Kept s₄ s₅ := by dsimp only [s₅]; split <;> simp
    have h₆ : Kept s₅ s₆ := by dsimp only [s₆]; split <;> simp
    have hs : Kept s s₆ := ((h₁.trans h₄).trans h₅).trans h₆
    split
    · split
      · exact (hs.trans (kept_frameLost _ _ _ _)).off
      · split
        · exact (hs.trans (kept_burstDrop _ _ _)).off
        · exact hs.off.trans (offKept_burstRequest _ _ _ _)
    · exact (hs.trans (kept_frameLost _ _ _ _)).off

/-! ### Commands of PWR (R84, R85) -/

theorem offKept_domNeeds (s : State) (d : Nat) (f : Nat → DomState) :
    OffKept s ((s.domNeeds d).foldl (fun s e => s.domStart e (f e)) s) := by
  refine (OffKept.refl s).foldl_setDom _ _ fun e he => ?_
  simpa using (Bool.and_eq_true_iff.mp (List.mem_filter.mp he).2).2

theorem domFused_of_judge {s : State} {d : Nat} {ret : Bool} (h : s.domJudge d ret = Status.OK) : s.domFused d = false := by
  unfold State.domJudge at h
  dsimp only at h
  split at h
  · contradiction
  · split at h
    · exact absurd h (by decide)
    · next hb => simp only [not_or] at hb; simpa using hb.2.2.2.1

theorem keeps_domainOn (s : State) : Keeps s (execDomainOn s) := by
  refine keeps_done ?_
  split
  · exact (offKept_domNeeds s _ fun _ => .on).trans (Kept.off (kept_domAnswer _ _ _ _))
  · exact (kept_domAnswer _ _ _ _).off

theorem offKept_domLeave (s : State) (d : Nat) (goal : DomState) : OffKept s (s.domLeave d goal) := by
  unfold State.domLeave
  extract_lets st
  split
  · exact (kept_domAnswer _ _ _ _).off
  · next hst =>
    have hd : s.domFused d = false := domFused_of_judge (Decidable.not_not.mp hst)
    split
    · exact (kept_domAnswer _ _ _ _).off
    · split
      · exact (kept_domAnswer _ _ _ _).off
      · split
        · refine .trans ?_ (Kept.off (kept_domAnswer _ _ _ _))
          split
          · exact .refl s
          · exact offKept_domNeeds s d _
        · have h : OffKept s ((domEngines d).foldl (fun s e => s.enterDrain e) s) := Kept.off (by simp)
          exact (h.setDom (fun _ => hd) _).trans (Kept.off (kept_domAnswer _ _ _ _))

theorem keeps_domainRet (s : State) : Keeps s (execDomainRet s) := keeps_done (offKept_domLeave s _ .ret)

theorem keeps_domainOff (s : State) : Keeps s (execDomainOff s) := keeps_done (offKept_domLeave s _ .off)

theorem kept_withPower {s t : State} (h : Kept s t) : Kept s { t with power := s.power } := ⟨rfl, h.2⟩

/-- Where a transition ends, the domain takes its state; what its engines then do leaves all domains. -/
theorem keeps_domainTransitionDone (d : Fin 30) (s : State) : Keeps s (execDomainTransitionDone d s) := by
  refine keeps_done ?_
  split
  · exact .refl s
  · next hp =>
    split
    · extract_lets kept s₁ s₂ s₃
      have h₁ : OffKept s s₁ := (OffKept.refl s).setDom (fun hs => domFused_of_pend hs hp) _
      have h₂ : Kept s₁ s₂ := by dsimp only [s₂]; split <;> simp
      have h₃ : Kept s₂ s₃ := by dsimp only [s₃]; split <;> simp
      refine h₁.trans (h₂.trans (h₃.trans (kept_withPower (kept_foldl _ (fun t e => ?_) _ s₃)))).off
      repeat' split
      all_goals simp
    · exact .refl s
  · next g _ hp =>
    have hd : FusedOff s → s.domFused d.val = false := fun hs => domFused_of_pend hs hp
    split
    · exact .refl s
    · split
      · exact .refl s
      · split
        · exact .refl s
        · extract_lets s₁ _ s₂
          have h₁ : OffKept s s₁ := (OffKept.refl s).setDom hd _
          have h₂ : Kept s₁ s₂ := by
            dsimp only [s₂]
            split
            · exact kept_withPower ((kept_domLost s₁ d.val).trans (kept_fabOff _ d.val))
            · split <;> simp
          split
          · exact (h₁.trans h₂.off).setDom hd _
          · exact h₁.trans h₂.off

theorem keeps_drainComplete (e : Engine) (s : State) : Keeps s (execDrainComplete e s) := by
  refine keeps_done (Kept.off ?_)
  split
  · extract_lets goal t loads u
    have ht : Kept s t := by simp [t]
    have hu : Kept t u := by
      dsimp only [u]
      split <;> simp
    clear_value goal
    refine ht.trans ?_
    split
    · cases e <;> simp
    · simp
    · refine hu.trans ?_
      split <;> simp
  · simp

end Sys2Proof.Proofs
end

section
/-! SUPPORT. R86, second part: resets, start-up, sections and reloads. -/

namespace Sys2Proof.Proofs
open Sys2Proof Sys2Proof.Machine Sys2Proof.Laws

/-! ### Resets (R61, R79, R80) -/

/-- After reset no domain but D0 is other than OFF. -/
theorem fusedOff_of_init {s : State} (h : s.power.doms = Power.init.doms) : FusedOff s := by
  intro d hd
  have hne : 0 ≠ d := by have := domFused_cases hd; omega
  rw [State.dom, h, Power.init, Vector.getElem?_set_ne _ hne, Vector.getElem?_replicate]
  split <;> rfl

theorem fuses_lose (s : State) (keep : Nat → Bool) : (s.lose keep).fuses = s.fuses := by
  unfold State.lose
  dsimp only
  split <;> simp

theorem doms_lose (s : State) (keep : Nat → Bool) : (s.lose keep).power.doms = Power.init.doms := by
  unfold State.lose
  dsimp only
  split <;> simp

theorem offKept_lose (s : State) (keep : Nat → Bool) : OffKept s (s.lose keep) :=
  ⟨variant_of_fuses (fuses_lose s keep), fun _ => fusedOff_of_init (doms_lose s keep)⟩

theorem offKept_loseAllButD0 (s : State) : OffKept s s.loseAllButD0 := by
  refine (offKept_lose s inD0).trans (Kept.off ?_)
  simp [State.loseAllButD0]

theorem offKept_loseAllButKeep (s : State) : OffKept s s.loseAllButKeep := by
  refine (offKept_lose s inAonKeep).trans (Kept.off ?_)
  simp [State.loseAllButKeep]

theorem keeps_resetAssert (s : State) : Keeps s (execResetAssert s) := by
  refine keeps_doneReset (.trans (Kept.off ?_) (offKept_loseAllButKeep _))
  exact ⟨rfl, rfl⟩

theorem keeps_pgoodFall (s : State) : Keeps s (execPgoodFall s) := by
  refine keeps_doneReset ?_
  split
  · refine .trans (t := { s with balls := { s.balls with pgood := false } }) (Kept.off ⟨rfl, rfl⟩) ?_
    dsimp only
    split
    · refine .trans (offKept_loseAllButD0 _) (Kept.off ?_)
      simp
    · exact .refl _
  · exact .refl s

theorem keeps_resetRelease (s : State) : Keeps s (execResetRelease s) := by
  refine keeps_doneReset (Kept.off ?_)
  split <;> simp

theorem keeps_d0LeavesReset (s : State) : Keeps s (execD0LeavesReset s) := by
  refine keeps_doneReset (Kept.off ?_)
  split <;> simp

theorem keeps_powerOnReset (s : State) : Keeps s (execPowerOnReset s) :=
  keeps_doneReset ⟨variant_of_fuses (fuses_lose s _), fun _ => fusedOff_of_init rfl⟩

theorem keeps_powerOnResetRelease (s : State) : Keeps s (execPowerOnResetRelease s) := by
  refine keeps_doneReset ?_
  split
  · exact .refl s
  · refine OffKept.trans ?_ (kept_wr _ _ _).off
    exact .of_eq (variant_of_fuses rfl) rfl

theorem keeps_railMonitorTrip (rail : Fin 6) (s : State) : Keeps s (execRailMonitorTrip rail s) := by
  refine keeps_doneReset ?_
  split
  · exact .refl s
  · extract_lets t
    have ht : OffKept s t := by
      dsimp only [t]
      split
      · exact .refl s
      · exact offKept_loseAllButD0 s
    refine (ht.trans ?_).trans (kept_wrB _ _ _).off
    exact .of_eq (variant_of_fuses rfl) rfl

theorem keeps_railRecovery (s : State) : Keeps s (execRailRecovery s) := by
  refine keeps_doneReset ?_
  split
  · refine .trans (t := { s with power := { s.power with railTrip := false } }) (.of_eq (variant_of_fuses rfl) rfl) ?_
    dsimp only
    split
    · exact (kept_release _).off
    · exact .refl _
  · exact .refl s

theorem keeps_tripDomainsOff (s : State) : Keeps s (execTripDomainsOff s) := by
  refine keeps_doneReset ?_
  split
  · exact .refl s
  · refine .trans (offKept_loseAllButD0 s) (Kept.off ?_)
    simp

theorem keeps_warmRestart (s : State) : Keeps s (execWarmRestart s) := by
  refine keeps_doneReset (Kept.off ?_)
  dsimp only
  repeat' split
  all_goals simp

/-! ### Start-up and sections (R85, R111) -/

theorem keeps_bootSequencerStart (s : State) : Keeps s (execBootSequencerStart s) := by
  refine keeps_done ?_
  split
  · exact .refl s
  · have h : OffKept s ([1, 4, 3, 2, 22].foldl (fun t d => t.setDom d ⟨.on, none⟩) s) :=
      (OffKept.refl s).foldl_setDom _ (fun _ _ => ⟨.on, none⟩) fun d hd => by
        refine domFused_eq_false s ?_
        simp only [List.mem_cons, List.not_mem_nil, or_false] at hd
        omega
    refine h.trans (Kept.off ?_)
    dsimp only
    split <;> simp

theorem offKept_domsOn (s : State) (ds : List Nat) : OffKept s (s.domsOn ds) := by
  refine OffKept.foldl (fun t d => ?_) _ _
  split
  · exact .refl t
  · next h => exact (OffKept.refl t).setDom (fun _ => by simpa using h) _

theorem offKept_sectionUp (s : State) (t u : Nat) : OffKept s (s.sectionUp t u) := by
  refine (offKept_domsOn s (s.sectionDomains t u)).trans (Kept.off ?_)
  unfold State.sectionUp
  generalize s.domsOn (s.sectionDomains t u) = v
  dsimp only
  split <;> simp

theorem offKept_headUp (s : State) (h : Nat) : OffKept s (s.headUp h) := by
  refine (offKept_domsOn s (s.sectionDomains 0x10 h)).trans (Kept.off ?_)
  simp [State.headUp]

theorem offKept_imagingApply {s t : State} {r : SecRec} {c : List Byte} {failed : List Engine}
    (h : s.imagingApply r c failed = some t) : OffKept s t := by
  unfold State.imagingApply at h
  split at h
  · split at h
    · cases h
    · split at h
      · cases h
      · split at h
        · exact (kept_loadMaps _ _ _ _ h).off
        · exact (kept_loadCal _ _ _ _ _ h).off
  · split at h
    · cases h
    · split at h
      · cases h
      · next v hv =>
        have hv := (kept_loadSection _ _ _ _ _ hv).off
        split at h <;> cases h
        · exact hv
        · exact hv.trans (offKept_sectionUp v _ _)

/-- An imaging section that is found is applied, or fails. -/
theorem offKept_imagingSection (src : ImgSrc) (acc : State × List Engine) (x : Nat × SecRec) :
    OffKept acc.1 (State.imagingSection src acc x).1 := by
  obtain ⟨s, failed⟩ := acc
  unfold State.imagingSection
  dsimp -zeta only
  extract_lets r fail use
  have hfail (t : State) : OffKept t (fail t).1 := (kept_sectionDown t _ _).off
  have huse (t : State) (o : ImgSrc) (c : List Byte) : OffKept t (use t o c).1 := by
    dsimp only [use]
    split
    · next u hu => exact (offKept_imagingApply hu).trans (kept_recordSource u _ _ _).off
    · exact (kept_setReason t _ _ _).off.trans (hfail _)
  split
  · exact huse s _ _
  · extract_lets t
    have ht : OffKept s t := (kept_setReason s _ _ _).off
    refine ht.trans ?_
    split
    · exact huse t _ _
    · exact hfail t

theorem offKept_foldl_imagingSection (src : ImgSrc) (l : List (Nat × SecRec)) (acc : State × List Engine) :
    OffKept acc.1 (l.foldl (State.imagingSection src) acc).1 := by
  induction l generalizing acc with
  | nil => exact .refl _
  | cons x l ih => exact (offKept_imagingSection src acc x).trans (ih _)

theorem offKept_imagingStage (s : State) (src : ImgSrc) (h : Header) : OffKept s (s.imagingStage src h) := by
  unfold State.imagingStage
  extract_lets profs s₁ rest s₂ _ s₃ s₄
  have h₁ : OffKept s s₁ := OffKept.foldl (fun t x => by
    split
    · next u hu =>
      exact (kept_loadSection _ _ _ _ _ hu).off.trans ((offKept_headUp u _).trans (kept_recordSource _ _ _ _).off)
    · exact .refl t) _ _
  have h₂ : OffKept s₁ s₂ := offKept_foldl_imagingSection src _ (s₁, [])
  have h₄ : Kept s₂ s₄ := by simp [s₄, s₃]
  exact (h₁.trans h₂).trans (h₄.trans (by simp)).off

theorem keeps_imagingStage (s : State) : Keeps s (execImagingStage s) := by
  refine keeps_done ?_
  split
  · exact .refl s
  · split
    · next src h _ =>
      split
      · exact .refl s
      · refine (offKept_imagingStage s src h).trans (Kept.off ?_)
        dsimp only
        split <;> simp
    · exact .refl s

theorem kept_boot (s : State) (b : BootState) : Kept s { s with boot := b } := ⟨rfl, rfl⟩

theorem offKept_controlStage (s : State) (src : ImgSrc) (h : Header) : OffKept s (s.controlStage src h) := by
  unfold State.controlStage
  extract_lets secs whole ctl s₁ s₂ s₃ s₄ tk c s₅ srcs _ s₆ s₇ s₈
  have h₁ : Kept s s₁ := by
    dsimp only [s₁]
    split
    · next u hu => exact kept_applySecs _ _ _ hu
    · exact ⟨rfl, rfl⟩
  have h₄ : Kept s₁ s₄ := by simp [s₄, s₃, s₂]
  have h₅ : Kept s₄ s₅ := (kept_wr _ _ _).trans (kept_wr _ _ _)
  have h₆ : Kept s₅ s₆ := kept_boot s₅ _
  have h₇ : OffKept s₆ s₇ := OffKept.foldl (fun t x => offKept_sectionUp t _ _) _ _
  have h₈ : Kept s₇ s₈ := ((kept_wr _ _ _).trans (kept_wr _ _ _)).trans (kept_wrB _ _ _)
  exact (((h₁.trans h₄).trans (h₅.trans h₆)).off.trans h₇).trans (h₈.trans (kept_setStage _ _)).off

theorem keeps_controlStage (s : State) : Keeps s (execControlStage s) := by
  refine keeps_done ?_
  split
  · exact .refl s
  · split
    · exact .refl s
    · split
      · exact offKept_controlStage s _ _
      · exact .refl s

theorem offKept_reloadUp (s : State) (t u : Nat) : OffKept s (s.reloadUp t u) := by
  unfold State.reloadUp
  extract_lets s₁ s₂ s₃ s₄ s₅ e s₆ h e' s₇
  have h₂ : Kept s s₂ := by
    dsimp only [s₂, s₁]
    split <;> simp
  have h₄ : Kept s₂ s₄ := by
    dsimp only [s₄, s₃]
    split <;> simp
  have hs : OffKept s s₄ := (h₂.trans h₄).off
  have h₅ : Kept s₄ s₅ := by simp [s₅]
  have h₆ : OffKept s₄ s₆ := h₅.off.trans (by
    dsimp only [s₆]
    split
    · exact offKept_domsOn s₅ _
    · exact .refl s₅)
  have h₇ : OffKept s₄ s₇ := (kept_seedHead s₄ h).off
  clear_value s₆ s₇
  refine hs.trans ?_
  split
  · refine h₆.trans (Kept.off ?_)
    split <;> simp
  · refine h₇.trans (Kept.off ?_)
    split <;> simp
  · refine h₇.trans (Kept.off ?_)
    split <;> simp
  · exact (offKept_domsOn s₄ _).trans ((kept_actLoad _).trans (kept_engineUp _ _)).off
  · exact offKept_sectionUp s₄ t u

theorem keeps_reloadLoadDone (ok : Bool) (s : State) : Keeps s (execReloadLoadDone ok s) := by
  refine keeps_done ?_
  split
  · exact .refl s
  · next t u src _ =>
    split
    · exact .refl s
    · extract_lets up _ fail
      have hup (v : State) : OffKept v (up v) := by
        refine (offKept_reloadUp v t u).trans (Kept.off ?_)
        dsimp only [up]
        split <;> simp
      have hfail (r : Nat) : OffKept s (fail r) := Kept.off (by simp [fail])
      split
      · exact (kept_reloadRestore s t u).off.trans (hup _)
      · split
        · next v hv => exact (kept_reloadWrite _ _ _ _ _ hv).off.trans (hup v)
        · exact hfail _
        · exact hfail _

end Sys2Proof.Proofs
end

section
/-! SUPPORT. R86, third part: commands whose footprint holds the domains, and every way by which a write reaches one. -/

namespace Sys2Proof.Proofs
open Sys2Proof Sys2Proof.Machine Sys2Proof.Laws

/-! ### Sensor ports -/

theorem keeps_burstStart (s : State) : Keeps s (execBurstStart s) := by
  refine keeps_done (Kept.off ?_)
  dsimp only
  repeat' split
  all_goals simp

theorem keeps_burstEnd (uecc : List Nat) (cecc : Nat) (s : State) : Keeps s (execBurstEnd uecc cecc s) := by
  refine keeps_done (Kept.off ?_)
  split <;> simp

theorem keeps_frameStart (h vc : Fin 4) (t : Nat) (s : State) : Keeps s (execFrameStart h vc t s) := by
  refine keeps_done ?_
  split
  · exact .refl s
  · split
    · exact (kept_discard _ _ _).off
    · extract_lets x s₁ s₂ x' s₃ rx
      have h₁ : Kept s s₁ := by
        dsimp only [s₁]
        split <;> simp
      have h₂ : OffKept s₁ s₂ := offKept_frameClose s₁ _ _ _
      refine (h₁.off.trans h₂).trans (Kept.off ?_)
      split
      · simp
      · exact .trans (t := s₃) (kept_ringFit s₂ _) (kept_setHead s₃ _ _)

theorem keeps_imageLine (h vc : Fin 4) (raw16 : Bool) (px : List (BitVec 16)) (eccFixed crcOk : Bool) (s : State) :
    Keeps s (execImageLine h vc raw16 px eccFixed crcOk s) := by
  refine keeps_done (Kept.off ?_)
  dsimp only
  repeat' split
  all_goals simp

theorem keeps_telemetryPacket (h vc : Fin 4) (dt : Nat) (bytes : List Byte) (crcOk : Bool) (s : State) :
    Keeps s (execTelemetryPacket h vc dt bytes crcOk s) :=
  keeps_done (Kept.off (by simp))

theorem keeps_packetDiscard (h : Fin 4) (crcOk : Bool) (s : State) : Keeps s (execPacketDiscard h crcOk s) :=
  keeps_done (Kept.off (by simp))

theorem keeps_headerEccError (h : Fin 4) (corrected image : Bool) (s : State) :
    Keeps s (execHeaderEccError h corrected image s) :=
  keeps_done (Kept.off (by simp))

theorem keeps_frameEnd (h vc : Fin 4) (t : Nat) (s : State) : Keeps s (execFrameEnd h vc t s) := by
  refine keeps_done ?_
  have hp : OffKept s (s.portTrim h.val) := (kept_portTrim s _).off
  split
  · exact .refl s
  · split
    · exact (kept_discard _ _ _).off
    · split
      · exact hp.trans (kept_setHead _ _ _).off
      · exact hp.trans (offKept_frameClose _ _ _ _)

theorem keeps_frameEndTimeout (h : Fin 4) (s : State) : Keeps s (execFrameEndTimeout h s) :=
  keeps_done (offKept_frameClose _ _ _ _)

theorem keeps_negotiationStart (h : Fin 4) (s : State) : Keeps s (execNegotiationStart h s) :=
  keeps_done (Kept.off (by simp))

theorem keeps_hrstRelease (h : Fin 4) (s : State) : Keeps s (execHrstRelease h s) :=
  keeps_done (Kept.off (by simp))

theorem keeps_hrstwaitExpiry (h : Fin 4) (s : State) : Keeps s (execHrstwaitExpiry h s) :=
  keeps_done (Kept.off (by simp))

theorem keeps_descriptorReadDone (h : Fin 4) (bytes : List Byte) (reads : List (BitVec 16)) (s : State) :
    Keeps s (execDescriptorReadDone h bytes reads s) := by
  refine keeps_done (Kept.off ?_)
  split
  · exact ⟨rfl, rfl⟩
  · extract_lets n s₁ d s₂ s₃
    have h₂ : Kept s s₂ := ((kept_pspFinish _ _).trans (kept_sendHead _ _ _)).trans (kept_wr _ _ _)
    have h₃ : Kept s₂ s₃ := by
      clear_value d
      dsimp only [s₃]
      split
      · exact (kept_copyDesc _ _ _).trans (kept_pspOwn _ _ _)
      · exact kept_pspOwn _ _ _
    clear_value s₃ s₂ d
    refine h₂.trans ?_
    split
    · exact ((kept_wr _ _ _).trans (kept_wr _ _ _)).trans (kept_portDown _ _)
    · extract_lets s₄ s₅ p s₆
      have h₄ : Kept s₃ s₄ := ((kept_wr _ _ _).trans (kept_wr _ _ _)).trans (kept_wr _ _ _)
      have h₅ : Kept s₄ s₅ := by
        dsimp only [s₅]
        split
        · exact ⟨rfl, rfl⟩
        · exact (kept_wr _ _ _).trans (kept_curSync _ _)
      have h₆ : Kept s₅ s₆ := kept_sendHead _ _ _
      refine ((h₃.trans h₄).trans (h₅.trans h₆)).trans ?_
      split
      · exact kept_setHead _ _ _
      · exact kept_attemptFailed _ _ _ _

theorem keeps_negotiationFsTimeout (h : Fin 4) (s : State) : Keeps s (execNegotiationFsTimeout h s) :=
  keeps_done (Kept.off (by simp))

theorem keeps_headCommit (h : Fin 4) (t : Nat) (s : State) : Keeps s (execHeadCommit h t s) := by
  refine keeps_done (Kept.off ?_)
  split
  · simp
  · split
    · simp
    · extract_lets n i target v modify inForce s₁ open'
      have h₁ : Kept s s₁ := by
        dsimp only [s₁]
        split <;> simp
      have h₂ : Kept s₁ (if open' then s₁.windowTime t else (true, s₁)).2 := by split <;> simp
      generalize (if open' then s₁.windowTime t else (true, s₁)) = p at h₂ ⊢
      obtain ⟨fits, s₂⟩ := p
      dsimp -zeta only
      extract_lets usable first ready c late st s₃ s₄
      have h₄ : Kept s₂ s₄ := (((kept_setHead _ _ _).trans (kept_wr _ _ _))).trans (kept_answer s₃ _ _ _ _)
      refine ((h₁.trans h₂).trans h₄).trans ?_
      split
      · exact kept_irq _ _
      · exact ⟨rfl, rfl⟩

theorem keeps_headCancel (h : Fin 4) (s : State) : Keeps s (execHeadCancel h s) :=
  keeps_done (Kept.off (by simp))

theorem keeps_settingProgramStart (h : Fin 4) (s : State) : Keeps s (execSettingProgramStart h s) := by
  refine keeps_done (Kept.off ?_)
  dsimp only
  repeat' split
  all_goals simp

theorem keeps_settingProgramDone (h : Fin 4) (reads : List (BitVec 16)) (s : State) :
    Keeps s (execSettingProgramDone h reads s) := by
  refine keeps_done (Kept.off ?_)
  dsimp only
  repeat' split
  all_goals simp

theorem keeps_headSetWrite (h : Fin 4) (off : Nat) (v : Word) (s : State) : Keeps s (execHeadSetWrite h off v s) :=
  keeps_done (Kept.off (by simp))

/-! ### Edges, SERVICE -/

theorem keeps_stEdge (s : State) : Keeps s (execStEdge s) := by
  refine keeps_doneHeld (Kept.off ?_)
  dsimp only
  repeat' split
  all_goals simp

theorem keeps_ftEdge (s : State) : Keeps s (execFtEdge s) := by
  refine keeps_doneHeld (Kept.off ?_)
  dsimp only
  repeat' split
  all_goals simp

theorem keeps_serviceEnter (s : State) : Keeps s (execServiceEnter s) := keeps_done (kept_serviceCmd s true).off

theorem keeps_serviceLeave (s : State) : Keeps s (execServiceLeave s) := keeps_done (kept_serviceCmd s false).off

/-! ### Start-up and reloads -/

theorem keeps_strapSampling (x : Vector (BitVec 4) 8) (s : State) : Keeps s (execStrapSampling x s) :=
  keeps_done (Kept.off (by simp))

theorem keeps_flashNegotiation (c0 c1 : Sfdp) (s : State) : Keeps s (execFlashNegotiation c0 c1 s) :=
  keeps_done (Kept.off (by simp))

theorem keeps_copySelection (s : State) : Keeps s (execCopySelection s) := by
  refine keeps_done (Kept.off ?_)
  repeat' split
  all_goals simp

theorem keeps_copyVerify (s : State) : Keeps s (execCopyVerify s) := by
  refine keeps_done (Kept.off ?_)
  repeat' split
  all_goals simp

theorem keeps_planRead (b0 b1 : BusTables) (s : State) : Keeps s (execPlanRead b0 b1 s) := by
  refine keeps_done (Kept.off ?_)
  repeat' split
  all_goals simp

theorem keeps_reloadStart (s : State) : Keeps s (execReloadStart s) :=
  keeps_done (Kept.off (by simp))

theorem keeps_reloadChecksDone (b : BusTables) (s : State) : Keeps s (execReloadChecksDone b s) := by
  refine keeps_done (Kept.off ?_)
  dsimp only
  repeat' split
  all_goals simp

theorem keeps_clusterReloadDrain (s : State) : Keeps s (execClusterReloadDrain s) := by
  refine keeps_done (Kept.off ?_)
  split <;> simp

theorem keeps_clusterReturn (s : State) : Keeps s (execClusterReturn s) := by
  refine keeps_done (Kept.off ?_)
  dsimp only
  repeat' split
  all_goals simp

theorem keeps_hostBegin (s : State) : Keeps s (execHostBegin s) :=
  keeps_done (Kept.off (by simp))

theorem keeps_hostCancel (s : State) : Keeps s (execHostCancel s) :=
  keeps_done (Kept.off (by simp))

theorem keeps_hostStreamWrite (v : Word) (s : State) : Keeps s (execHostStreamWrite v s) :=
  keeps_done (Kept.off (by simp))

theorem keeps_hostStreamTimeout (s : State) : Keeps s (execHostStreamTimeout s) :=
  keeps_done (Kept.off (by simp))

/-! ### Writes of the host (R52) -/

theorem kept_after {f : Footprint} (s u : State) (hp : f.has .power = false) (hf : f.has .fuses = false) :
    Kept s (s.after (done f s u)) := kept_done s u hp hf

theorem offKept_of_some {s t : State} {o : Host.Outcome State Fault Refusal} (h : some (s.after o) = some t)
    (k : Keeps s o) : OffKept s t := by
  cases h
  exact offKept_after k

/-- A command without domains and fuses, reached from a register. -/
theorem offKept_of_some_apart {f : Footprint} {s t u : State} (h : some (s.after (done f s u)) = some t)
    (hp : f.has .power = false) (hf : f.has .fuses = false) : OffKept s t := offKept_of_some h (keeps_apart hp hf)

theorem offKept_flushWrite (s : State) (v : Word) : OffKept s (s.flushWrite v) := by
  refine OffKept.trans (t := s.freeN.2) (kept_freeN s).off (offKept_after (keeps_apart ?_ ?_)) <;> rfl

theorem offKept_commitWrite (s : State) (h : Fin 4) : OffKept s (s.commitWrite h) :=
  OffKept.trans (t := s.freeN.2) (kept_freeN s).off (offKept_after (keeps_headCommit _ _ _))

theorem offKept_hdataWrite (s : State) (off : Nat) (v : Word) : OffKept s (s.hdataWrite off v) :=
  (offKept_after (keeps_hostStreamWrite v s)).trans (kept_result _ _ _ _).off

theorem offKept_routeSystem {s t : State} {b : Blk} {off : Nat} {v : Word} (h : s.routeSystem b off v = some t) :
    OffKept s t := by
  unfold State.routeSystem at h
  extract_lets c at h
  clear_value c
  split at h
  · exact offKept_of_some_apart h rfl rfl
  · exact offKept_of_some_apart h rfl rfl
  · exact offKept_of_some_apart h rfl rfl
  · split at h
    · exact offKept_of_some h (keeps_domainOn s)
    · exact offKept_of_some h (keeps_domainRet s)
    · exact offKept_of_some h (keeps_domainOff s)
    · cases h
  · exact offKept_of_some_apart (Option.ite_none_right_eq_some.mp h).2 rfl rfl
  · exact offKept_of_some (Option.ite_none_right_eq_some.mp h).2 (keeps_reloadStart s)
  · split at h
    · exact offKept_of_some h (keeps_hostBegin s)
    · exact offKept_of_some h (keeps_hostCancel s)
    · cases h
  · exact offKept_of_some_apart h rfl rfl
  · obtain ⟨-, h⟩ := Option.ite_none_right_eq_some.mp h
    cases h
    exact offKept_hdataWrite s _ v
  · split at h
    · exact offKept_of_some_apart h rfl rfl
    · exact offKept_of_some_apart h rfl rfl
    · exact offKept_of_some_apart h rfl rfl
    · cases h
  · exact offKept_of_some_apart (Option.ite_none_right_eq_some.mp h).2 rfl rfl
  · cases h

theorem offKept_routeService {s t : State} {b : Blk} {off : Nat} {v : Word} (h : s.routeService b off v = some t) :
    OffKept s t := by
  unfold State.routeService at h
  extract_lets c at h
  clear_value c
  split at h
  · split at h
    · cases h
      exact (kept_withOperands _ _ _ _ _ fun t => kept_after t _ rfl rfl).off
    · cases h
      exact (kept_withOperands _ _ _ _ _ fun t => kept_after t _ rfl rfl).off
    · cases h
  · exact offKept_of_some_apart (Option.ite_none_right_eq_some.mp h).2 rfl rfl
  · split at h
    · exact offKept_of_some h (keeps_serviceEnter s)
    · exact offKept_of_some h (keeps_serviceLeave s)
    · cases h
  · exact offKept_of_some_apart (Option.ite_none_right_eq_some.mp h).2 rfl rfl
  · split at h
    · exact offKept_of_some_apart h rfl rfl
    · exact offKept_of_some_apart h rfl rfl
    · exact offKept_of_some_apart h rfl rfl
    · cases h
  · exact offKept_of_some_apart (Option.ite_none_right_eq_some.mp h).2 rfl rfl
  · exact offKept_of_some_apart h rfl rfl
  · exact offKept_of_some_apart h rfl rfl
  · exact offKept_of_some_apart (Option.ite_none_right_eq_some.mp h).2 rfl rfl
  · exact offKept_of_some_apart h rfl rfl
  · exact offKept_of_some_apart h rfl rfl
  · exact offKept_of_some_apart h rfl rfl
  · cases h

theorem offKept_routeImaging {s t : State} {b : Blk} {off : Nat} {v : Word} (h : s.routeImaging b off v = some t) :
    OffKept s t := by
  unfold State.routeImaging at h
  extract_lets c at h
  clear_value c
  split at h
  · split at h
    · exact offKept_of_some h (keeps_headSetWrite _ _ v s)
    · split at h
      · cases h
        exact offKept_commitWrite s _
      · exact offKept_of_some (Option.ite_none_right_eq_some.mp h).2 (keeps_headCancel _ s)
  · exact offKept_of_some_apart (Option.ite_none_right_eq_some.mp h).2 rfl rfl
  · split at h
    · exact offKept_of_some_apart h rfl rfl
    · exact offKept_of_some_apart (Option.ite_none_right_eq_some.mp h).2 rfl rfl
  · exact offKept_of_some_apart (Option.ite_none_right_eq_some.mp h).2 rfl rfl
  · split at h
    · exact offKept_of_some_apart h rfl rfl
    · split at h
      · exact offKept_of_some_apart h rfl rfl
      · exact offKept_of_some_apart (Option.ite_none_right_eq_some.mp h).2 rfl rfl
  · split at h
    · cases h
      exact (kept_withOperands _ _ _ _ _ fun t => kept_after t _ rfl rfl).off
    · split at h
      · cases h
        exact offKept_flushWrite s v
      · split at h
        · exact offKept_of_some_apart h rfl rfl
        · exact offKept_of_some_apart (Option.ite_none_right_eq_some.mp h).2 rfl rfl
  · cases h

theorem offKept_routeControl {s t : State} {b : Blk} {off : Nat} {v : Word} (h : s.routeControl b off v = some t) :
    OffKept s t := by
  unfold State.routeControl at h
  extract_lets c at h
  clear_value c
  split at h
  · split at h
    · exact offKept_of_some_apart h rfl rfl
    · exact offKept_of_some_apart h rfl rfl
    · exact offKept_of_some_apart h rfl rfl
    · exact offKept_of_some_apart h rfl rfl
    · exact offKept_of_some_apart h rfl rfl
    · cases h
  · split at h
    · exact offKept_of_some_apart h rfl rfl
    · exact offKept_of_some_apart h rfl rfl
    · cases h
  · exact offKept_of_some_apart h rfl rfl
  · obtain ⟨-, h⟩ := Option.ite_none_left_eq_some.mp h
    split at h
    · exact offKept_of_some_apart h rfl rfl
    · exact offKept_of_some_apart h rfl rfl
    · exact offKept_of_some_apart h rfl rfl
    · cases h
  · exact offKept_of_some_apart (Option.ite_none_right_eq_some.mp h).2 rfl rfl
  · obtain ⟨-, h⟩ := Option.ite_none_left_eq_some.mp h
    split at h
    · exact offKept_of_some_apart h rfl rfl
    · exact offKept_of_some_apart h rfl rfl
    · exact offKept_of_some_apart h rfl rfl
    · cases h
  · exact offKept_of_some_apart (Option.ite_none_right_eq_some.mp h).2 rfl rfl
  · exact offKept_of_some_apart (Option.ite_none_right_eq_some.mp h).2 rfl rfl
  · cases h

theorem offKept_route {s t : State} {b : Blk} {off : Nat} {v : Word} (h : s.route b off v = some t) : OffKept s t := by
  unfold State.route at h
  split at h
  any_goals exact offKept_routeSystem h
  any_goals exact offKept_routeService h
  any_goals exact offKept_routeImaging h
  any_goals exact offKept_routeControl h
  cases h

theorem offKept_regWrite (s : State) (b : Blk) (key off : Nat) (v : Word) : OffKept s (s.regWrite b key off v) := by
  unfold State.regWrite
  split
  · exact (kept_unlockWrite s b _).off
  · split
    · exact (kept_plainWrite s b key off _).off
    · split
      · next h => exact offKept_route h
      · exact (kept_plainWritten s b key off _).off

theorem offKept_hostWrite (s : State) (a : Nat) (v : Word) : OffKept s (s.hostWrite a v) := by
  rw [State.hostWrite]
  split
  · exact .refl s
  · split
    · exact (kept_writeWin s a v).off
    · split
      · exact offKept_after (keeps_apart rfl rfl)
      · split
        · exact .refl s
        · exact offKept_regWrite s _ _ _ v

theorem keeps_registerWrite (a : BitVec 16) (v : Word) (s : State) : Keeps s (execRegisterWrite a v s) :=
  keeps_done (offKept_hostWrite s a.toNat v)

theorem offKept_hspWord (s : State) (a : Nat) (past : Bool) (v : Word) : OffKept s (s.hspWord a past v) := by
  unfold State.hspWord
  split
  · exact (kept_wr s _ _).off
  · split
    · exact (kept_wr s _ _).off
    · exact (offKept_hostWrite s a v).trans (kept_wr _ _ _).off

theorem keeps_hspWriteFrame (frame : BitVec 24) (s : State) : Keeps s (execHspWriteFrame frame s) := by
  refine keeps_done ?_
  split
  · unfold State.hspWrite
    split
    · refine .trans ?_ (kept_setXfer _ _).off
      split
      · exact ((kept_bump s _).trans (kept_wr _ _ _)).off
      · exact offKept_hspWord s _ _ _
    · exact .refl s
  · exact .refl s

theorem keeps_hspSelectRise (k : Fin 24) (bits : BitVec 24) (s : State) : Keeps s (execHspSelectRise k bits s) := by
  refine keeps_done ?_
  split
  · unfold State.selectRise
    extract_lets t
    have ht : OffKept s t := by
      dsimp only [t]
      split
      · exact (kept_bump s _).off
      · split
        · exact .refl s
        · exact (offKept_hspWord s _ _ _).trans (kept_bump _ _).off
      · exact .refl s
      · exact .refl s
    exact ht.trans (Kept.off ⟨rfl, rfl⟩)
  · exact .refl s

/-! ### The console (R387, R388) -/

theorem offKept_conRun (s : State) (c : ConCmd) : OffKept s (s.conRun c) := by
  have hsay (t : State) (l : List ConLine) (st : Nat) : OffKept t (t.say l st) := (kept_say t l st).off
  cases c with
  | rd a n =>
    unfold State.conRun
    dsimp only
    split
    · exact hsay _ _ _
    · exact ((kept_conReads n s false a).trans (kept_say _ _ _)).off
  | wr a v =>
    unfold State.conRun
    dsimp only
    split
    · exact hsay _ _ _
    · split
      · exact hsay _ _ _
      · exact (offKept_hostWrite s a _).trans (hsay _ _ _)
  | _ => exact Kept.off (by simp [State.conRun])

theorem keeps_conDo (s : State) (c : ConCmd) : Keeps s (conDo s c) := by
  refine keeps_done ?_
  split
  · exact offKept_conRun s c
  · exact .refl s

theorem keeps_factory (s : State) : Keeps s s.factory := by
  unfold State.factory
  split
  · exact keeps_done (.refl s)
  · split
    · exact keeps_done (kept_say _ _ _).off
    · split
      · exact keeps_done (kept_say _ _ _).off
      · intro t h
        cases h

end Sys2Proof.Proofs
end

section
/-! PROOFS. R86 (family 04_power_clocks): LOCK, the invariant of every step, PWR_DSTAT. -/

namespace Sys2Proof.Proofs
open Sys2Proof Sys2Proof.Machine Sys2Proof.Laws

/-! ### LOCK (R392): the bits that it programs lie above the variant's code -/

theorem mem_fuseInsert (b x : Nat) (l : List Nat) : x ∈ fuseInsert b l ↔ x = b ∨ x ∈ l := by
  induction l with
  | nil => simp [fuseInsert]
  | cons y l ih =>
    unfold fuseInsert
    split
    · simp
    · split
      · next h => simp [h]
      · rw [List.mem_cons, List.mem_cons, ih, or_left_comm]

theorem mem_fuseProgram (x : Nat) (bits l : List Nat) : x ∈ fuseProgram l bits ↔ x ∈ l ∨ x ∈ bits := by
  unfold fuseProgram
  induction bits generalizing l with
  | nil => simp
  | cons b bits ih =>
    rw [List.foldl_cons, ih, mem_fuseInsert, List.mem_cons, or_comm (a := x = b), or_assoc]

/-- Bits that lie above a field leave it. -/
theorem fuseNum_fuseProgram {bits : List Nat} (l : List Nat) {lo n : Nat} (h : ∀ b ∈ bits, lo + n ≤ b) :
    fuseNum (fuseProgram l bits) lo n = fuseNum l lo n := by
  induction n generalizing lo with
  | zero => rfl
  | succ n ih =>
    have hm : memNat lo (fuseProgram l bits) = memNat lo l := by
      rw [Bool.eq_iff_iff, memNat_iff, memNat_iff, mem_fuseProgram, or_iff_left]
      exact fun hb => by have := h lo hb; omega
    rw [fuseNum, fuseNum, hm, ih fun b hb => by have := h b hb; omega]

theorem offKept_burn (s : State) {bits : List Nat} (readBack : Bool) (h : ∀ b ∈ bits, 8 ≤ b) :
    OffKept s (s.burn bits readBack) := by
  have hv {t : State} {bs : List Nat} (hb : ∀ b ∈ bs, 8 ≤ b) (ht : t.fuses = fuseProgram s.fuses bs) :
      t.variant = s.variant := by
    unfold State.variant State.fuseField
    rw [ht, fuseNum_fuseProgram s.fuses hb]
  refine .of_eq ?_ (congrArg Power.doms (power_burn s bits readBack))
  unfold State.burn
  split
  · exact hv h rfl
  · exact hv (fun b hb => h b (List.mem_filter.mp hb).1) rfl

theorem offKept_lockField (s : State) {lo : Nat} (readBack : Bool) (h : 8 ≤ lo) : OffKept s (s.lockField lo readBack) := by
  unfold State.lockField
  dsimp only
  split
  · exact (kept_lockAnswer _ _).off
  · refine (offKept_burn s readBack fun b hb => ?_).trans (kept_lockAnswer _ _).off
    simp only [List.mem_cons, List.not_mem_nil, or_false] at hb
    omega

theorem le_of_mem_hashBits {hash : BitVec 256} {b : Nat} (h : b ∈ hashBits hash) : 32 ≤ b := by
  simp only [hashBits, List.mem_flatten, List.mem_map] at h
  obtain ⟨_, ⟨j, -, rfl⟩, h⟩ := h
  obtain ⟨i, -, hi⟩ := List.mem_filterMap.mp h
  obtain ⟨-, hb⟩ := Option.ite_none_right_eq_some.mp hi
  cases hb
  omega

theorem offKept_lockKey (s : State) (hash : BitVec 256) (readBack : Bool) : OffKept s (s.lockKey hash readBack) := by
  unfold State.lockKey
  extract_lets g want t
  have ht : OffKept s t := offKept_burn s readBack fun b hb => by
    have := le_of_mem_hashBits (List.mem_filter.mp hb).1
    omega
  clear_value t
  split
  · exact (kept_lockAnswer _ _).off
  · split
    · exact (kept_lockAnswer _ _).off
    · split
      · exact (kept_lockAnswer _ _).off
      · refine ht.trans ?_
        split
        · exact (offKept_burn t true (by simp)).trans (kept_lockAnswer _ _).off
        · exact (kept_lockAnswer _ _).off

theorem keeps_lockDbg (readBack : Bool) (s : State) : Keeps s (execLockDbg readBack s) :=
  keeps_done (offKept_lockField s readBack (by omega))

theorem keeps_lockPriv (readBack : Bool) (s : State) : Keeps s (execLockPriv readBack s) :=
  keeps_done (offKept_lockField s readBack (by omega))

theorem keeps_lockKey (hash : BitVec 256) (readBack : Bool) (s : State) : Keeps s (execLockKey hash readBack s) :=
  keeps_done (offKept_lockKey s hash readBack)

/-! ### Lines of the console (R387) -/

theorem keeps_consoleLine (chars : List Byte) (s : State) : Keeps s (execConsoleLine chars s) := by
  unfold execConsoleLine
  split
  · exact keeps_done (.refl s)
  · generalize lineChars chars [] false = p
    obtain ⟨cs, long⟩ := p
    dsimp -zeta only
    extract_lets t ts
    have ht : OffKept s t := (kept_lineCounted s chars long).off
    clear_value t ts
    split
    · exact keeps_done ht
    · split
      · exact keeps_done (ht.trans (kept_say _ _ _).off)
      · exact keeps_done (ht.trans (offKept_conRun t _))
      · exact keeps_done ((ht.trans (kept_freeN t).off).trans (offKept_conRun _ _))
      · exact keeps_done ((ht.trans (kept_freeB t).off).trans (offKept_lockField _ _ (by omega)))
      · exact keeps_done ((ht.trans (kept_freeB t).off).trans (offKept_lockField _ _ (by omega)))
      · exact keeps_done ((ht.trans (kept_freeB t).off).trans (offKept_lockKey _ _ _))
      · split
        · exact keeps_done (ht.trans (kept_say _ _ _).off)
        · split
          · exact keeps_done (ht.trans (kept_say _ _ _).off)
          · intro u h
            cases h

theorem keeps_jtagFactory (code : BitVec 8) (s : State) : Keeps s (execJtagFactory code s) := by
  unfold execJtagFactory
  dsimp only
  split
  · intro t h
    cases h
  · exact keeps_apart rfl rfl

/-! ### Every command, every step -/

/-- R86: no command brings up a domain of a fused-off engine. -/
theorem keeps_exec (c : Instr) (s : State) : Keeps s (exec c s) := by
  cases c with
  | stEdge => exact keeps_stEdge s
  | ftEdge => exact keeps_ftEdge s
  | registerWrite addr v => exact keeps_registerWrite addr v s
  | serviceEnter => exact keeps_serviceEnter s
  | serviceLeave => exact keeps_serviceLeave s
  | drainComplete e => exact keeps_drainComplete e s
  | resetAssert => exact keeps_resetAssert s
  | pgoodFall => exact keeps_pgoodFall s
  | resetRelease => exact keeps_resetRelease s
  | powerOnReset => exact keeps_powerOnReset s
  | railMonitorTrip rail => exact keeps_railMonitorTrip rail s
  | railRecovery => exact keeps_railRecovery s
  | strapSampling samples => exact keeps_strapSampling samples s
  | domainOn => exact keeps_domainOn s
  | domainRet => exact keeps_domainRet s
  | domainOff => exact keeps_domainOff s
  | domainTransitionDone d => exact keeps_domainTransitionDone d s
  | peRetentionEntry => exact keeps_peRetentionEntry s
  | tripDomainsOff => exact keeps_tripDomainsOff s
  | warmRestart => exact keeps_warmRestart s
  | bootSequencerStart => exact keeps_bootSequencerStart s
  | flashNegotiation c0 c1 => exact keeps_flashNegotiation c0 c1 s
  | copySelection => exact keeps_copySelection s
  | copyVerify => exact keeps_copyVerify s
  | planRead b0 b1 => exact keeps_planRead b0 b1 s
  | controlStage => exact keeps_controlStage s
  | imagingStage => exact keeps_imagingStage s
  | hostBegin => exact keeps_hostBegin s
  | hostCancel => exact keeps_hostCancel s
  | hostStreamWrite v => exact keeps_hostStreamWrite v s
  | hostStreamTimeout => exact keeps_hostStreamTimeout s
  | reloadStart => exact keeps_reloadStart s
  | reloadChecksDone b => exact keeps_reloadChecksDone b s
  | clusterReloadDrain => exact keeps_clusterReloadDrain s
  | reloadLoadDone ok => exact keeps_reloadLoadDone ok s
  | clusterReturn => exact keeps_clusterReturn s
  | frameStart h vc t => exact keeps_frameStart h vc t s
  | imageLine h vc raw16 px eccFixed crcOk => exact keeps_imageLine h vc raw16 px eccFixed crcOk s
  | telemetryPacket h vc dt bytes crcOk => exact keeps_telemetryPacket h vc dt bytes crcOk s
  | packetDiscard h crcOk => exact keeps_packetDiscard h crcOk s
  | headerEccError h corrected image => exact keeps_headerEccError h corrected image s
  | frameEnd h vc t => exact keeps_frameEnd h vc t s
  | frameEndTimeout h => exact keeps_frameEndTimeout h s
  | negotiationStart h => exact keeps_negotiationStart h s
  | hrstRelease h => exact keeps_hrstRelease h s
  | hrstwaitExpiry h => exact keeps_hrstwaitExpiry h s
  | descriptorReadDone h bytes reads => exact keeps_descriptorReadDone h bytes reads s
  | negotiationFsTimeout h => exact keeps_negotiationFsTimeout h s
  | headCommit h t => exact keeps_headCommit h t s
  | headCancel h => exact keeps_headCancel h s
  | settingProgramStart h => exact keeps_settingProgramStart h s
  | settingProgramDone h reads => exact keeps_settingProgramDone h reads s
  | headSetWrite h off v => exact keeps_headSetWrite h off v s
  | burstStart => exact keeps_burstStart s
  | burstEnd uecc cecc => exact keeps_burstEnd uecc cecc s
  | hspWriteFrame frame => exact keeps_hspWriteFrame frame s
  | hspSelectRise k bits => exact keeps_hspSelectRise k bits s
  | consoleLine chars => exact keeps_consoleLine chars s
  | lockDbg readBack => exact keeps_lockDbg readBack s
  | lockPriv readBack => exact keeps_lockPriv readBack s
  | lockKey hash readBack => exact keeps_lockKey hash readBack s
  | jtagFactory code => exact keeps_jtagFactory code s
  | powerOnResetRelease => exact keeps_powerOnResetRelease s
  | d0LeavesReset => exact keeps_d0LeavesReset s
  | consoleId | consoleStat | consoleRd | consoleWr | consoleUl | consoleLk | consoleSvcEnter | consoleSvcLeave
  | consoleLog | consoleCnt | consoleDump | consoleBallForce | consoleBallRelease | consoleBallReleaseAll
  | consoleDacHold | consoleDacRelease | consoleVlvHold | consoleVlvOff | consoleVlvRelease | consoleFanRpm
  | consoleFanOff | consoleFanRelease | consoleAfeExcCurrent | consoleAfeExcVoltage | consoleAfeOff
  | consoleMon => exact keeps_conDo s _
  | consoleMem | consoleTrim | consoleScan | consoleFuse => exact keeps_factory s
  | liveToggle | xtalCheck | ioscTrim | xinLoss | holdoverExpiry | xinReturn | rtcSourceSelect | rtcCrystalStop
  | thermalSample | trip | windowComparatorTrip | rtcSecond => exact keeps_heldApart rfl rfl
  | _ => exact keeps_apart rfl rfl

theorem offKept_step {s t : State} (h : step s = .next t) : OffKept s t := by
  unfold step at h
  split at h
  · cases h
    exact .refl s
  · next c rest _ =>
    have hq : Kept s { s with pending := rest } := ⟨rfl, rfl⟩
    exact hq.off.trans (keeps_exec c _ t h)

/-! ### PWR_DSTAT (Table 4-9) -/

/-- PWR_DSTAT is readable once the configuration of PWR is loaded (R349). -/
theorem hostRead_dstat (s : State) (h : s.engineLoaded .pwr = true) :
    (s.hostRead false 0x0402).1.word = s.liveWord 0x402 := by
  have hb : Blk.ofAddr 0x402 = some .pwr := by decide
  have hr : (rowOf 0x402).isSome = true := by decide
  have hp : s.blkPresent .pwr = true := rfl
  have hk : s.regKey 0x402 = some (.pwr, 0x402) := by simp [State.regKey, hb, hr, hp, State.regAbsent]
  have hq : s.queueTake 0x402 = s := queueTake_of_not_head s (by omega) (by omega)
  have hc : capturedFrom 0x402 = false := by decide
  rw [State.hostRead, if_neg (by omega), if_neg (by omega), if_neg (by omega)]
  simp [State.readReg, hb, hp, hk, Blk.engine, h, hq, State.readWord, hc]

theorem liveWord_dstat (s : State) :
    s.liveWord 0x402 =
      withFields (s.rdKey (domKey (s.rd Reg.PWR_DSEL))) [(3, 3, bit (s.domFused (s.rd Reg.PWR_DSEL))),
        (2, 2, bit (s.dom (s.rd Reg.PWR_DSEL)).pend.isSome), (1, 0, (s.dom (s.rd Reg.PWR_DSEL)).st.code)] := rfl

/-- FUSED set, no transition running, state OFF. -/
theorem withFields_fused (w : Nat) :
    withFields w [(3, 3, bit true), (2, 2, bit (none : Option DomState).isSome), (1, 0, DomState.off.code)] / 8 % 2 = 1 ∧
      withFields w [(3, 3, bit true), (2, 2, bit (none : Option DomState).isSome), (1, 0, DomState.off.code)] % 8 = 0 := by
  simp only [withFields, List.foldl, bit, Option.isSome, DomState.code, putBits_eq, reduceIte, Bool.false_eq_true]
  omega

/-- Settles O57: a domain is switched only where its command's judgement, a transition that runs, or the part's presence shows
that it is no fused-off one; resets turn every domain but D0 off, and no LOCK reaches the fuses of the variant's code. -/
theorem fusedDomainsStayOff : Obligations.FusedDomainsStayOff := by
  unfold Obligations.FusedDomainsStayOff
  refine ⟨fun s t hs h => (offKept_step h).2 hs, fusedOff_of_init rfl, fun s d => ?_, fun s hl hf hd => ?_⟩
  · exact ⟨fun h => domFused_of_slz4860 h d, fun h => domFused_slz4840 h d, fun h => domFused_slz4820 h d⟩
  · rw [hostRead_dstat s hl, liveWord_dstat, hf, hd]
    exact withFields_fused _

end Sys2Proof.Proofs
end

section
/-! PROOFS. R230 to R233 (family 11_loop_engine): the integrator under the two anti-windup classes, and the limits of the output. -/

namespace Sys2Proof.Proofs
open Sys2Proof Sys2Proof.Machine

section
variable (c : Coef) (h : Hist) (e ff : Int) (sat hi : Bool)

/-- Q, the increment of the first-order stage (R228). -/
def stageIncrement : Int := scaleExp (c.c0 * biquad c h e + c.c1 * h.x1) c.ef

/-- I_c, the candidate of the integrator (R228). -/
def integratorCandidate : Int := sat48 (h.i + stageIncrement c h e)

/-- Where class ACT stops the integration (R232): the last evaluation was limited, and the increment leads further beyond that
limit. -/
def IntegrationStops (q : Int) : Prop := sat = true ∧ (hi = true ∧ 0 < q ∨ hi = false ∧ q < 0)

theorem not_integrationStops {q : Int} (hfree : sat = false ∨ (hi = true ∧ q ≤ 0) ∨ (hi = false ∧ 0 ≤ q)) :
    ¬ IntegrationStops sat hi q := by
  unfold IntegrationStops
  rcases hfree with hsat | ⟨hdir, hq⟩ | ⟨hdir, hq⟩
  · simp [hsat]
  · simp [hdir, Int.not_lt.mpr hq]
  · simp [hdir, Int.not_lt.mpr hq]

/-! ### Limits -/

/-- Where the limits do not cross, clamping is the minimum of a maximum that R230 and R233 write. -/
theorem clampInt_eq_min_max {lo hi : Int} (hle : lo ≤ hi) (v : Int) : clampInt lo hi v = min (max v lo) hi := by
  unfold clampInt
  split
  · omega
  · split <;> omega

theorem clampInt_mem {lo hi : Int} (hle : lo ≤ hi) (v : Int) : lo ≤ clampInt lo hi v ∧ clampInt lo hi v ≤ hi := by
  rw [clampInt_eq_min_max hle]
  omega

/-- The limits less the feedforward term, in the unit of the integrator, stand in the order of OLO and OHI. -/
theorem integratorLimits_le (hle : c.olo ≤ c.ohi) : (c.olo - ff) * 2 ^ 17 ≤ (c.ohi - ff) * 2 ^ 17 := by
  omega

/-! ### The integrator and the output after an evaluation -/

@[simp] theorem formOutput_i (w0 y0 i : Int) : (formOutput c h e w0 y0 ff i hi).hist.i = i := rfl

@[simp] theorem formOutput_u (w0 y0 i : Int) : (formOutput c h e w0 y0 ff i hi).u = limitOut c (sat18s (y0 + ff)) := rfl

/-- Class ACT (R232), with the two tests in the order of the evaluation. -/
theorem lawStep_i_act (hint : c.int = true) (hact : c.act = true) :
    (lawStep c h e ff sat hi).hist.i =
      if sat && hi && decide (0 < stageIncrement c h e) then h.i
      else if sat && !hi && decide (stageIncrement c h e < 0) then h.i
      else integratorCandidate c h e := by
  rw [lawStep, if_pos hint, formOutput_i, if_pos hact]
  rfl

theorem lawStep_i_of_stops (hint : c.int = true) (hact : c.act = true)
    (hstop : IntegrationStops sat hi (stageIncrement c h e)) : (lawStep c h e ff sat hi).hist.i = h.i := by
  rw [lawStep_i_act c h e ff sat hi hint hact]
  obtain ⟨hsat, ⟨hdir, hq⟩ | ⟨hdir, hq⟩⟩ := hstop
  · simp [hsat, hdir, hq]
  · simp [hsat, hdir, hq]

theorem lawStep_i_of_not_stops (hint : c.int = true) (hact : c.act = true)
    (hrun : ¬ IntegrationStops sat hi (stageIncrement c h e)) :
    (lawStep c h e ff sat hi).hist.i = integratorCandidate c h e := by
  obtain ⟨hup, hdown⟩ : ¬ (sat = true ∧ hi = true ∧ 0 < stageIncrement c h e) ∧
      ¬ (sat = true ∧ hi = false ∧ stageIncrement c h e < 0) :=
    ⟨fun ⟨hsat, hq⟩ => hrun ⟨hsat, .inl hq⟩, fun ⟨hsat, hq⟩ => hrun ⟨hsat, .inr hq⟩⟩
  rw [lawStep_i_act c h e ff sat hi hint hact, if_neg (by simpa using hup), if_neg (by simpa using hdown)]

/-- Class CAS (R233). -/
theorem lawStep_i_cas (hint : c.int = true) (hcas : c.act = false) :
    (lawStep c h e ff sat hi).hist.i =
      clampInt ((c.olo - ff) * 2 ^ 17) ((c.ohi - ff) * 2 ^ 17) (integratorCandidate c h e) := by
  simp [lawStep, hint, hcas, integratorCandidate, stageIncrement]

theorem lawStep_i_of_int_off (hint : c.int = false) : (lawStep c h e ff sat hi).hist.i = h.i := by
  simp [lawStep, hint]

theorem lawStep_u_of_int_off (hint : c.int = false) :
    (lawStep c h e ff sat hi).u =
      limitOut c (sat18s (sat18s (sar (sat48 (stageIncrement c h e + c.d1 * h.y1) + 2 ^ 16) 17) + ff)) := by
  simp [lawStep, hint, stageIncrement]

end

/-- Settles O60: by the class, the integrator stops, follows its candidate or is clamped; with INT = 0 it stands still and only
the output is limited. -/
theorem integratorLimits : Obligations.IntegratorLimits := by
  unfold Obligations.IntegratorLimits
  intro c h e ff sat hi q ic o
  refine ⟨fun hint hact => ?act, fun hint hcas hle => ?cas, fun hint => ?off⟩
  case act =>
    have hstop := lawStep_i_of_stops c h e ff sat hi hint hact
    have hrun := lawStep_i_of_not_stops c h e ff sat hi hint hact
    exact ⟨fun hsat hdir hq => hstop ⟨hsat, .inl ⟨hdir, hq⟩⟩, fun hsat hdir hq => hstop ⟨hsat, .inr ⟨hdir, hq⟩⟩,
      fun hfree => hrun (not_integrationStops sat hi hfree)⟩
  case cas =>
    have hlim := integratorLimits_le c ff hle
    have hclamp : o.hist.i = _ := lawStep_i_cas c h e ff sat hi hint hcas
    rw [hclamp]
    exact ⟨clampInt_eq_min_max hlim _, clampInt_mem hlim _⟩
  case off =>
    have hu := lawStep_u_of_int_off c h e ff sat hi hint
    exact ⟨lawStep_i_of_int_off c h e ff sat hi hint, fun hle => hu.trans (clampInt_eq_min_max hle _)⟩

end Sys2Proof.Proofs
end
